-- ==== Sys2Proof/Word.lean ====
section
/-! DEFINITION. The byte that the station links carry, and the two masters. -/

namespace Sys2Proof

/-- One byte of a station link, of a text or of the printer port (R171, R159). -/
abbrev Byte := BitVec 8

/-- The two station links, and with them the two masters (R1's owner, R171). -/
inductive Link where
  | desk
  | panel
deriving DecidableEq, Repr

end Sys2Proof
end

