-- ==== Sys2Proof/Syntax.lean ====
section
/-! DEFINITION. The commands: one constructor per row of spec/opcode_table.json.

Three shapes of operand recur.
* `dt` is the time, in sixteenths of a microsecond, that has passed since the command before it.
  Every row but a request and POWER_ON_RESET carries it (assumption log 2).
* A request row is the arrival of the LAST byte `b` of its frame on the link `lk` (R173): the bytes
  before it came by SELECT_START and BYTE_CLOCK and stand in the link's request buffer.
* Readings of input pins (`sample`, `home`, `loop`, `paperOut`, `busy`) are the level the part reads
  at that moment. -/

namespace Sys2Proof

/-- The commands of the WX-2. The docstring of each constructor names its row and rule. -/
inductive Instr where
  /-- SELECT_START (R172): select is asserted and its first byte `b` is received. -/
  | selectStart (dt : Nat) (lk : Link) (b : Byte)
  /-- SELECT_RELEASE (R173): select is released, `part` when in the middle of a byte. -/
  | selectRelease (dt : Nat) (lk : Link) (part : Bool)
  /-- REPLY_READ (R175): the last byte of a reply frame is clocked out. -/
  | replyRead (dt : Nat) (lk : Link)
  /-- UNKNOWN_REQUEST (R174): last byte of a frame with an unknown command or a length above 64. -/
  | unknownRequest (lk : Link) (b : Byte)
  /-- OPEN_JOB (R4). -/
  | openJob (lk : Link) (b : Byte)
  /-- ADD_LEG (R5). -/
  | addLeg (lk : Link) (b : Byte)
  /-- COMMIT_JOB (R6). -/
  | commitJob (lk : Link) (b : Byte)
  /-- CANCEL_JOB (R19, R20). -/
  | cancelJob (lk : Link) (b : Byte)
  /-- CLEAR_JOB (R23). -/
  | clearJob (lk : Link) (b : Byte)
  /-- SET_PRIORITY (R22). -/
  | setPriority (lk : Link) (b : Byte)
  /-- MOUNT (R10). -/
  | mount (lk : Link) (b : Byte)
  /-- UNMOUNT (R11). -/
  | unmount (lk : Link) (b : Byte)
  /-- SKIP_LEG (R21). -/
  | skipLeg (lk : Link) (b : Byte)
  /-- READ_JOB (R24). -/
  | readJob (lk : Link) (b : Byte)
  /-- READ_LEG (R24). -/
  | readLeg (lk : Link) (b : Byte)
  /-- READ_QUEUE (R8). -/
  | readQueue (lk : Link) (b : Byte)
  /-- WRITE_ROUTE (R29). -/
  | writeRoute (lk : Link) (b : Byte)
  /-- ERASE_ROUTE (R30). -/
  | eraseRoute (lk : Link) (b : Byte)
  /-- READ_ROUTE (R31). -/
  | readRoute (lk : Link) (b : Byte)
  /-- TALK (R147, R35). -/
  | talk (lk : Link) (b : Byte)
  /-- END_TALK (R149). -/
  | endTalk (lk : Link) (b : Byte)
  /-- READ_LINE (R150). -/
  | readLine (lk : Link) (b : Byte)
  /-- DRUM_RUN (R57). -/
  | drumRun (lk : Link) (b : Byte)
  /-- DRUM_STOP (R58). -/
  | drumStop (lk : Link) (b : Byte)
  /-- READ_DRUM (R65, R81). -/
  | readDrum (lk : Link) (b : Byte)
  /-- HOLD_QUEUE (R9). -/
  | holdQueue (lk : Link) (b : Byte)
  /-- RELEASE_QUEUE (R9). -/
  | releaseQueue (lk : Link) (b : Byte)
  /-- SET_MODES (R184). -/
  | setModes (lk : Link) (b : Byte)
  /-- COLLECT_SLIP (R165). -/
  | collectSlip (lk : Link) (b : Byte)
  /-- REPRINT_SLIP (R164). -/
  | reprintSlip (lk : Link) (b : Byte)
  /-- SET_COLLECTION (R166). -/
  | setCollection (lk : Link) (b : Byte)
  /-- READ_SLIP_STATE (R167). -/
  | readSlipState (lk : Link) (b : Byte)
  /-- WRITE_SETTING (R189). -/
  | writeSetting (lk : Link) (b : Byte)
  /-- READ_SETTING (R192). -/
  | readSetting (lk : Link) (b : Byte)
  /-- WRITE_CURVE (R193). -/
  | writeCurve (lk : Link) (b : Byte)
  /-- READ_CURVE (R193). -/
  | readCurve (lk : Link) (b : Byte)
  /-- SET_CLOCK (R195). -/
  | setClock (lk : Link) (b : Byte)
  /-- READ_CLOCK (R195). -/
  | readClock (lk : Link) (b : Byte)
  /-- READ_ATTN (R182). -/
  | readAttn (lk : Link) (b : Byte)
  /-- SET_ATTN (R183). -/
  | setAttn (lk : Link) (b : Byte)
  /-- IDENTIFY (R178). -/
  | identify (lk : Link) (b : Byte)
  /-- MACHINE_RESET (R179). -/
  | machineReset (lk : Link) (b : Byte)
  /-- POWER_ON_RESET (R26 and the other reset rules), with the levels of the input pins. -/
  | powerOnReset (coverOpen home loop paperOut busy : Bool)
  /-- INDEX (R45): `sample` is position 0's reading; `drumFirst` says that the drum controller takes its
  step at this index before the line unit takes the index (R135 leaves the order open). -/
  | index (dt sample : Nat) (drumFirst : Bool)
  /-- ENCODER_PULSE (R72). -/
  | encoderPulse (dt sample : Nat)
  /-- POSITION_START (R71). -/
  | positionStart (dt sample : Nat)
  /-- SPAN_END (R71). -/
  | spanEnd (dt : Nat)
  /-- INDEX_TIMEOUT (R53). -/
  | indexTimeout (dt : Nat)
  /-- SPINUP_LIMIT_EXPIRY (R48). -/
  | spinupLimitExpiry (dt : Nat)
  /-- BRAKING_STILLNESS (R60). -/
  | brakingStillness (dt : Nat)
  /-- IDLE_STOP (R59). -/
  | idleStop (dt : Nat)
  /-- COVER_OPEN (R62). -/
  | coverOpen (dt : Nat)
  /-- COVER_CLOSE (R62). -/
  | coverClose (dt : Nat)
  /-- HEAD_STEP (R77, R78): `home` is HD_HOME after the step. Sent when no step is due, it only tells the
  level HD_HOME now has, as SCAN_STEP_END does: the table has no row for a change of that pin (assumption
  log 23). -/
  | headStep (dt : Nat) (home : Bool)
  /-- HOMING_FAILURE (R79). -/
  | homingFailure (dt : Nat)
  /-- SCAN_STEP_END (R80): `home` is HD_HOME at that moment. -/
  | scanStepEnd (dt : Nat) (home : Bool)
  /-- PHASE_UPDATE (R109). -/
  | phaseUpdate (dt : Nat)
  /-- MARK_STEP_END (R118). -/
  | markStepEnd (dt : Nat)
  /-- TONE_ON_END (R38). -/
  | toneOnEnd (dt : Nat)
  /-- TONE_OFF_END (R38). -/
  | toneOffEnd (dt : Nat)
  /-- BREAK_END (R39). -/
  | breakEnd (dt : Nat)
  /-- MAKE_END (R39). -/
  | makeEnd (dt : Nat)
  /-- INTERDIGIT_END (R39). -/
  | interdigitEnd (dt : Nat)
  /-- PAUSE_END (R40). -/
  | pauseEnd (dt : Nat)
  /-- FLASH_END (R40). -/
  | flashEnd (dt : Nat)
  /-- SEIZE_WINDOW_END (R125): `loop` is the loop sense as it is read and latched. -/
  | seizeWindowEnd (dt : Nat) (loop : Bool)
  /-- READY_EVENT (R128): a tone of `freq` Hz has been present for `held` µs without a break. -/
  | readyEvent (dt freq held : Nat)
  /-- ANSWER_TIMEOUT_EXPIRY (R130). -/
  | answerTimeoutExpiry (dt : Nat)
  /-- PREPARE_LIMIT_EXPIRY (R132). -/
  | prepareLimitExpiry (dt : Nat)
  /-- BRIDGE_LIMIT_EXPIRY (R139). -/
  | bridgeLimitExpiry (dt : Nat)
  /-- STOP_TIME_EXPIRY (R140, R141). -/
  | stopTimeExpiry (dt : Nat)
  /-- SYMBOL_DETECTED (R129): the tones `rowHz` and `colHz` have been present together for `held` µs
  without a break; `gap` is the µs with no pair present just before them. -/
  | symbolDetected (dt rowHz colHz held gap : Nat)
  /-- ANSWERBACK_WINDOW_EXPIRY (R142). -/
  | answerbackWindowExpiry (dt : Nat)
  /-- ANSWERBACK_DEADLINE (R142). -/
  | answerbackDeadline (dt : Nat)
  /-- LOOP_LOST (R127). -/
  | loopLost (dt : Nat)
  /-- GUARD_TIME_EXPIRY (R145). -/
  | guardTimeExpiry (dt : Nat)
  /-- CLOCK_SECOND (R194). -/
  | clockSecond (dt : Nat)
  /-- PRINT_CHARACTER (R159): PAPER_OUT and BUSY as read. -/
  | printCharacter (dt : Nat) (paperOut busy : Bool)
  /-- PAPER_OUT_CLEARS (R162). -/
  | paperOutClears (dt : Nat)
  /-- BUSY_TIMEOUT (R163). -/
  | busyTimeout (dt : Nat)
  /-- BUSY_LOW_IN_FAULT (R163). -/
  | busyLowInFault (dt : Nat)
  /-- LAMP_FRAME (R186): `paperOut` is PAPER_OUT as the frame is built. -/
  | lampFrame (dt : Nat) (paperOut : Bool)
  /-- BYTE_CLOCK (R172): a byte `b` that is neither the first of its select nor the last of a frame. -/
  | byteClock (dt : Nat) (lk : Link) (b : Byte)
  /-- LOOP_SENSE_CHANGE (R127): the loop sense now shows current (`present`) or none. -/
  | loopSenseChange (dt : Nat) (present : Bool)
deriving DecidableEq, Repr

end Sys2Proof
end

