-- ==== Sys2Proof/Decode.lean ====
section
/-! DEFINITION. The command a word spells by the table's bits. spec/opcode_table.json gives bits to no
row (spec/98_reader.md: n_rows_with_fixed 0, n_rows_with_fields 0), so no word spells a command. A
request's frame of bytes is decoded by the station link, in Machine/Operands.lean and
Machine/LinkOps.lean. -/

namespace Sys2Proof

/-- No row of the table gives bits, so no word spells a command. -/
def decodeTableWord (_nbits _w : Nat) : Option Instr := none

end Sys2Proof
end

