-- ==== Sys2Proof/Machine/Records.lean ====
section
/-! DEFINITION. The records the spec gives the blocks of the WX-2, as plain data, with the spec's field
names. A field that may be absent is an Option. -/

namespace Sys2Proof.Machine

/-! ### Stamps, texts, symbols -/

/-- A stamp: day number and second of day (R194). -/
structure Stamp where
  day : Nat
  second : Nat
deriving DecidableEq, Repr

/-- A leg's not-before time: its stamp (R15), and the MODEL's mark that it was set across the wrap of
day 65535 and the clock itself has not wrapped since (R17, R194; assumption log 41). -/
structure NotBefore where
  time : Stamp
  acrossWrap : Bool
deriving DecidableEq, Repr

/-- One symbol of a dial string (R27). -/
inductive DialSym where
  | digit (d : Fin 10)
  | star
  | hash
  | pause
  | flash
deriving DecidableEq, Repr

/-- One symbol of the keypad of R38: of a mark or of an answerback. -/
inductive KeySym where
  | digit (d : Fin 10)
  | star
  | hash
deriving DecidableEq, Repr

/-- The dial mode of a route (R27). -/
inductive DialMode where
  | tone
  | pulse
deriving DecidableEq, Repr

/-- The pulse rate of a route, 10 or 20 pulses per second (R27). -/
inductive PulseRate where
  | pps10
  | pps20
deriving DecidableEq, Repr

/-- The drum speeds, 60, 90 or 120 rpm (R1, R43). -/
inductive Rpm where
  | rpm60
  | rpm90
  | rpm120
deriving DecidableEq, Repr

/-! ### Routes (chapter 2) -/

/-- What is dialled: a dial string, its mode and its pulse rate (R27, R32). -/
structure DialSpec where
  string : List DialSym
  mode : DialMode
  rate : PulseRate
deriving DecidableEq, Repr

/-- A SET record of the route directory (R27); an EMPTY record is `none` in the directory. -/
structure RouteRec where
  label : List Byte
  dial : DialSpec
  code : Option (List (Fin 10))
deriving DecidableEq, Repr

/-- The route of a leg: a directory index or an explicit route (R2, R32). -/
inductive Route where
  | directory (index : Nat)
  | explicit (dial : DialSpec)
deriving DecidableEq, Repr

/-- Where a dial buffer's route came from (R34). -/
inductive RouteSource where
  | directory (index : Nat)
  | explicit
deriving DecidableEq, Repr

/-- The contents of a filled dial buffer, or of a talk request's copy (R34, R35). -/
structure DialBuf where
  source : RouteSource
  dial : DialSpec
  code : Option (List (Fin 10))
deriving DecidableEq, Repr

/-! ### Jobs and legs (chapter 1) -/

/-- The states of a job that is not FREE (R1); FREE is `none` in the job table. -/
inductive JobState where
  | loading
  | queued
  | mounted
  | done
  | partly
  | failed
  | cancelled
deriving DecidableEq, Repr

/-- The states of a leg (R2). -/
inductive LegState where
  | pending
  | active
  | retryWait
  | confirmed
  | unconfirmed
  | wrongStation
  | failed
  | cancelled
  | skipped
deriving DecidableEq, Repr

/-- The last reasons of a leg (R2), which are the reasons an end event may give (R15). -/
inductive Reason where
  | noAnswer
  | lineDead
  | dropped
  | notReady
  | drum
  | lamp
  | noRoute
deriving DecidableEq, Repr

/-- A kept answerback: station code and grade (R2, R143). -/
structure Answerback where
  code : List (Fin 10)
  grade : Fin 10
deriving DecidableEq, Repr

/-- The five notes of a leg, each 0 to 65535, saturating (R2). -/
structure Notes where
  short : Nat
  fill : Nat
  slip : Nat
  lamp : Nat
  bridge : Nat
deriving DecidableEq, Repr

/-- A leg record (R2); its leg index is its place in the job's list. -/
structure Leg where
  route : Route
  state : LegState
  attempts : Nat
  linesSent : Nat
  notBefore : Option NotBefore
  lastReason : Option Reason
  firstAttempt : Option Stamp
  endTime : Option Stamp
  answerback : Option Answerback
  garbled : Bool
  notes : Notes
  slipOwed : Bool
deriving DecidableEq, Repr

/-- A job record of a job that is not FREE (R1); its job number is its place in the table. -/
structure Job where
  state : JobState
  owner : Link
  priority : Nat
  slug : Option (List Byte)
  speed : Rpm
  samples : Nat
  lineCount : Nat
  retries : Nat
  commitNumber : Option Nat
  openTime : Stamp
  commitTime : Option Stamp
  mountTime : Option Stamp
  cancelPending : Bool
  legs : List Leg
deriving DecidableEq, Repr

/-- The reasons of a queue hold (R9). -/
inductive HoldReason where
  | operator
  | drumFault
  | lampLow
deriving DecidableEq, Repr

/-- The mount queue (R7) with its hold flag and reason (R9): not held is `none`. -/
structure MountQueue where
  entries : List Nat
  hold : Option HoldReason
deriving DecidableEq, Repr

/-! ### Drum (chapter 3) -/

/-- The drum states (R43). -/
inductive DrumState where
  | stopped
  | spinup
  | locking
  | locked
  | slip
  | braking
  | fault
deriving DecidableEq, Repr

/-- Why the drum is asked to turn (R43, R55). -/
inductive Demand where
  | job
  | manual
deriving DecidableEq, Repr

/-- The fault causes (R43). -/
inductive FaultCause where
  | spinupLimit
  | coverOpen
deriving DecidableEq, Repr

/-- The drum record (R43). Times are in µs but for the idle time, which is in whole seconds. -/
structure Drum where
  state : DrumState
  target : Option Rpm
  demand : Option Demand
  duty : Nat
  brake : Bool
  period : Option Nat
  lastError : Option Int
  lockCount : Nat
  slipRevs : Nat
  goodCount : Nat
  faultCause : Option FaultCause
  idleTime : Option Nat
  spinupTime : Option Nat
  brakingTime : Option Nat
  indexTime : Nat
  indexHeld : Bool
  coverOpen : Bool
deriving DecidableEq, Repr

/-! ### Position timer and head (chapter 4) -/

/-- The position sources (R68, R188). -/
inductive PosSource where
  | timer
  | encoder
deriving DecidableEq, Repr

/-- The last revolution: complete, or short with the highest position reached (R68, R74). -/
inductive LastRev where
  | complete
  | short (highest : Nat)
deriving DecidableEq, Repr

/-- The position timer's record (R68); `samples`, `gap` and `positions` are S, G and N. -/
structure PosTimer where
  running : Bool
  samples : Option Nat
  gap : Option Nat
  positions : Option Nat
  speed : Option Rpm
  source : Option PosSource
  heldPeriod : Option Nat
  interval : Option Nat
  counter : Option Nat
  lastRev : Option LastRev
deriving DecidableEq, Repr

/-- The head's motion (R76). -/
inductive Motion where
  | idle
  | homing
  | moving
  | step
deriving DecidableEq, Repr

/-- The last homing's outcome (R76). -/
inductive HomingResult where
  | ok
  | failed
deriving DecidableEq, Repr

/-- The head drive's record (R76); `line` is H. -/
structure Head where
  motion : Motion
  line : Nat
  valid : Bool
  target : Option Nat
  owed : Nat
  lastHoming : Option HomingResult
deriving DecidableEq, Repr

/-! ### Scanner (chapter 5) -/

/-- The scanner's states (R83). -/
inductive ScanState where
  | idle
  | waitDrum
  | dark
  | warm
  | whiteRef
  | prepared
  | capturing
  | halted
deriving DecidableEq, Repr

/-- A measurement: none, waiting for an index, or running with its sum and count (R83). -/
inductive Measure where
  | none
  | waiting
  | running (sum count : Nat)
deriving DecidableEq, Repr

/-- The prepared report (R83, R91). -/
inductive PreparedReport where
  | none
  | sent
  | held
deriving DecidableEq, Repr

/-- The line being filled: slot, line number, levels written (R83). -/
structure Filling where
  slot : Nat
  line : Nat
  written : Nat
deriving DecidableEq, Repr

/-- The scan converter's record (R83). -/
structure Scanner where
  state : ScanState
  lamp : Bool
  jobS : Option Nat
  jobT : Option Nat
  jobSpeed : Option Rpm
  resumeLine : Option Nat
  headReady : Bool
  inTransmission : Bool
  dark : Nat
  white : Nat
  lastWhite : Option Nat
  lampLow : Bool
  warmRevs : Nat
  measuring : Measure
  tracking : Measure
  report : PreparedReport
  filling : Option Filling
deriving DecidableEq, Repr

/-! ### Line ring and modulator (chapter 6) -/

/-- A ring slot (R104). The line number and the levels are absent in a FREE slot; levels written is
the number of levels held. -/
inductive Slot where
  | free
  | filling (line : Nat) (levels : List Nat)
  | full (line : Nat) (levels : List Nat)
  | sending (line : Nat) (levels : List Nat)
deriving DecidableEq, Repr

/-- The modulator's modes (R108). -/
inductive Mode where
  | silent
  | pair
  | blackHold
  | phasing
  | picture
  | bridge
  | stop
deriving DecidableEq, Repr

/-- The modulator's record (R108), with the value on the line DAC (R109). -/
structure Modulator where
  mode : Mode
  acc : BitVec 16
  increment : Nat
  freq : Option Nat
  sendingSlot : Option Nat
  lead : Bool
  phasingCount : Nat
  phasingTarget : Option Nat
  linesCopy : Option Nat
  lineCount : Option Nat
  dac : Nat
deriving DecidableEq, Repr

/-- The step a mark is in (R118). -/
inductive MarkStep where
  | idle
  | tone
  | silence
deriving DecidableEq, Repr

/-- The mark generator: the two accumulators and increments of a pair (R117), and the mark being sent
with its symbols, how many are completed, its step and the time left in it, in µs (R118, R119). -/
structure MarkGen where
  rowAcc : BitVec 16
  colAcc : BitVec 16
  rowInc : Nat
  colInc : Nat
  step : MarkStep
  symbols : List KeySym
  completed : Nat
  left : Nat
deriving DecidableEq, Repr

/-! ### Dialer and line (chapters 2 and 7) -/

/-- The dialer's states (R37). -/
inductive DialerState where
  | idle
  | toneOn
  | toneOff
  | breaking
  | making
  | interdigit
  | pause
  | flash
deriving DecidableEq, Repr

/-- The dialer: state, symbol position, breaks left, and the time left in the step, in µs (R37). -/
structure Dialer where
  state : DialerState
  position : Nat
  breaks : Nat
  left : Nat
deriving DecidableEq, Repr

/-- The line states (R121). -/
inductive LineState where
  | idle
  | guard
  | seize
  | dial
  | awaitReady
  | prepareWait
  | mark
  | phasing
  | picture
  | bridge
  | stop
  | answerback
  | talk
deriving DecidableEq, Repr

/-- The call kinds (R121). -/
inductive CallKind where
  | leg
  | talk
deriving DecidableEq, Repr

/-- The closings (R121, R140). -/
inductive Closing where
  | abort
  | bridgeLimit
  | drumFault
deriving DecidableEq, Repr

/-- The tone detector's modes (R121). -/
inductive Detector where
  | off
  | ready
  | digits
deriving DecidableEq, Repr

/-- The limits the state timer times (R121). -/
inductive Limit where
  | seizeWindow
  | answerTimeout
  | prepareLimit
  | bridgeLimit
  | stopTime
  | answerbackWindow
  | answerbackDeadline
  | guardTime
deriving DecidableEq, Repr

/-- A running state timer: the limit being timed and the time left, in µs (R121). -/
structure StateTimer where
  limit : Limit
  left : Nat
deriving DecidableEq, Repr

/-- The delivery outcomes (R15). -/
inductive Delivery where
  | confirmed
  | unconfirmed
  | wrongStation
deriving DecidableEq, Repr

/-- The result of an end event (R15): a reason with or without the machine-fault mark, a delivery
outcome with its answerback and GARBLED flag, or CANCELLED. -/
inductive LegResult where
  | reason (r : Reason) (machineFault : Bool)
  | delivered (o : Delivery) (ab : Option Answerback) (garbled : Bool)
  | cancelled
deriving DecidableEq, Repr

/-- The endings of a talk (R148, R149). -/
inductive TalkEnding where
  | noLoop
  | loopLost
  | endTalk
deriving DecidableEq, Repr

/-- The last ending (R121). -/
inductive LastEnding where
  | leg (job leg : Nat) (result : LegResult) (time : Stamp)
  | talk (ending : TalkEnding) (time : Stamp)
deriving DecidableEq, Repr

/-- A held TALK request with its route copy, or no route (R121, R35). -/
structure PendingTalk where
  route : Option DialBuf
deriving DecidableEq, Repr

/-- The line record (R121). `monitor` is the loop monitor's absent time in µs while it runs. -/
structure LineRec where
  state : LineState
  hook : Bool
  relay : Bool
  kind : Option CallKind
  active : Option (Nat × Nat)
  jobSpeed : Option Rpm
  jobS : Option Nat
  jobT : Option Nat
  prepared : Bool
  pictureReached : Bool
  closing : Option Closing
  talkAfter : Bool
  pendingTalk : Option PendingTalk
  detector : Detector
  answerback : List KeySym
  monitor : Option Nat
  timer : Option StateTimer
  lastEnding : Option LastEnding
deriving DecidableEq, Repr

/-! ### Slips (chapter 8) -/

/-- A slip record (R153). -/
structure SlipRec where
  number : Nat
  job : Nat
  leg : Nat
  owner : Link
  slug : Option (List Byte)
  routeText : List Byte
  station : List (Fin 10)
  attempts : Nat
  linesSent : Nat
  lineCount : Nat
  firstAttempt : Stamp
  endTime : Stamp
  outcome : LegState
  reason : Option Reason
  answerback : Option Answerback
  garbled : Bool
  notes : Notes
  printed : Bool
  collected : Bool
deriving DecidableEq, Repr

/-- The printer states (R160). -/
inductive PrinterState where
  | idle
  | printing
  | paperWait
  | fault
deriving DecidableEq, Repr

/-- What is being printed: a queue record by its slip number, or the copy (R152). -/
inductive PrintItem where
  | record (number : Nat)
  | copy
deriving DecidableEq, Repr

/-- The printing field (R152): the slip, its line 1 to 9, the characters sent in that line, and the
restart mark. -/
structure Printing where
  item : PrintItem
  line : Nat
  chars : Nat
  restarted : Bool
deriving DecidableEq, Repr

/-- The slip unit's record (R152). -/
structure SlipUnit where
  queue : List SlipRec
  owed : List (Nat × Nat)
  nextNumber : Nat
  copy : Option SlipRec
  reprint : Bool
  collection : Bool
  printer : PrinterState
  printing : Option Printing
deriving DecidableEq, Repr

/-! ### Settings and clock (chapter 10) -/

/-- The two MAKE_BREAK choices (R188). -/
inductive MakeBreak where
  | mb4060
  | mb3367
deriving DecidableEq, Repr

/-- The settings record (R188), in the order of the setting numbers 1 to 29. -/
structure Settings where
  stationCode : List (Fin 10)
  blackHz : Nat
  whiteHz : Nat
  bridgeHz : Nat
  stopHz : Nat
  readyHz : Nat
  stopTime : Nat
  phasingRevs : Nat
  resumeRevs : Nat
  answerTimeout : Nat
  prepareLimit : Nat
  bridgeLimit : Nat
  answerbackWindow : Nat
  redialInterval : Nat
  drumIdle : Nat
  drumGain : Nat
  lockClass : Nat
  startDuty60 : Nat
  startDuty90 : Nat
  startDuty120 : Nat
  lampMin : Nat
  toneOn : Nat
  toneOff : Nat
  makeBreak : MakeBreak
  interdigit : Nat
  pauseTime : Nat
  flashTime : Nat
  guardTime : Nat
  positionSource : PosSource
deriving DecidableEq, Repr

/-- The station clock (R194). -/
structure Clock where
  day : Nat
  second : Nat
  cycles : Nat
deriving DecidableEq, Repr

/-! ### Attention (chapter 9) -/

/-- One link's attention record (R180, R187), with its ATTN line (R181). Cause n is bit n. -/
structure Attn where
  latches : BitVec 7
  enables : BitVec 7
  masks : BitVec 7
  globalMask : Bool
  line : Bool
deriving DecidableEq, Repr

/-! ### Replies and links (chapter 9) -/

/-- The result codes (R176). -/
inductive Result where
  | ok
  | clamped
  | unknownRequest
  | badLength
  | badArgument
  | notPermitted
  | localMode
  | noSuchJob
  | tableFull
  | wrongState
  | lineBusy
  | drumBusy
  | notStopped
  | slipOwed
  | curveBad
  | routeBad
  | nothing
deriving DecidableEq, Repr

/-- READ_JOB's reply for a job that is not FREE (R24): every field of R1, the number of legs in place
of the legs themselves, and the place in the mount queue of a QUEUED job. -/
structure JobView where
  state : JobState
  owner : Link
  priority : Nat
  slug : Option (List Byte)
  speed : Rpm
  samples : Nat
  lineCount : Nat
  retries : Nat
  commitNumber : Option Nat
  openTime : Stamp
  commitTime : Option Stamp
  mountTime : Option Stamp
  cancelPending : Bool
  legCount : Nat
  place : Option Nat
deriving DecidableEq, Repr

/-- READ_DRUM's reply (R65, R81): the drum record, the tolerance and nominal period for the target,
the position timer's record and the head drive's record. -/
structure DrumView where
  drum : Drum
  tolerance : Option Nat
  nominal : Option Nat
  timer : PosTimer
  head : Head
deriving DecidableEq, Repr

/-- A measurement as READ_LINE shows it: without its sum (R103). -/
inductive MeasureView where
  | none
  | waiting
  | running (count : Nat)
deriving DecidableEq, Repr

/-- The scanner as READ_LINE shows it (R103). -/
structure ScanView where
  state : ScanState
  lamp : Bool
  jobS : Option Nat
  jobT : Option Nat
  jobSpeed : Option Rpm
  resumeLine : Option Nat
  headReady : Bool
  inTransmission : Bool
  dark : Nat
  white : Nat
  lastWhite : Option Nat
  lampLow : Bool
  warmRevs : Nat
  measuring : MeasureView
  tracking : MeasureView
  report : PreparedReport
  filling : Option (Nat × Nat)
deriving DecidableEq, Repr

/-- A slot's state as READ_LINE shows it (R119). -/
inductive SlotState where
  | free
  | filling
  | full
  | sending
deriving DecidableEq, Repr

/-- A slot as READ_LINE shows it: state, line number and levels written, but not the levels (R119). -/
structure SlotView where
  state : SlotState
  line : Option Nat
  written : Nat
deriving DecidableEq, Repr

/-- The modulator as READ_LINE shows it: without the phase accumulator (R119). -/
structure ModView where
  mode : Mode
  freq : Option Nat
  increment : Nat
  sendingSlot : Option Nat
  lead : Bool
  phasingCount : Nat
  phasingTarget : Option Nat
  linesCopy : Option Nat
  lineCount : Option Nat
deriving DecidableEq, Repr

/-- READ_LINE's reply (R150, R36, R42, R103, R119). `pendingTalk` says whether one is held and
whether it carries a route; `dialSource` is the filled dial buffer's source and `codeHeld` whether
it holds an expected code; `dialing` is the symbol position and the string's length while the line
is in DIAL; `marking` is the mark's symbols completed and its length while one is sent. -/
structure LineView where
  state : LineState
  hook : Bool
  relay : Bool
  kind : Option CallKind
  active : Option (Nat × Nat)
  jobSpeed : Option Rpm
  jobS : Option Nat
  jobT : Option Nat
  prepared : Bool
  pictureReached : Bool
  closing : Option Closing
  talkAfter : Bool
  pendingTalk : Option Bool
  detector : Detector
  answerback : List KeySym
  monitor : Option Nat
  timer : Option StateTimer
  lastEnding : Option LastEnding
  dialSource : Option RouteSource
  codeHeld : Bool
  dialing : Option (Nat × Nat)
  scanner : ScanView
  ring : List SlotView
  modulator : ModView
  marking : Option (Nat × Nat)
deriving DecidableEq, Repr

/-- One queue record as READ_SLIP_STATE shows it (R167). -/
structure SlipLineView where
  number : Nat
  job : Nat
  leg : Nat
  owner : Link
  printed : Bool
  collected : Bool
deriving DecidableEq, Repr

/-- READ_SLIP_STATE's reply (R167). -/
structure SlipView where
  records : List SlipLineView
  owed : List (Nat × Nat)
  nextNumber : Nat
  collection : Bool
  reprint : Bool
  copyNumber : Option Nat
  printer : PrinterState
  printing : Option Printing
deriving DecidableEq, Repr

/-- What a reply carries. `bytes` is the data of a reply whose bytes the spec lays out (or that are
one number); the others are the fields the spec lists for a reply whose bytes it does not lay out
(assumption log 5). -/
inductive ReplyData where
  | empty
  | bytes (bs : List Byte)
  | jobFree
  | job (v : JobView)
  | leg (index : Nat) (v : Leg)
  | queue (hold : Option HoldReason) (entries : List Nat) (mounted : Option Nat)
  | routeEmpty
  | route (v : RouteRec)
  | line (v : LineView)
  | drum (v : DrumView)
  | slip (v : SlipRec)
  | slipState (v : SlipView)
deriving DecidableEq, Repr

/-- A block's answer to a request: one result code and, for some results, data (R174). -/
structure Reply where
  result : Result
  data : ReplyData
deriving DecidableEq, Repr

/-- What the present select is doing (R171). -/
inductive Select where
  | none
  | request
  | read
deriving DecidableEq, Repr

/-- The reply states (R171). -/
inductive ReplyState where
  | empty
  | working
  | ready
  | sending
deriving DecidableEq, Repr

/-- A request buffer that is not empty: command byte, length byte once received, and the argument
bytes received so far (R171). -/
structure ReqBuf where
  cmd : Byte
  len : Option Byte
  args : List Byte
deriving DecidableEq, Repr

/-- A reply buffer that is not empty: the reply and the bytes of its frame already sent (R171). -/
structure RepBuf where
  reply : Reply
  sent : Nat
deriving DecidableEq, Repr

/-- One station link's record (R171), with `dout`, the byte last sent on its data out (R172). -/
structure LinkRec where
  select : Select
  request : Option ReqBuf
  replyState : ReplyState
  reply : Option RepBuf
  dout : Byte
deriving DecidableEq, Repr

/-! ### Pins, and the model's own bookkeeping -/

/-- Pins that no block's record holds. Inputs: `home` (HD_HOME closed), `loop` (LOOP shows current),
`paperOut`, `busy`, `photocell` (the converter's latest reading). Outputs: `hdForward` (HD_DIR),
`hdSteps` (pulses given on HD_STEP), `prData` (PR_DATA), `strobes` (pulses on STROBE), and the lamp
board's three (R186): `lampSent`, the levels LAMP_DATA had at the LAMP_CLK pulses of the last frame,
first sent first, `lampClocks` and `lampLatches`, the pulses given on LAMP_CLK and LAMP_LATCH, and
`lampBoard`, the frame the last latch put on the lamps. -/
structure Pins where
  home : Bool
  loop : Bool
  paperOut : Bool
  busy : Bool
  photocell : Nat
  hdForward : Bool
  hdSteps : Nat
  prData : Option Byte
  strobes : Nat
  lampSent : List Bool
  lampClocks : Nat
  lampLatches : Nat
  lampBoard : BitVec 16
deriving DecidableEq, Repr

/-- The MODEL's own fields: what the part's timers hold besides the fields the spec names
(INVENTORY.md lists each).
* `sub16`: sixteenths of a µs past the last whole µs of the 1 MHz count.
* `idleSub`: µs of the present second of the idle time (R59).
* `indexOver`: the index count has gone past 4,194,303 µs (R45).
* `sinceIndex`: sixteenths of a µs since the index (R71).
* `spanEnded`: the span-end report of this revolution has been sent (R71, R72).
* `headTime`: µs since the head's last step or since the motion was entered (R77, R80).
* `homingSteps`: steps given since the entry to HOMING (R79).
* `toneFrac`, `tonesDue`: the 19200 Hz update clock and the updates that have fallen due (R109).
* `lampTime`: µs since the last lamp frame began (R186).
* `crystalFrac`, `secondsDue`: the crystal's fraction of a cycle and the seconds that have fallen due
  (R194).
* `charTime`, `paperChecked`: µs since the present character began, and whether its PAPER_OUT has
  been read (R159).
* `detTime`, `sinceSymbol`, `readyHz`: µs since the detector's mode was set, µs since the last symbol
  was taken in that mode (none: no symbol yet), and READY_HZ as read on entry to AWAIT_READY (R128,
  R129). -/
structure Aux where
  sub16 : Nat
  idleSub : Nat
  indexOver : Bool
  sinceIndex : Nat
  spanEnded : Bool
  headTime : Nat
  homingSteps : Nat
  toneFrac : Nat
  tonesDue : Nat
  lampTime : Nat
  crystalFrac : Nat
  secondsDue : Nat
  charTime : Nat
  paperChecked : Bool
  detTime : Nat
  sinceSymbol : Option Nat
  readyHz : Nat
deriving DecidableEq, Repr

/-- The modes SET_MODES sets, and the panel's leg-end flag (R184, R185). -/
structure Modes where
  localMode : Bool
  attended : Bool
  legEnd : Bool
deriving DecidableEq, Repr

end Sys2Proof.Machine
end

