-- ==== Sys2Proof/Config.lean ====
section
/-! DEFINITION. The one value the spec leaves open, as a constant with no body. -/

namespace Sys2Proof

/-- FREE VALUE (assumption log 5). The reply bytes that carry data whose layout the spec does not
give: the spec lists the fields of the replies to READ_JOB, READ_LEG, READ_QUEUE, READ_ROUTE,
READ_LINE, READ_DRUM, COLLECT_SLIP and READ_SLIP_STATE, and lays none of them out byte by byte. -/
opaque Config.replyLayout : Machine.ReplyData → List Byte

end Sys2Proof
end

