-- ==== Sys2Proof/Machine/State.lean ====
section
/-! DEFINITION. The state of the WX-2, its fault and refusal types, and the state after power-on reset. -/

namespace Sys2Proof.Machine

/-- The state of the whole part: one field per block record of the spec (INVENTORY.md), the queue of
waiting commands, the remaining pins, and the model's own bookkeeping. -/
structure State where
  pending : List Instr
  jobs : Vector (Option Job) 16
  commitCounter : Nat
  mountQueue : MountQueue
  routes : Vector (Option RouteRec) 24
  drum : Drum
  posTimer : PosTimer
  head : Head
  scan : Scanner
  ring : Vector Slot 4
  modu : Modulator
  markGen : MarkGen
  dialer : Dialer
  dialBuf : Option DialBuf
  line : LineRec
  slips : SlipUnit
  deskLink : LinkRec
  panelLink : LinkRec
  deskAttn : Attn
  panelAttn : Attn
  modes : Modes
  settings : Settings
  curve : Vector Nat 17
  clock : Clock
  pins : Pins
  aux : Aux
deriving DecidableEq, Repr

/-- No command faults: the spec names no condition that stops the part (assumption log 27). SAFE: the
type has no constructor, so no outcome can be a fault. -/
inductive Fault where
deriving DecidableEq, Repr

/-- The refusals of exec. -/
inductive Refusal where
  /-- Raised by exec's arm of a command that has no meaning yet. SAFE: it only stops the run. No arm
  raises it: every row of the table has its meaning. -/
  | notModelled (mnemonic : String)
deriving DecidableEq, Repr

/-- The settings' defaults (R188). -/
def Settings.default : Settings where
  stationCode := [0]
  blackHz := 1500
  whiteHz := 2300
  bridgeHz := 1200
  stopHz := 1000
  readyHz := 1100
  stopTime := 3
  phasingRevs := 20
  resumeRevs := 10
  answerTimeout := 45
  prepareLimit := 30
  bridgeLimit := 20
  answerbackWindow := 10
  redialInterval := 120
  drumIdle := 60
  drumGain := 64
  lockClass := 1
  startDuty60 := 400
  startDuty90 := 560
  startDuty120 := 720
  lampMin := 512
  toneOn := 80
  toneOff := 80
  makeBreak := .mb4060
  interdigit := 700
  pauseTime := 4
  flashTime := 500
  guardTime := 2
  positionSource := .timer

/-- The default tone curve, T[i] = floor(255 × i / 16) (R193). -/
def defaultCurve : Vector Nat 17 :=
  #v[0, 15, 31, 47, 63, 79, 95, 111, 127, 143, 159, 175, 191, 207, 223, 239, 255]

/-- The drum record after power-on reset (R43). The cover is closed: assumption log 7. -/
def Drum.reset : Drum where
  state := .stopped
  target := none
  demand := none
  duty := 0
  brake := false
  period := none
  lastError := none
  lockCount := 0
  slipRevs := 0
  goodCount := 0
  faultCause := none
  idleTime := none
  spinupTime := none
  brakingTime := none
  indexTime := 0
  indexHeld := false
  coverOpen := false

/-- The position timer after power-on reset and machine reset (R68). -/
def PosTimer.reset : PosTimer where
  running := false
  samples := none
  gap := none
  positions := none
  speed := none
  source := none
  heldPeriod := none
  interval := none
  counter := none
  lastRev := none

/-- The head drive after power-on reset (R76). -/
def Head.reset : Head where
  motion := .idle
  line := 0
  valid := false
  target := none
  owed := 0
  lastHoming := none

/-- The scan converter after power-on reset and machine reset (R83). -/
def Scanner.reset : Scanner where
  state := .idle
  lamp := false
  jobS := none
  jobT := none
  jobSpeed := none
  resumeLine := none
  headReady := false
  inTransmission := false
  dark := 0
  white := 0
  lastWhite := none
  lampLow := false
  warmRevs := 0
  measuring := .none
  tracking := .none
  report := .none
  filling := none

/-- The modulator after power-on reset and machine reset (R108, R120). -/
def Modulator.reset : Modulator where
  mode := .silent
  acc := 0
  increment := 0
  freq := none
  sendingSlot := none
  lead := false
  phasingCount := 0
  phasingTarget := none
  linesCopy := none
  lineCount := none
  dac := 128

/-- The mark generator at rest (R120). -/
def MarkGen.reset : MarkGen where
  rowAcc := 0
  colAcc := 0
  rowInc := 0
  colInc := 0
  step := .idle
  symbols := []
  completed := 0
  left := 0

/-- The dialer after power-on reset (R41). -/
def Dialer.reset : Dialer where
  state := .idle
  position := 0
  breaks := 0
  left := 0

/-- The line record after power-on reset (R121). -/
def LineRec.reset : LineRec where
  state := .idle
  hook := false
  relay := false
  kind := none
  active := none
  jobSpeed := none
  jobS := none
  jobT := none
  prepared := false
  pictureReached := false
  closing := none
  talkAfter := false
  pendingTalk := none
  detector := .off
  answerback := []
  monitor := none
  timer := none
  lastEnding := none

/-- The slip unit after power-on reset (R152). -/
def SlipUnit.reset : SlipUnit where
  queue := []
  owed := []
  nextNumber := 1
  copy := none
  reprint := false
  collection := true
  printer := .idle
  printing := none

/-- A station link after power-on reset (R171). The data-out byte is a choice: assumption log 8. -/
def LinkRec.reset : LinkRec where
  select := .none
  request := none
  replyState := .empty
  reply := none
  dout := 0xFF

/-- A link's attention after power-on reset (R187). -/
def Attn.reset : Attn where
  latches := 0
  enables := 0x7F
  masks := 0
  globalMask := true
  line := false

/-- The pins at reset: the inputs' levels and the outputs the spec gives no reset value for are
choices (assumption log 7 and 8); PR_DATA holds no character (R170). -/
def Pins.reset : Pins where
  home := false
  loop := false
  paperOut := false
  busy := false
  photocell := 0
  hdForward := false
  hdSteps := 0
  prData := none
  strobes := 0
  lampSent := []
  lampClocks := 0
  lampLatches := 0
  lampBoard := 0

/-- The model's own fields at reset. The first lamp frame begins when RESET is released (R186), so
its 50 ms are already up; everything else counts from 0 (assumption log 8). -/
def Aux.reset : Aux where
  sub16 := 0
  idleSub := 0
  indexOver := false
  sinceIndex := 0
  spanEnded := false
  headTime := 0
  homingSteps := 0
  toneFrac := 0
  tonesDue := 0
  lampTime := 50000
  crystalFrac := 0
  secondsDue := 0
  charTime := 0
  paperChecked := false
  detTime := 0
  sinceSymbol := none
  readyHz := 0

/-- The machine right after power-on reset (R26, R27, R66, R68, R76, R83, R104, R108, R121, R152,
R171, R187, R188, R193, R194), with no command waiting. -/
def State.reset : State where
  pending := []
  jobs := Vector.replicate 16 none
  commitCounter := 0
  mountQueue := { entries := [], hold := none }
  routes := Vector.replicate 24 none
  drum := Drum.reset
  posTimer := PosTimer.reset
  head := Head.reset
  scan := Scanner.reset
  ring := Vector.replicate 4 Slot.free
  modu := Modulator.reset
  markGen := MarkGen.reset
  dialer := Dialer.reset
  dialBuf := none
  line := LineRec.reset
  slips := SlipUnit.reset
  deskLink := LinkRec.reset
  panelLink := LinkRec.reset
  deskAttn := Attn.reset
  panelAttn := Attn.reset
  modes := { localMode := false, attended := false, legEnd := false }
  settings := Settings.default
  curve := defaultCurve
  clock := { day := 0, second := 0, cycles := 0 }
  pins := Pins.reset
  aux := Aux.reset

end Sys2Proof.Machine
end

