-- ==== Sys2Proof/Machine/Values.lean ====
section
/-! DEFINITION. The numbers and the arithmetic of the spec: durations, drum periods, geometry, levels,
tones, keypad, and the texts of a slip. -/

namespace Sys2Proof.Machine

/-! ### Durations. The timers count in µs. -/

/-- Seconds, in µs. -/
def sec (n : Nat) : Nat := n * 1000000

/-- Milliseconds, in µs. -/
def msec (n : Nat) : Nat := n * 1000

/-- The index count saturates at 4,194,303 µs (R43, R45). -/
def indexMax : Nat := 4194303

/-- A spin-up fails after 20 s (R48). -/
def spinupLimit : Nat := sec 20

/-- The drum is still after 2 s without an index (R58, R60). -/
def stillTime : Nat := sec 2

/-- One step time of the head, 2.5 ms, at 400 steps per second (R76). -/
def stepTime : Nat := 2500

/-- Homing fails after 4100 steps (R79). -/
def homingLimit : Nat := 4100

/-- The loop-check window (R125). -/
def seizeWindow : Nat := msec 300

/-- The absent time at which the loop is lost (R127). -/
def loopLossTime : Nat := msec 400

/-- How long the ready tone is held (R128). -/
def readyHold : Nat := sec 2

/-- How long a keypad pair is held, and how long the silence before the next (R129). -/
def symbolHold : Nat := msec 40

/-- The deadline after the answerback window (R142). -/
def deadlineTime : Nat := sec 10

/-- The printer's busy timeout (R163). -/
def busyLimit : Nat := sec 10

/-- The time between two lamp frames (R186). -/
def lampPeriod : Nat := msec 50

/-- Line-DAC updates a second (R109). -/
def updateRate : Nat := 19200

/-- Cycles of the crystal a second (R194). -/
def crystalRate : Nat := 32768

/-- Sixteenths of a µs in a second: the unit of `dt`. -/
def unitRate : Nat := 16000000

/-! ### The drum (chapter 3) -/

/-- The nominal period in µs (R46). -/
def pNom : Rpm → Nat
  | .rpm60 => 1000000
  | .rpm90 => 666667
  | .rpm120 => 500000

/-- The factor k of the lock tolerance (R46). -/
def lockFactor : Nat → Nat
  | 0 => 5
  | 1 => 10
  | 2 => 20
  | _ => 50

/-- The lock tolerance in µs (R46). -/
def tolerance (lockClass : Nat) (r : Rpm) : Nat := pNom r * lockFactor lockClass / 10000

/-- The spin-up threshold in µs (R46). -/
def spinupThreshold (r : Rpm) : Nat := pNom r * 11 / 10

/-- The index timeout in µs (R46, R53). -/
def indexTimeout (r : Rpm) : Nat := 2 * pNom r

/-- The start duty for a target speed (R47). -/
def startDuty (g : Settings) : Rpm → Nat
  | .rpm60 => g.startDuty60
  | .rpm90 => g.startDuty90
  | .rpm120 => g.startDuty120

/-- The error of a revolution (R45). -/
def periodError (p : Nat) (r : Rpm) : Int := (p : Int) - (pNom r : Int)

/-- The corrected duty: U plus floor(e × DRUM_GAIN / 4096), clamped to 0 to 1023 (R49). -/
def correctedDuty (u : Nat) (e : Int) (gain : Nat) : Nat :=
  (max 0 (min 1023 ((u : Int) + e * (gain : Int) / 4096))).toNat

/-- The drum speed a byte of a request names (R4, R57). -/
def Rpm.ofNat? : Nat → Option Rpm
  | 60 => some .rpm60
  | 90 => some .rpm90
  | 120 => some .rpm120
  | _ => none

/-! ### Geometry and intervals (chapter 4) -/

/-- The gap positions, G = S / 8 (R67). -/
def gapOf (samples : Nat) : Nat := samples / 8

/-- The positions of a revolution, N = S + G (R67). -/
def positionsOf (samples : Nat) : Nat := samples + gapOf samples

/-- Whether a position lies in the clamp band, G/4 to 3G/4 - 1 (R67). -/
def inClamp (samples k : Nat) : Bool :=
  decide (gapOf samples / 4 ≤ k) && decide (k < 3 * gapOf samples / 4)

/-- The last position of the clamp band (R67). -/
def clampLast (samples : Nat) : Nat := 3 * gapOf samples / 4 - 1

/-- The number of samples of the clamp band, S/16 (R67). -/
def clampCount (samples : Nat) : Nat := samples / 16

/-- Whether a position lies in the span, G to N - 1 (R67). -/
def inSpan (samples k : Nat) : Bool :=
  decide (gapOf samples ≤ k) && decide (k < positionsOf samples)

/-- The interval in sixteenths of a µs, at least 1 (R70). -/
def intervalOf (pPrev positions : Nat) : Nat := max 1 (pPrev * 16 / positions)

/-! ### Levels (chapter 5) -/

/-- The dark value: floor(sum / S), clamped to 1023 (R88). -/
def darkValue (sum samples : Nat) : Nat := min 1023 (sum / samples)

/-- Stages 1 and 2: offset, clamp and normalisation to 0 to 1024 (R95). -/
def normalised (d w r : Nat) : Nat := min (r - d) (w - d) * 1024 / (w - d)

/-- Stage 3: the tone curve (R96). -/
def curveLevel (c : Vector Nat 17) (q : Nat) : Nat :=
  let i := min 15 (q / 64)
  let f := q - 64 * i
  let lo := c.toList.getD i 0
  let hi := c.toList.getD (i + 1) 0
  lo + ((hi - lo) * f + 32) / 64

/-- Stages 1 to 3: the level of a raw sample (R95, R96). -/
def levelOf (c : Vector Nat 17) (d w r : Nat) : Nat := curveLevel c (normalised d w r)

/-- The tracked white reference: W + trunc((W_meas - W) / 8) (R93). -/
def trackedWhite (w meas : Nat) : Nat := ((w : Int) + Int.tdiv ((meas : Int) - w) 8).toNat

/-! ### Tones (chapter 6) -/

/-- Stage 4: the frequency of a level, in Hz (R110). -/
def levelFreq (black white l : Nat) : Nat :=
  ((black : Int) + (((white : Int) - black) * l + 127) / 255).toNat

/-- Stage 5: the phase increment of a frequency (R110). -/
def phaseStep (f : Nat) : Nat := (f * 65536 + 9600) / 19200

/-- The sine table: 128 plus 127 × sin(2π × k / 256), rounded to the nearest (R109). -/
def sineTable : List Nat :=
  [128, 131, 134, 137, 140, 144, 147, 150, 153, 156, 159, 162, 165, 168, 171, 174,
   177, 179, 182, 185, 188, 191, 193, 196, 199, 201, 204, 206, 209, 211, 213, 216,
   218, 220, 222, 224, 226, 228, 230, 232, 234, 235, 237, 239, 240, 241, 243, 244,
   245, 246, 248, 249, 250, 250, 251, 252, 253, 253, 254, 254, 254, 255, 255, 255] ++
  [255, 255, 255, 255, 254, 254, 254, 253, 253, 252, 251, 250, 250, 249, 248, 246,
   245, 244, 243, 241, 240, 239, 237, 235, 234, 232, 230, 228, 226, 224, 222, 220,
   218, 216, 213, 211, 209, 206, 204, 201, 199, 196, 193, 191, 188, 185, 182, 179,
   177, 174, 171, 168, 165, 162, 159, 156, 153, 150, 147, 144, 140, 137, 134, 131] ++
  [128, 125, 122, 119, 116, 112, 109, 106, 103, 100, 97, 94, 91, 88, 85, 82,
   79, 77, 74, 71, 68, 65, 63, 60, 57, 55, 52, 50, 47, 45, 43, 40,
   38, 36, 34, 32, 30, 28, 26, 24, 22, 21, 19, 17, 16, 15, 13, 12,
   11, 10, 8, 7, 6, 6, 5, 4, 3, 3, 2, 2, 2, 1, 1, 1] ++
  [1, 1, 1, 1, 2, 2, 2, 3, 3, 4, 5, 6, 6, 7, 8, 10,
   11, 12, 13, 15, 16, 17, 19, 21, 22, 24, 26, 28, 30, 32, 34, 36,
   38, 40, 43, 45, 47, 50, 52, 55, 57, 60, 63, 65, 68, 71, 74, 77,
   79, 82, 85, 88, 91, 94, 97, 100, 103, 106, 109, 112, 116, 119, 122, 125]

/-- The entry the top 8 bits of an accumulator choose (R109). -/
def sineOf (acc : BitVec 16) : Nat := sineTable.getD (acc.toNat / 256) 128

/-- The line DAC's mid-scale (R108). -/
def midScale : Nat := 128

/-! ### The keypad (R38) -/

/-- The row tone of a keypad symbol, in Hz. -/
def rowTone : KeySym → Nat
  | .digit 0 => 941
  | .digit d => if d.val ≤ 3 then 697 else if d.val ≤ 6 then 770 else 852
  | .star => 941
  | .hash => 941

/-- The column tone of a keypad symbol, in Hz. -/
def colTone : KeySym → Nat
  | .digit 0 => 1336
  | .digit d => if d.val % 3 = 1 then 1209 else if d.val % 3 = 2 then 1336 else 1477
  | .star => 1209
  | .hash => 1477

/-- The twelve symbols of the keypad. -/
def keypad : List KeySym :=
  [.digit 0, .digit 1, .digit 2, .digit 3, .digit 4, .digit 5, .digit 6, .digit 7, .digit 8,
   .digit 9, .star, .hash]

/-- The symbol two tones make, if they are a pair of the keypad (R129). -/
def keyOf? (row col : Nat) : Option KeySym :=
  keypad.find? fun k => rowTone k == row && colTone k == col

/-! ### Pulse dialling (R39) -/

/-- The period of a break and its make, in ms. -/
def pulsePeriod : PulseRate → Nat
  | .pps10 => 100
  | .pps20 => 50

/-- The factor b of the break time. -/
def breakFactor : MakeBreak → Nat
  | .mb4060 => 60
  | .mb3367 => 67

/-- The break time in ms: floor(period × b / 100). -/
def breakMs (r : PulseRate) (m : MakeBreak) : Nat := pulsePeriod r * breakFactor m / 100

/-- The make time in ms: the rest of the period. -/
def makeMs (r : PulseRate) (m : MakeBreak) : Nat := pulsePeriod r - breakMs r m

/-- The breaks of a pulse digit: d for 1 to 9, and 10 for 0. -/
def breaksOf (d : Fin 10) : Nat := if d.val = 0 then 10 else d.val

/-! ### Numbers as bytes and as text -/

/-- A number as two bytes, most significant first (R173, R188). -/
def be2 (n : Nat) : List Byte := [BitVec.ofNat 8 (n / 256), BitVec.ofNat 8 n]

/-- A number as three bytes, most significant first (R195). -/
def be3 (n : Nat) : List Byte :=
  [BitVec.ofNat 8 (n / 65536), BitVec.ofNat 8 (n / 256), BitVec.ofNat 8 n]

/-- The number two bytes carry, most significant first (R173). -/
def num2 (a b : Byte) : Nat := a.toNat * 256 + b.toNat

/-- The number three bytes carry, most significant first (R195). -/
def num3 (a b c : Byte) : Nat := (a.toNat * 256 + b.toNat) * 256 + c.toNat

/-- The character of a decimal digit. -/
def digitChar (d : Nat) : Byte := BitVec.ofNat 8 (48 + d % 10)

/-- The last `w` decimal digits of a number, leading zeros kept. -/
def decFixed : Nat → Nat → List Byte
  | 0, _ => []
  | w + 1, n => decFixed w (n / 10) ++ [digitChar n]

/-- How many decimal digits a number has, at most `fuel` + 1. -/
def decWidth : Nat → Nat → Nat
  | 0, _ => 1
  | fuel + 1, n => if n < 10 then 1 else decWidth fuel (n / 10) + 1

/-- A number in decimal without leading zeros (R169). -/
def dec (n : Nat) : List Byte := decFixed (decWidth 9 n) n

/-- A string of digits as characters. -/
def digitsText (ds : List (Fin 10)) : List Byte := ds.map fun d => digitChar d.val

/-- The character of a dial symbol (R176). -/
def dialChar : DialSym → Byte
  | .digit d => digitChar d.val
  | .star => 42
  | .hash => 35
  | .pause => 80
  | .flash => 70

/-- A text given by its character codes. -/
def text (codes : List Nat) : List Byte := codes.map (BitVec.ofNat 8)

/-- A day as five digits, a space, and a second of day as HH:MM:SS (R169). -/
def timeText (t : Stamp) : List Byte :=
  decFixed 5 t.day ++ [32] ++ decFixed 2 (t.second / 3600) ++ [58] ++
    decFixed 2 (t.second / 60 % 60) ++ [58] ++ decFixed 2 (t.second % 60)

/-- "WIREPHOTO RECEIPT " -/
def txtReceipt : List Byte := text [87, 73, 82, 69, 80, 72, 79, 84, 79, 32, 82, 69, 67, 69, 73, 80, 84, 32]

/-- " COPY" -/
def txtCopy : List Byte := text [32, 67, 79, 80, 89]

/-- " RESTARTED" -/
def txtRestarted : List Byte := text [32, 82, 69, 83, 84, 65, 82, 84, 69, 68]

/-- "START DAY " -/
def txtStart : List Byte := text [83, 84, 65, 82, 84, 32, 68, 65, 89, 32]

/-- "TO " -/
def txtTo : List Byte := text [84, 79, 32]

/-- "LINES " -/
def txtLines : List Byte := text [76, 73, 78, 69, 83, 32]

/-- " ATTEMPTS " -/
def txtAttempts : List Byte := text [32, 65, 84, 84, 69, 77, 80, 84, 83, 32]

/-- "RESULT " -/
def txtResult : List Byte := text [82, 69, 83, 85, 76, 84, 32]

/-- "ANSWERBACK " -/
def txtAnswerback : List Byte := text [65, 78, 83, 87, 69, 82, 66, 65, 67, 75, 32]

/-- " GRADE " -/
def txtGrade : List Byte := text [32, 71, 82, 65, 68, 69, 32]

/-- "GARBLED" -/
def txtGarbled : List Byte := text [71, 65, 82, 66, 76, 69, 68]

/-- "NOT CONFIRMED" -/
def txtNotConfirmed : List Byte := text [78, 79, 84, 32, 67, 79, 78, 70, 73, 82, 77, 69, 68]

/-- "N " -/
def txtNotes : List Byte := text [78, 32]

/-- "STN " -/
def txtStn : List Byte := text [83, 84, 78, 32]

/-- " END " -/
def txtEnd : List Byte := text [32, 69, 78, 68, 32]

/-- "ROUTE " -/
def txtRoute : List Byte := text [82, 79, 85, 84, 69, 32]

/-- The name of a reason, as a slip prints it (R169). -/
def reasonText : Reason → List Byte
  | .noAnswer => text [78, 79, 95, 65, 78, 83, 87, 69, 82]  -- NO_ANSWER
  | .lineDead => text [76, 73, 78, 69, 95, 68, 69, 65, 68]  -- LINE_DEAD
  | .dropped => text [68, 82, 79, 80, 80, 69, 68]  -- DROPPED
  | .notReady => text [78, 79, 84, 95, 82, 69, 65, 68, 89]  -- NOT_READY
  | .drum => text [68, 82, 85, 77]  -- DRUM
  | .lamp => text [76, 65, 77, 80]  -- LAMP
  | .noRoute => text [78, 79, 95, 82, 79, 85, 84, 69]  -- NO_ROUTE

/-- The name of a leg state, as a slip prints an outcome (R169); an outcome is always terminal (R153). -/
def outcomeText : LegState → List Byte
  | .confirmed => text [67, 79, 78, 70, 73, 82, 77, 69, 68]  -- CONFIRMED
  | .unconfirmed => text [85, 78, 67, 79, 78, 70, 73, 82, 77, 69, 68]  -- UNCONFIRMED
  | .wrongStation => text [87, 82, 79, 78, 71, 95, 83, 84, 65, 84, 73, 79, 78]  -- WRONG_STATION
  | .failed => text [70, 65, 73, 76, 69, 68]  -- FAILED
  | .cancelled => text [67, 65, 78, 67, 69, 76, 76, 69, 68]  -- CANCELLED
  | .skipped => text [83, 75, 73, 80, 80, 69, 68]  -- SKIPPED
  | .pending => []
  | .active => []
  | .retryWait => []

/-! ### The slip print layout (R169) -/

/-- Line 7: the answerback, GARBLED, or NOT CONFIRMED. -/
def answerbackText (r : SlipRec) : List Byte :=
  match r.answerback with
  | some ab => txtAnswerback ++ digitsText ab.code ++ txtGrade ++ [digitChar ab.grade.val]
  | none => if r.garbled then txtGarbled else txtNotConfirmed

/-- The text of one of the nine lines of a slip, without its line feed: `copy` for a copy, `restarted`
for a restarted queue record; COPY takes the place of RESTARTED. -/
def slipLine (r : SlipRec) (copy restarted : Bool) : Nat → List Byte
  | 1 => txtReceipt ++ decFixed 4 r.number ++
      (if copy then txtCopy else if restarted then txtRestarted else [])
  | 2 => txtStart ++ timeText r.firstAttempt
  | 3 => r.slug.getD []
  | 4 => txtTo ++ r.routeText
  | 5 => txtLines ++ decFixed 4 r.linesSent ++ [47] ++ decFixed 4 r.lineCount ++ txtAttempts ++
      dec r.attempts
  | 6 => txtResult ++ outcomeText r.outcome ++
      (match r.reason with
        | some x => [32] ++ reasonText x
        | none => [])
  | 7 => answerbackText r
  | 8 => txtNotes ++ dec r.notes.short ++ [47] ++ dec r.notes.fill ++ [47] ++ dec r.notes.slip ++
      [47] ++ dec r.notes.lamp ++ [47] ++ dec r.notes.bridge
  | 9 => txtStn ++ digitsText r.station ++ txtEnd ++ timeText r.endTime
  | _ => []

/-- The line feed that ends each printed line (R159). -/
def lineFeed : Byte := 10

/-- The characters of a line as they are sent, line feed included. -/
def slipChars (r : SlipRec) (copy restarted : Bool) (n : Nat) : List Byte :=
  slipLine r copy restarted n ++ [lineFeed]

end Sys2Proof.Machine
end

