-- ==== Sys2Proof/Machine/Ops.lean ====
section
/-! DEFINITION. The named writes of the state's fields, the passing of time, and the reads the blocks
share. Laws/State.lean says what each write leaves alone. -/

namespace Sys2Proof.Machine

/-! ### One named write per field -/

/-- The state with `pending` replaced. -/
def State.setPending (s : State) (x : List Instr) : State := { s with pending := x }

/-- The state with `jobs` replaced. -/
def State.setJobs (s : State) (x : Vector (Option Job) 16) : State := { s with jobs := x }

/-- The state with `commitCounter` replaced. -/
def State.setCommitCounter (s : State) (x : Nat) : State := { s with commitCounter := x }

/-- The state with `mountQueue` replaced. -/
def State.setMountQueue (s : State) (x : MountQueue) : State := { s with mountQueue := x }

/-- The state with `routes` replaced. -/
def State.setRoutes (s : State) (x : Vector (Option RouteRec) 24) : State := { s with routes := x }

/-- The state with `drum` replaced. -/
def State.setDrum (s : State) (x : Drum) : State := { s with drum := x }

/-- The state with `posTimer` replaced. -/
def State.setPosTimer (s : State) (x : PosTimer) : State := { s with posTimer := x }

/-- The state with `head` replaced. -/
def State.setHead (s : State) (x : Head) : State := { s with head := x }

/-- The state with `scan` replaced. -/
def State.setScan (s : State) (x : Scanner) : State := { s with scan := x }

/-- The state with `ring` replaced. -/
def State.setRing (s : State) (x : Vector Slot 4) : State := { s with ring := x }

/-- The state with `modu` replaced. -/
def State.setModu (s : State) (x : Modulator) : State := { s with modu := x }

/-- The state with `markGen` replaced. -/
def State.setMarkGen (s : State) (x : MarkGen) : State := { s with markGen := x }

/-- The state with `dialer` replaced. -/
def State.setDialer (s : State) (x : Dialer) : State := { s with dialer := x }

/-- The state with `dialBuf` replaced. -/
def State.setDialBuf (s : State) (x : Option DialBuf) : State := { s with dialBuf := x }

/-- The state with `line` replaced. -/
def State.setLine (s : State) (x : LineRec) : State := { s with line := x }

/-- The state with `slips` replaced. -/
def State.setSlips (s : State) (x : SlipUnit) : State := { s with slips := x }

/-- The state with `deskLink` replaced. -/
def State.setDeskLink (s : State) (x : LinkRec) : State := { s with deskLink := x }

/-- The state with `panelLink` replaced. -/
def State.setPanelLink (s : State) (x : LinkRec) : State := { s with panelLink := x }

/-- The state with `deskAttn` replaced. -/
def State.setDeskAttn (s : State) (x : Attn) : State := { s with deskAttn := x }

/-- The state with `panelAttn` replaced. -/
def State.setPanelAttn (s : State) (x : Attn) : State := { s with panelAttn := x }

/-- The state with `modes` replaced. -/
def State.setModes (s : State) (x : Modes) : State := { s with modes := x }

/-- The state with `settings` replaced. -/
def State.setSettings (s : State) (x : Settings) : State := { s with settings := x }

/-- The state with `curve` replaced. -/
def State.setCurve (s : State) (x : Vector Nat 17) : State := { s with curve := x }

/-- The state with `clock` replaced. -/
def State.setClock (s : State) (x : Clock) : State := { s with clock := x }

/-- The state with `pins` replaced. -/
def State.setPins (s : State) (x : Pins) : State := { s with pins := x }

/-- The state with `aux` replaced. -/
def State.setAux (s : State) (x : Aux) : State := { s with aux := x }

/-! ### Links and attention by link -/

/-- The record of a link (R171). -/
def State.link (s : State) : Link → LinkRec
  | .desk => s.deskLink
  | .panel => s.panelLink

/-- The state with one link's record replaced; the other link's is untouched (R171). -/
def State.setLink (s : State) (lk : Link) (r : LinkRec) : State :=
  match lk with
  | .desk => s.setDeskLink r
  | .panel => s.setPanelLink r

/-- The attention record of a link (R180). -/
def State.attn (s : State) : Link → Attn
  | .desk => s.deskAttn
  | .panel => s.panelAttn

/-- The state with one link's attention replaced. -/
def State.setAttn (s : State) (lk : Link) (a : Attn) : State :=
  match lk with
  | .desk => s.setDeskAttn a
  | .panel => s.setPanelAttn a

/-! ### The passing of time (assumption log 1, 2, 28) -/

/-- The drum's times after `us` µs: the index time saturates (R43); the idle time counts whole
seconds, of which `sub` µs had already passed (R59). -/
def Drum.elapse (us sub : Nat) (d : Drum) : Drum :=
  { d with
    indexTime := min indexMax (d.indexTime + us)
    spinupTime := d.spinupTime.map (· + us)
    brakingTime := d.brakingTime.map (· + us)
    idleTime := d.idleTime.map (· + (sub + us) / 1000000) }

/-- The line's timers after `us` µs: the state timer runs down; the loop monitor's absent time counts
up while the sense shows no current and is 0 while it does (R121, R127). -/
def LineRec.elapse (us : Nat) (loop : Bool) (l : LineRec) : LineRec :=
  { l with
    timer := l.timer.map fun t => { t with left := t.left - us }
    monitor := l.monitor.map fun a => if loop then 0 else a + us }

/-- The dialer's step after `us` µs (R37). -/
def Dialer.elapse (us : Nat) (d : Dialer) : Dialer := { d with left := d.left - us }

/-- The mark's step after `us` µs (R118). -/
def MarkGen.elapse (us : Nat) (m : MarkGen) : MarkGen := { m with left := m.left - us }

/-- The crystal cycles counted after `dt` sixteenths of a µs, before the count returns to 0 (R194). -/
def crystalCount (dt : Nat) (a : Aux) (k : Clock) : Nat :=
  k.cycles + (a.crystalFrac + dt * crystalRate) / unitRate

/-- The model's own timers after `dt` sixteenths of a µs, `us` of them whole µs. -/
def Aux.elapse (dt us : Nat) (idle past : Bool) (k : Clock) (a : Aux) : Aux :=
  { a with
    sub16 := (a.sub16 + dt) % 16
    idleSub := if idle then (a.idleSub + us) % 1000000 else 0
    indexOver := a.indexOver || past
    sinceIndex := a.sinceIndex + dt
    headTime := a.headTime + us
    toneFrac := (a.toneFrac + dt * updateRate) % unitRate
    tonesDue := a.tonesDue + (a.toneFrac + dt * updateRate) / unitRate
    lampTime := a.lampTime + us
    crystalFrac := (a.crystalFrac + dt * crystalRate) % unitRate
    secondsDue := a.secondsDue + crystalCount dt a k / crystalRate
    charTime := a.charTime + us
    detTime := a.detTime + us
    sinceSymbol := a.sinceSymbol.map (· + us) }

/-- `dt` sixteenths of a µs pass: every timer of the part runs on, and nothing else changes. -/
def elapse (dt : Nat) (s : State) : State :=
  let us := (s.aux.sub16 + dt) / 16
  (((((s.setDrum (s.drum.elapse us s.aux.idleSub)).setLine (s.line.elapse us s.pins.loop)).setDialer
    (s.dialer.elapse us)).setMarkGen (s.markGen.elapse us)).setClock
    { s.clock with cycles := crystalCount dt s.aux s.clock % crystalRate }).setAux
    (s.aux.elapse dt us s.drum.idleTime.isSome (decide (indexMax < s.drum.indexTime + us)) s.clock)

/-! ### Stamps and comparisons of time -/

/-- The stamp of an event taken now (R194). -/
def State.stamp (s : State) : Stamp := { day := s.clock.day, second := s.clock.second }

/-- Whether a stamp is reached, by day number first and second of day next (R17). -/
def Stamp.reached (t now : Stamp) : Bool :=
  decide (t.day < now.day) || (decide (t.day = now.day) && decide (t.second ≤ now.second))

/-- Whether a leg's not-before time is reached: not while it lies across a wrap the clock has still to
make (R17, R194). -/
def NotBefore.reached (t : NotBefore) (now : Stamp) : Bool := !t.acrossWrap && t.time.reached now

/-- A stamp so many seconds later, the second of day carried into the day number (R15, R194). -/
def Stamp.plus (t : Stamp) (secs : Nat) : Stamp :=
  { day := (t.day + (t.second + secs) / 86400) % 65536, second := (t.second + secs) % 86400 }

/-- The not-before time so many seconds after a stamp, marked if it falls past day 65535 (R15, R17). -/
def Stamp.retryAt (t : Stamp) (secs : Nat) : NotBefore :=
  { time := t.plus secs, acrossWrap := decide (65535 < t.day + (t.second + secs) / 86400) }

/-! ### Jobs and legs -/

/-- A job that is not FREE. -/
def State.job? (s : State) (j : Nat) : Option Job := (s.jobs[j]?).join

/-- Replace a job entry; `none` makes it FREE. -/
def State.setJob (s : State) (j : Nat) (x : Option Job) : State :=
  s.setJobs (s.jobs.setIfInBounds j x)

/-- A leg of a job that is not FREE. -/
def State.leg? (s : State) (j l : Nat) : Option Leg := (s.job? j).bind fun x => x.legs[l]?

/-- Change one leg of a job. -/
def State.modLeg (s : State) (j l : Nat) (f : Leg → Leg) : State :=
  match s.job? j with
  | some x => s.setJob j (some { x with legs := x.legs.modify l f })
  | none => s

/-- Whether a job is in a terminal state (R1). -/
def JobState.terminal : JobState → Bool
  | .done => true
  | .partly => true
  | .failed => true
  | .cancelled => true
  | _ => false

/-- Whether a leg is in a terminal state (R2). -/
def LegState.terminal : LegState → Bool
  | .pending => false
  | .active => false
  | .retryWait => false
  | _ => true

/-- Whether a leg outcome counts as delivered (R18). -/
def LegState.deliveredState : LegState → Bool
  | .confirmed => true
  | .unconfirmed => true
  | .wrongStation => true
  | _ => false

/-- Whether a leg waits: PENDING or RETRY_WAIT. -/
def LegState.waiting : LegState → Bool
  | .pending => true
  | .retryWait => true
  | _ => false

/-- Whether a job holds an ACTIVE leg. -/
def Job.hasActive (x : Job) : Bool := x.legs.any fun g => g.state == .active

/-- The job numbers, in order. -/
def jobNumbers : List Nat := List.range 16

/-- The MOUNTED job, if there is one (R8, R12). -/
def State.mounted? (s : State) : Option Nat :=
  jobNumbers.find? fun j => (s.job? j).any fun x => x.state == .mounted

/-- Whether any leg of the table is ACTIVE (R57, R191). -/
def State.legActive (s : State) : Bool :=
  jobNumbers.any fun j => (s.job? j).any Job.hasActive

/-! ### Limits of the state timer -/

/-- Start a limit of the state timer (R121). -/
def State.startLimit (s : State) (l : Limit) (us : Nat) : State :=
  s.setLine { s.line with timer := some { limit := l, left := us } }

/-- Stop the state timer. -/
def State.stopLimit (s : State) : State := s.setLine { s.line with timer := none }

/-- Whether a limit is being timed and has run out. -/
def State.limitDue (s : State) (l : Limit) : Bool :=
  match s.line.timer with
  | some t => t.limit == l && t.left == 0
  | none => false

end Sys2Proof.Machine
end

