-- ==== Sys2Proof/Machine/Flags.lean ====
section
/-! DEFINITION. The flags of the part: the cause latches and the ATTN lines (R180, R181), and the
lamps of the lamp frame (R186). -/

namespace Sys2Proof.Machine

/-! ### Cause latches and ATTN -/

/-- The seven causes (R180). -/
inductive Cause where
  | job
  | queue
  | line
  | drum
  | slip
  | printer
  | fault
deriving DecidableEq, Repr

/-- The bit of a cause: cause n is bit n (R180). -/
def Cause.bit : Cause → BitVec 7
  | .job => 1
  | .queue => 2
  | .line => 4
  | .drum => 8
  | .slip => 16
  | .printer => 32
  | .fault => 64

/-- Whether ATTN is asserted: the global mask is clear and a latched cause is unmasked (R181). -/
def Attn.asserted (a : Attn) : Bool := !a.globalMask && decide (a.latches &&& ~~~a.masks ≠ 0)

/-- Apply ATTN afresh (R181). -/
def Attn.refresh (a : Attn) : Attn := { a with line := a.asserted }

/-- Latch a cause on a link if its enable is set, and apply ATTN (R180, R181). -/
def Attn.latch (a : Attn) (c : Cause) : Attn :=
  if a.enables &&& c.bit ≠ 0 then ({ a with latches := a.latches ||| c.bit } : Attn).refresh else a

/-- Clear the latches, and apply ATTN (R182, R187). -/
def Attn.cleared (a : Attn) : Attn := ({ a with latches := 0 } : Attn).refresh

/-- A cause event, routed to the desk link, the panel link, or both (R180). -/
def State.cause (s : State) (c : Cause) (toDesk toPanel : Bool) : State :=
  let s := if toDesk then s.setDeskAttn (s.deskAttn.latch c) else s
  if toPanel then s.setPanelAttn (s.panelAttn.latch c) else s

/-- A JOB cause event: the desk latches it when the job's owner is DESK, the panel always. -/
def State.causeJob (s : State) (owner : Link) : State := s.cause .job (owner == .desk) true

/-- A QUEUE cause event. -/
def State.causeQueue (s : State) : State := s.cause .queue true true

/-- A LINE cause event. -/
def State.causeLine (s : State) : State := s.cause .line true true

/-- A DRUM cause event. -/
def State.causeDrum (s : State) : State := s.cause .drum true true

/-- A SLIP cause event: the desk latches it always, the panel when the record's owner is PANEL. -/
def State.causeSlip (s : State) (owner : Link) : State := s.cause .slip true (owner == .panel)

/-- A PRINTER cause event. -/
def State.causePrinter (s : State) : State := s.cause .printer true true

/-- A FAULT cause event. -/
def State.causeFault (s : State) : State := s.cause .fault true true

/-! ### The HOOK output -/

/-- The level driven on HOOK: closed with the hook field, but in the dialer's BREAK and FLASH, which
open the loop there and leave the field closed (R37, R122). -/
def State.hookDriven (s : State) : Bool :=
  s.line.hook && !(s.dialer.state == .breaking || s.dialer.state == .flash)

/-! ### The lamp frame -/

/-- The sixteen lamps' conditions, bit 0 first (R186). -/
def lampConditions (s : State) : List Bool :=
  [ s.line.hook,
    decide (s.dialer.state ≠ .idle),
    s.modu.mode == .phasing || s.modu.mode == .picture,
    s.modu.mode == .bridge,
    s.line.state == .talk,
    s.drum.state == .locked,
    s.drum.state == .fault,
    s.scan.lampLow || s.mountQueue.hold == some .lampLow,
    s.pins.paperOut,
    s.mountQueue.hold.isSome,
    s.modes.localMode,
    s.modes.attended && s.modes.legEnd,
    !s.slips.owed.isEmpty,
    s.mounted?.isSome,
    !s.mountQueue.entries.isEmpty && s.mounted?.isNone,
    s.slips.printer == .fault ]

/-- Bits as a number, the first bit least significant. -/
def bitsValue : List Bool → Nat
  | [] => 0
  | b :: bs => b.toNat + 2 * bitsValue bs

/-- The frame's bits as they are sent: bit 15 first and bit 0 last (R186). -/
def lampBits (s : State) : List Bool := (lampConditions s).reverse

/-- The bits shifted out on LAMP_DATA, one on each LAMP_CLK pulse (R186). -/
def Pins.shiftLamps (bits : List Bool) (p : Pins) : Pins :=
  { p with lampSent := bits, lampClocks := p.lampClocks + bits.length }

/-- A LAMP_LATCH pulse puts the bits sent on the lamps at once, the last of them on lamp 0 (R186). -/
def Pins.latchLamps (p : Pins) : Pins :=
  { p with
    lampLatches := p.lampLatches + 1
    lampBoard := BitVec.ofNat 16 (bitsValue p.lampSent.reverse) }

end Sys2Proof.Machine
end

