-- ==== Sys2Proof/Machine/SlipOps.lean ====
section
/-! DEFINITION. The slip unit's operations (chapter 8): creating and owing slips, removing them, and
what the printer prints next. -/

namespace Sys2Proof.Machine

/-! ### The printer's choice (R160) -/

/-- Begin a slip: line 1, characters sent 0, restart mark clear, printer PRINTING (R160). -/
def beginSlip (i : PrintItem) (s : State) : State :=
  (s.setSlips { s.slips with
    printer := .printing
    printing := some { item := i, line := 1, chars := 0, restarted := false } }).setAux
    { s.aux with charTime := 0, paperChecked := false }

/-- An IDLE printer chooses what to print: the copy when a reprint is asked for and a copy is held,
else the oldest unprinted record, else nothing. A printer that is not IDLE does not look (R160). -/
def printerLook (s : State) : State :=
  if s.slips.printer ≠ .idle then s
  else if s.slips.reprint && s.slips.copy.isSome then
    beginSlip .copy (s.setSlips { s.slips with reprint := false })
  else
    match s.slips.queue.find? fun r => !r.printed with
    | some r => beginSlip (.record r.number) s
    | none => s

/-! ### Creating slips (R153 to R155) -/

/-- The route text of a leg, as its receipt names the destination (R33). -/
def routeText (s : State) : Route → List Byte
  | .explicit d => d.string.map dialChar
  | .directory i =>
    match (s.routes[i]?).join with
    | some r => r.label
    | none => txtRoute ++ decFixed 2 i

/-- The reason a slip's outcome carries: the leg's last reason for FAILED, CANCELLED and SKIPPED, and
none for a delivery outcome (R153). -/
def slipReason (g : Leg) : Option Reason := if g.state.deliveredState then none else g.lastReason

/-- The slip record of a leg as it stands now (R153). Both stamps are present in every leg a slip is
made for (R13, R16). -/
def slipOf (s : State) (j l : Nat) (x : Job) (g : Leg) : SlipRec where
  number := s.slips.nextNumber
  job := j
  leg := l
  owner := x.owner
  slug := x.slug
  routeText := routeText s g.route
  station := s.settings.stationCode
  attempts := g.attempts
  linesSent := g.linesSent
  lineCount := x.lineCount
  firstAttempt := g.firstAttempt.getD { day := 0, second := 0 }
  endTime := g.endTime.getD { day := 0, second := 0 }
  outcome := g.state
  reason := slipReason g
  answerback := g.answerback
  garbled := g.garbled
  notes := g.notes
  printed := false
  collected := false

/-- The slip number after a number: from 9999 to 1 (R155). -/
def nextSlipNumber (n : Nat) : Nat := if n = 9999 then 1 else n + 1

/-- Create a leg's slip record: append it, advance the next number, send the SLIP cause event, and
let an IDLE printer begin printing (R155). -/
def createSlip (j l : Nat) (s : State) : State :=
  match s.job? j, s.leg? j l with
  | some x, some g =>
    printerLook ((s.setSlips { s.slips with
      queue := s.slips.queue ++ [slipOf s j l x g]
      nextNumber := nextSlipNumber s.slips.nextNumber }).causeSlip x.owner)
  | _, _ => s

/-- The room of the slip queue (R152). -/
def slipRoom : Nat := 8

/-- The slip unit takes a leg the job table hands over: it creates the slip, or owes it when the queue
holds 8 records (R154). -/
def handOver (j l : Nat) (s : State) : State :=
  if s.slips.queue.length < slipRoom then createSlip j l s
  else
    (s.setSlips { s.slips with owed := s.slips.owed ++ [(j, l)] }).modLeg j l fun g =>
      { g with slipOwed := true }

/-! ### Removing slips (R157, R158) -/

/-- Create the oldest owed slip: take its pair off the owed list, create the record, clear the leg's
slip owed flag (R158). -/
def createOwed (s : State) : State :=
  match s.slips.owed with
  | [] => s
  | (j, l) :: rest =>
    (createSlip j l (s.setSlips { s.slips with owed := rest })).modLeg j l fun g =>
      { g with slipOwed := false }

/-- Whether a record is to be removed: printed, and collected or with collection OFF (R157). -/
def removable (collection : Bool) (r : SlipRec) : Bool := r.printed && (r.collected || !collection)

/-- Remove the record of a slip number and create the oldest owed slip (R157). In every state a run
reaches the record is the head of the queue. -/
def removeSlip (n : Nat) (s : State) : State :=
  createOwed (s.setSlips { s.slips with
    queue := s.slips.queue.eraseP fun (r : SlipRec) => r.number == n })

/-- The removal test on one record, by its slip number (R157). -/
def removalTest (n : Nat) (s : State) : State :=
  match s.slips.queue.find? fun (r : SlipRec) => r.number == n with
  | some r => if removable s.slips.collection r then removeSlip n s else s
  | none => s

/-- Change the record of a slip number. -/
def modSlip (n : Nat) (f : SlipRec → SlipRec) (s : State) : State :=
  s.setSlips { s.slips with
    queue := s.slips.queue.map fun (r : SlipRec) => if r.number == n then f r else r }

/-! ### Printing (R159 to R163) -/

/-- The record a printing item prints from: a queue record, or the last-printed copy (R152, R164). -/
def printedRecord (u : SlipUnit) : PrintItem → Option SlipRec
  | .record n => u.queue.find? fun (r : SlipRec) => r.number == n
  | .copy => u.copy

/-- The next character of the slip being printed: that of its line at the place reached (R161). -/
def nextChar (u : SlipUnit) (p : Printing) : Option Byte :=
  (printedRecord u p.item).bind fun r =>
    (slipChars r (p.item == .copy) p.restarted p.line)[p.chars]?

/-- The end of a slip: a queue record is marked printed, becomes the last-printed copy and is tested
for removal; the copy changes nothing. The printer then enters IDLE and chooses again (R161). -/
def slipEnd (p : Printing) (s : State) : State :=
  let s := match p.item with
    | .record n =>
      let s := modSlip n (fun r => { r with printed := true }) s
      removalTest n (s.setSlips { s.slips with
        copy := (s.slips.queue.find? fun (r : SlipRec) => r.number == n).or s.slips.copy })
    | .copy => s
  printerLook (s.setSlips { s.slips with printer := .idle, printing := none })

/-- Strobe one character and move on: to the next character, to the next line after a line feed, or
to the end of the slip after line 9 (R159, R161). -/
def strobe (p : Printing) (b : Byte) (s : State) : State :=
  let s := (s.setPins { s.pins with prData := some b, strobes := s.pins.strobes + 1 }).setAux
    { s.aux with charTime := 0, paperChecked := false }
  if b ≠ lineFeed then
    s.setSlips { s.slips with printing := some { p with chars := p.chars + 1 } }
  else if p.line < 9 then
    s.setSlips { s.slips with printing := some { p with line := p.line + 1, chars := 0 } }
  else slipEnd p s

/-- Start the stopped slip again from line 1; the restart mark is set if a character of it had been
strobed (R162, R163). -/
def restartSlip (s : State) : State :=
  match s.slips.printing with
  | some p =>
    (s.setSlips { s.slips with
      printer := .printing
      printing := some { p with
        line := 1
        chars := 0
        restarted := p.restarted || decide (1 < p.line) || decide (0 < p.chars) } }).setAux
      { s.aux with charTime := 0, paperChecked := false }
  | none => s

end Sys2Proof.Machine
end

