-- ==== Sys2Proof/Machine/JobOps.lean ====
section
/-! DEFINITION. The job table's and the mount queue's operations (chapter 1). -/

namespace Sys2Proof.Machine

/-! ### The mount queue (R7, R9, R25) -/

/-- Replace the queue's entries, with a QUEUE cause event when the head changes (R25). -/
def setEntries (es : List Nat) (s : State) : State :=
  let t := s.setMountQueue { s.mountQueue with entries := es }
  if es.head? ≠ s.mountQueue.entries.head? then t.causeQueue else t

/-- Whether a queued entry stays ahead of a job of this priority and commit number (R7). -/
def staysAhead (s : State) (priority commit e : Nat) : Bool :=
  match s.job? e with
  | some y => decide (priority < y.priority) ||
      (decide (y.priority = priority) && decide (y.commitNumber.getD 0 ≤ commit))
  | none => false

/-- The entries with a job placed behind every entry that stays ahead of it (R7). -/
def queuePlace (s : State) (j priority commit : Nat) : List Nat → List Nat
  | [] => [j]
  | e :: es =>
    if staysAhead s priority commit e then e :: queuePlace s j priority commit es
    else j :: e :: es

/-- A job joins the queue at the place its priority and commit number give (R7). -/
def joinQueue (j : Nat) (s : State) : State :=
  match s.job? j with
  | some x =>
    setEntries (queuePlace s j x.priority (x.commitNumber.getD 0) s.mountQueue.entries) s
  | none => s

/-- A job leaves the queue; the entries behind it close up (R7). -/
def leaveQueue (j : Nat) (s : State) : State := setEntries (s.mountQueue.entries.erase j) s

/-- A job moves to the place its present priority gives, as one change of the queue (R22). -/
def moveInQueue (j : Nat) (s : State) : State :=
  match s.job? j with
  | some x =>
    setEntries (queuePlace s j x.priority (x.commitNumber.getD 0) (s.mountQueue.entries.erase j)) s
  | none => s

/-- A hold arrives: the flag is set and the reason is its own, with a QUEUE cause event (R9, R25). -/
def holdQueue (r : HoldReason) (s : State) : State :=
  (s.setMountQueue { s.mountQueue with hold := some r }).causeQueue

/-! ### Job states -/

/-- Change a job's state, with the JOB cause event of the change (R25). -/
def setJobState (j : Nat) (st : JobState) (s : State) : State :=
  match s.job? j with
  | some x => (s.setJob j (some { x with state := st })).causeJob x.owner
  | none => s

/-- What a job ends as (R18). -/
def jobVerdict (x : Job) : JobState :=
  if x.cancelPending then .cancelled
  else if x.legs.all fun g => g.state.deliveredState then .done
  else if x.legs.any fun g => g.state.deliveredState then .partly
  else .failed

/-- Whether a job's end is due: it is QUEUED or MOUNTED and every leg is terminal (R18). -/
def jobEndDue (x : Job) : Bool :=
  (x.state == .queued || x.state == .mounted) && x.legs.all fun g => g.state.terminal

/-- End a job: it takes its final state, and leaves the queue if it was QUEUED; a MOUNTED job leaves
the mount with its state (R18, R19). -/
def endJob (j : Nat) (st : JobState) (s : State) : State :=
  match s.job? j with
  | some x =>
    let t := setJobState j st s
    if x.state = .queued then leaveQueue j t else t
  | none => s

/-- The job end test (R18). -/
def jobEndTest (j : Nat) (s : State) : State :=
  match s.job? j with
  | some x => if jobEndDue x then endJob j (jobVerdict x) s else s
  | none => s

/-! ### Legs (R12 to R17) -/

/-- A leg reaches a terminal state: its end time is stamped and its not-before time removed, the JOB
cause event is sent, and a leg attempted at least once is handed to the slip unit (R16, R25). -/
def legTerminal (j l : Nat) (st : LegState) (s : State) : State :=
  match s.job? j, s.leg? j l with
  | some x, some g =>
    let t := (s.modLeg j l fun y =>
      { y with state := st, endTime := some s.stamp, notBefore := none }).causeJob x.owner
    if 1 ≤ g.attempts then handOver j l t else t
  | _, _ => s

/-- Every PENDING or RETRY_WAIT leg of a job becomes CANCELLED (R19, R20). The legs are taken, and handed
to the slip unit, in rising leg index: R19 gives no order, and this one is the model's choice (assumption
log 40). -/
def cancelWaiting (j : Nat) (s : State) : State :=
  (List.range (((s.job? j).map fun x => x.legs.length).getD 0)).foldl (fun t l =>
    if (t.leg? j l).any fun g => g.state.waiting then legTerminal j l .cancelled t else t) s

/-- Whether a leg may start: PENDING, or RETRY_WAIT with its not-before time reached (R12, R17). -/
def legEligible (now : Stamp) (g : Leg) : Bool :=
  g.state == .pending ||
    (g.state == .retryWait && (g.notBefore.any fun t => t.reached now))

/-- Whether the job table takes a start claim (R12). -/
def claimTaken (s : State) (j l : Nat) : Bool :=
  match s.job? j, s.leg? j l with
  | some x, some g =>
    x.state == .mounted && !x.cancelPending && !x.hasActive && legEligible s.stamp g
  | _, _ => false

/-- A claim that is taken makes the leg ACTIVE and removes its not-before time (R12). -/
def takeClaim (j l : Nat) (s : State) : State :=
  s.modLeg j l fun g => { g with state := .active, notBefore := none }

/-- An attempt event: attempts rise by 1, and the first-attempt time is stamped if absent (R13). -/
def attemptEvent (j l : Nat) (s : State) : State :=
  s.modLeg j l fun g =>
    { g with attempts := g.attempts + 1, firstAttempt := g.firstAttempt.or (some s.stamp) }

/-- Change the ACTIVE leg of the present call; a leg no longer ACTIVE is not changed (R14). -/
def modActive (f : Leg → Leg) (s : State) : State :=
  match s.line.active with
  | some (j, l) => s.modLeg j l fun g => if g.state = .active then f g else g
  | none => s

/-- The notes of R2. -/
inductive NoteKind where
  | short
  | fill
  | slip
  | lamp
  | bridge
deriving DecidableEq, Repr

/-- One more, staying at 65535 (R14). -/
def noteUp (n : Nat) : Nat := min 65535 (n + 1)

/-- A note raised by 1, saturating (R14). -/
def Notes.raise (n : Notes) : NoteKind → Notes
  | .short => { n with short := noteUp n.short }
  | .fill => { n with fill := noteUp n.fill }
  | .slip => { n with slip := noteUp n.slip }
  | .lamp => { n with lamp := noteUp n.lamp }
  | .bridge => { n with bridge := noteUp n.bridge }

/-- A progress event for a note of the ACTIVE leg (R14). -/
def noteEvent (k : NoteKind) (s : State) : State :=
  modActive (fun g => { g with notes := g.notes.raise k }) s

/-- A line-sent progress event (R14). -/
def lineSentEvent (s : State) : State :=
  modActive (fun g => { g with linesSent := g.linesSent + 1 }) s

/-- The leg state of a delivery outcome (R15). -/
def Delivery.legState : Delivery → LegState
  | .confirmed => .confirmed
  | .unconfirmed => .unconfirmed
  | .wrongStation => .wrongStation

/-- The not-before time of a leg that goes to RETRY_WAIT: the present time with the machine-fault
mark, else REDIAL_INTERVAL seconds later (R15). -/
def retryTime (s : State) (machineFault : Bool) : NotBefore :=
  if machineFault then { time := s.stamp, acrossWrap := false }
  else s.stamp.retryAt s.settings.redialInterval

/-- What an end event makes of the leg (R15). -/
def applyResult (j l : Nat) (x : Job) (g : Leg) (res : LegResult) (s : State) : State :=
  match res with
  | .delivered o ab gb =>
    legTerminal j l o.legState (s.modLeg j l fun y => { y with answerback := ab, garbled := gb })
  | .cancelled => legTerminal j l .cancelled s
  | .reason r mf =>
    let t := s.modLeg j l fun y => { y with lastReason := some r }
    if r = .noRoute then legTerminal j l .failed t
    else if x.cancelPending then legTerminal j l .cancelled t
    else if g.attempts < x.retries + 1 then
      t.modLeg j l fun y => { y with state := .retryWait, notBefore := some (retryTime s mf) }
    else legTerminal j l .failed t

/-- The idle time starts at 0 when a leg leaves ACTIVE under JOB demand (R59). -/
def startIdle (s : State) : State :=
  if s.drum.demand = some .job then
    (s.setDrum { s.drum with idleTime := some 0 }).setAux { s.aux with idleSub := 0 }
  else s

/-- An end event for the ACTIVE leg: the result is applied, the drum's idle time starts, and the job
end test follows (R15, R18, R59). A loop loss that ends the job's last non-terminal leg ends the job
at once, before any cancel is taken (R18; R20 reads otherwise: assumption log 46). -/
def endEvent (j l : Nat) (res : LegResult) (s : State) : State :=
  match s.job? j, s.leg? j l with
  | some x, some g =>
    if g.state = .active then jobEndTest j (startIdle (applyResult j l x g res s)) else s
  | _, _ => s

/-- Whether a RETRY_WAIT leg of the MOUNTED job has its not-before time reached (R17). -/
def retryReached (s : State) : Bool :=
  match s.mounted? with
  | some j => (s.job? j).any fun x => x.legs.any fun g =>
      g.state == .retryWait && (g.notBefore.any fun t => t.reached s.stamp)
  | none => false

end Sys2Proof.Machine
end

