-- ==== Sys2Proof/Machine/DrumOps.lean ====
section
/-! DEFINITION. The drum controller's own transitions (chapter 3), without the reports to its
neighbours, which Machine/DrumReports.lean adds. -/

namespace Sys2Proof.Machine

/-- A running state: SPINUP, LOCKING, LOCKED or SLIP (R43). -/
def DrumState.running : DrumState → Bool
  | .spinup => true
  | .locking => true
  | .locked => true
  | .slip => true
  | _ => false

/-- A state in which the drum holds, or is coming into, a lock: LOCKING, LOCKED or SLIP. -/
def DrumState.tracking : DrumState → Bool
  | .locking => true
  | .locked => true
  | .slip => true
  | _ => false

/-- Whether the drum is LOCKED at a speed: state LOCKED with that target (R64). -/
def Drum.lockedAt (d : Drum) (r : Rpm) : Bool := d.state == .locked && d.target == some r

/-- Whether the drum is still: its index time has reached 2 s (R58). -/
def Drum.still (d : Drum) : Bool := decide (stillTime ≤ d.indexTime)

/-- The drum brought to no demand: demand and target none, idle time removed, counts cleared, and the
times of SPINUP and BRAKING absent (R55, R60, R63). -/
def Drum.idled (d : Drum) : Drum :=
  { d with
    target := none
    demand := none
    duty := 0
    lockCount := 0
    slipRevs := 0
    goodCount := 0
    idleTime := none
    spinupTime := none
    brakingTime := none }

/-- Entry to BRAKING: duty 0, brake on, the braking time from 0 (R60). -/
def Drum.toBraking (d : Drum) : Drum :=
  { d.idled with state := .braking, brake := true, brakingTime := some 0, faultCause := none }

/-- Entry to STOPPED: duty 0, brake off (R60, R43). -/
def Drum.toStopped (d : Drum) : Drum :=
  { d.idled with state := .stopped, brake := false, faultCause := none }

/-- Entry to FAULT: duty 0, brake on, and the fault cause (R63). -/
def Drum.toFault (c : Option FaultCause) (d : Drum) : Drum :=
  { d.idled with state := .fault, brake := true, faultCause := c }

/-- Entry to SPINUP: full duty, brake off, the spin-up time from 0, counts cleared; target and demand
as they stand (R47). -/
def Drum.toSpinup (d : Drum) : Drum :=
  { d with
    state := .spinup
    duty := 1023
    brake := false
    lockCount := 0
    slipRevs := 0
    goodCount := 0
    spinupTime := some 0
    brakingTime := none }

/-- Entry to LOCKING from the present duty: lock count 0 (R50). -/
def Drum.toLocking (d : Drum) : Drum :=
  { d with state := .locking, lockCount := 0, spinupTime := none }

/-- The drum enters STOPPED, with the DRUM cause event of each entry (R64). -/
def drumStopped (s : State) : State := (s.setDrum s.drum.toStopped).causeDrum

/-- The drum enters BRAKING. -/
def drumBraking (s : State) : State := s.setDrum s.drum.toBraking

/-- The measured period of an index: the count since the previous index, when one is held and lies no
further back than the counter reaches (R45). A count of 0 µs gives none (assumption log 17). -/
def measuredPeriod (s : State) : Option Nat :=
  if s.drum.indexHeld && !s.aux.indexOver && decide (0 < s.drum.indexTime) then
    some s.drum.indexTime
  else none

/-- An index is counted and measured in every state: the measured period field takes the count, and
the next count starts (R45). -/
def countIndex (s : State) : State :=
  (s.setDrum { s.drum with
    period := (measuredPeriod s).or s.drum.period
    indexTime := 0
    indexHeld := true }).setAux { s.aux with indexOver := false }

/-- The target changes or is given again: set in SPINUP; LOCKING from the present duty when it
differs in LOCKING, LOCKED or SLIP; nothing when it is the one held (R56, R57). -/
def retarget (r : Rpm) (d : Drum) : Drum :=
  if d.state = .spinup then { d with target := some r }
  else if d.state.tracking && d.target != some r then { d with target := some r }.toLocking
  else d

/-- Whether the index timeout for a target lies below the time already passed (R53). -/
def timeoutPassed (d : Drum) : Bool :=
  d.state.tracking && (d.target.any fun r => decide (indexTimeout r < d.indexTime))

end Sys2Proof.Machine
end

