-- ==== Sys2Proof/Machine/ToneOps.lean ====
section
/-! DEFINITION. The line ring, the modulator and the mark generator (chapter 6): their own operations,
without the reports to the line unit, which Machine/PictureOps.lean adds. -/

namespace Sys2Proof.Machine

/-! ### The line ring (R104 to R107) -/

/-- Replace a ring slot. -/
def State.setSlot (s : State) (i : Nat) (x : Slot) : State :=
  s.setRing (s.ring.setIfInBounds i x)

/-- The slot indices, in order. -/
def slotIndices : List Nat := List.range 4

/-- The FREE slot with the lowest slot index (R105). -/
def lowestFree (r : Vector Slot 4) : Option Nat :=
  slotIndices.find? fun i => r[i]? == some .free

/-- The line number of a FULL slot. -/
def fullLine : Slot → Option Nat
  | .full n _ => some n
  | _ => none

/-- The FULL slot with the lowest line number (R105). -/
def lowestFull (r : Vector Slot 4) : Option Nat :=
  (slotIndices.foldl (fun best i =>
    match (r[i]?).bind fullLine, best with
    | some n, some (b, m) => if n < m then some (i, n) else some (b, m)
    | some n, none => some (i, n)
    | none, _ => best) (none : Option (Nat × Nat))).map Prod.fst

/-- A SENDING slot goes back to FULL with its line and levels; other slots stay (R106, R116). -/
def Slot.unsent : Slot → Slot
  | .sending n ls => .full n ls
  | x => x

/-- A FULL slot becomes SENDING; other slots stay (R105). -/
def Slot.sent : Slot → Slot
  | .full n ls => .sending n ls
  | x => x

/-- Every slot FREE (R107, R120). -/
def emptyRing (s : State) : State := s.setRing (Vector.replicate 4 Slot.free)

/-- The SENDING slot goes back to FULL, uncounted, and the sending slot field becomes none (R116). -/
def unsend (s : State) : State :=
  (s.setRing (.ofFn fun i => s.ring[i].unsent)).setModu { s.modu with sendingSlot := none }

/-! ### Tones (R109 to R111) -/

/-- A tone of a frequency: the present frequency and its increment (R110, R111). -/
def Modulator.tone (f : Nat) (m : Modulator) : Modulator :=
  { m with freq := some f, increment := phaseStep f }

/-- SILENT: no frequency, and the DAC at mid-scale (R108, R109). -/
def Modulator.silence (m : Modulator) : Modulator :=
  { m with mode := .silent, freq := none, dac := midScale }

/-- The modulator enters SILENT. -/
def modSilent (s : State) : State := s.setModu s.modu.silence

/-- A change of tone within the present mode. -/
def modTone (f : Nat) (s : State) : State := s.setModu (s.modu.tone f)

/-- A mode that begins with a fixed tone (R111). -/
def modMode (m : Mode) (f : Nat) (s : State) : State :=
  s.setModu ({ s.modu with mode := m }.tone f)

/-- A pair is asked for: the modulator enters PAIR, and the mark generator's two accumulators start
from 0 with the symbol's increments (R117). -/
def startPair (k : KeySym) (s : State) : State :=
  (s.setModu { s.modu with mode := .pair, freq := none }).setMarkGen
    { s.markGen with
      rowAcc := 0
      colAcc := 0
      rowInc := phaseStep (rowTone k)
      colInc := phaseStep (colTone k) }

/-! ### The mark (R118) -/

/-- A number as four digits with leading zeros. -/
def fourDigits (n : Nat) : List KeySym :=
  [.digit (Fin.ofNat 10 (n / 1000)), .digit (Fin.ofNat 10 (n / 100)),
   .digit (Fin.ofNat 10 (n / 10)), .digit (Fin.ofNat 10 n)]

/-- The symbols of a mark: *, the station code, *, the lines sent as four digits, # (R118). -/
def markSymbols (station : List (Fin 10)) (linesSent : Nat) : List KeySym :=
  [.star] ++ station.map KeySym.digit ++ [.star] ++ fourDigits linesSent ++ [.hash]

/-- Begin the tone step of the next symbol of the mark, TONE_ON read at its start (R118, R42). -/
def markTone (s : State) : State :=
  match s.markGen.symbols[s.markGen.completed]? with
  | some k =>
    let t := startPair k s
    t.setMarkGen { t.markGen with step := .tone, left := msec s.settings.toneOn }
  | none => s

/-- Build the mark from STATION_CODE and the lines sent copy and begin to send it (R118). -/
def startMark (s : State) : State :=
  markTone (s.setMarkGen { s.markGen with
    symbols := markSymbols s.settings.stationCode (s.modu.linesCopy.getD 0)
    completed := 0 })

/-- The mark generator stops at once, with no report (R118). -/
def stopMark (s : State) : State :=
  s.setMarkGen { s.markGen with step := .idle, symbols := [], completed := 0, left := 0 }

/-! ### The modes the line unit sets -/

/-- BLACK_HOLD, after mark complete (R118). -/
def blackHold (s : State) : State := modMode .blackHold s.settings.blackHz s

/-- BRIDGE: the BRIDGE_HZ tone; the mark stops; lead is cleared; the phasing count and target are
discarded; the SENDING slot goes back to FULL (R106, R113, R116, R118). R113 and R138 discard the count
and the target for a bridge from PHASING, and R116 names neither; that they go at every entry to BRIDGE,
from MARK and PICTURE as well, is the model's choice (assumption log 42). -/
def bridgeMode (s : State) : State :=
  let t := unsend (stopMark s)
  modMode .bridge s.settings.bridgeHz
    (t.setModu { t.modu with lead := false, phasingCount := 0, phasingTarget := none })

/-- Stop mode: the STOP_HZ tone; a mark being sent stops; the SENDING slot goes back to FULL (R116,
R118). -/
def stopMode (s : State) : State := modMode .stop s.settings.stopHz (unsend (stopMark s))

/-- PHASING: count 0 toward the target given, begun with a black gap (R113). -/
def phasingMode (target : Nat) (s : State) : State :=
  modMode .phasing s.settings.blackHz
    (s.setModu { s.modu with phasingCount := 0, phasingTarget := some target })

/-- The call's end: SILENT, and the call's fields absent, none, clear or 0 (R108, R144). -/
def Modulator.callEnd (m : Modulator) : Modulator :=
  { m.silence with
    sendingSlot := none
    lead := false
    phasingCount := 0
    phasingTarget := none
    linesCopy := none
    lineCount := none }

end Sys2Proof.Machine
end

