-- ==== Sys2Proof/Machine/ScanBase.lean ====
section
/-! DEFINITION. The scan converter's own operations (chapter 5) and the head drive's (chapter 4), less
those that report to the line unit, which Machine/ScanOps.lean adds. -/

namespace Sys2Proof.Machine

/-! ### The scanner's states -/

/-- A line being filled is abandoned: its slot becomes FREE, with no head step (R98, R102, R105). -/
def abandonFilling (s : State) : State :=
  match s.scan.filling with
  | some f => (s.setSlot f.slot .free).setScan { s.scan with filling := none }
  | none => s

/-- The scanner's fields in IDLE: everything but D, W and the last white reading is cleared (R102). -/
def Scanner.idled (c : Scanner) : Scanner :=
  { Scanner.reset with dark := c.dark, white := c.white, lastWhite := c.lastWhite }

/-- The scanner enters IDLE (R102). -/
def scanIdle (s : State) : State :=
  let t := abandonFilling s
  t.setScan t.scan.idled

/-- The halt report: PREPARED or CAPTURING enters HALTED, the lamp stays lit, the line being filled is
abandoned and W is not tracked (R97, R98). -/
def scanHalt (s : State) : State :=
  if s.scan.state = .prepared ∨ s.scan.state = .capturing then
    let t := abandonFilling s
    t.setScan { t.scan with state := .halted, tracking := .none }
  else s

/-- The resume report: HALTED enters PREPARED, tracking again from the next index (R93, R97). -/
def scanResume (s : State) : State :=
  if s.scan.state = .halted then
    s.setScan { s.scan with state := .prepared, tracking := .waiting }
  else s

/-- The transmission begun report (R97). -/
def scanTransmission (s : State) : State :=
  if s.scan.state = .prepared then s.setScan { s.scan with inTransmission := true } else s

/-- The picture begun report: PREPARED enters CAPTURING, the tracking field as it stands (R93, R97). -/
def scanPicture (s : State) : State :=
  if s.scan.state = .prepared then s.setScan { s.scan with state := .capturing } else s

/-- The picture finished report (R97). -/
def scanFinished (s : State) : State := if s.scan.state = .capturing then scanIdle s else s

/-! ### Waiting for the drum and the head (R87) -/

/-- Whether the drum is LOCKED at the scanner's job speed (R87). -/
def scanDrumLocked (s : State) : Bool :=
  match s.scan.jobSpeed with
  | some r => s.drum.lockedAt r
  | none => false

/-- In WAIT_DRUM: with head ready and the drum LOCKED at the job speed the scanner enters DARK, the
measurement waiting for an index (R87). -/
def scanWaitTest (s : State) : State :=
  if s.scan.state = .waitDrum ∧ s.scan.headReady ∧ scanDrumLocked s then
    s.setScan { s.scan with state := .dark, lamp := false, measuring := .waiting }
  else s

/-- A positioned report: in WAIT_DRUM one that names the resume line sets head ready, and the two
conditions are tested (R87). -/
def scanPositioned (p : Nat) (s : State) : State :=
  if s.scan.state = .waitDrum ∧ s.scan.resumeLine = some p then
    scanWaitTest (s.setScan { s.scan with headReady := true })
  else s

/-! ### The head drive (R76 to R80) -/

/-- One pulse on HD_STEP, forward or toward the home switch. -/
def headPulse (forward : Bool) (s : State) : State :=
  (s.setPins { s.pins with hdForward := forward, hdSteps := s.pins.hdSteps + 1 }).setAux
    { s.aux with headTime := 0 }

/-- The head stands at its target: IDLE, target removed, positioned report sent (R78). -/
def headPositioned (s : State) : State :=
  scanPositioned s.head.line (s.setHead { s.head with motion := .idle, target := none })

/-- The head enters MOVING toward its target, its first step one step time away (R78). -/
def headMoving (s : State) : State :=
  (s.setHead { s.head with motion := .moving }).setAux { s.aux with headTime := 0 }

/-- The home switch is reached: H is 0 and valid, the last homing OK, and the head goes on toward its
target (R77). -/
def homeReached (s : State) : State :=
  let t := s.setHead { s.head with line := 0, valid := true, lastHoming := some .ok }
  match s.head.target with
  | some 0 => headPositioned t
  | some _ => headMoving t
  | none => t.setHead { t.head with motion := .idle }

/-- The last homing field on entry to HOMING. R77 sets it absent there, and R79 says that a FAILED
reads FAILED until the next homing reaches the switch or fails: the two conflict. The model's choice
(assumption log 39) is R79's word for its own case, a homing after a failed one, and R77's for every
other. -/
def Head.homingBegun (h : Head) : Option HomingResult :=
  if h.lastHoming = some .failed then some .failed else none

/-- Entry to HOMING: valid cleared, the last homing field as `Head.homingBegun` gives it; HD_HOME is read,
and a switch already closed is reached with no step given (R77). `pins.home` is the level the pin has now:
HEAD_STEP and SCAN_STEP_END bring a new one whenever it changes (assumption log 23). -/
def enterHoming (s : State) : State :=
  let t := (s.setHead { s.head with
    motion := .homing, valid := false, lastHoming := s.head.homingBegun }).setAux
    { s.aux with headTime := 0, homingSteps := 0 }
  if s.pins.home then homeReached t else t

/-- A positioning request as it is taken in IDLE (R78), the target already stored. -/
def positionIdle (p : Nat) (s : State) : State :=
  if s.head.valid && decide (s.head.line ≤ p) then
    if p = s.head.line then headPositioned s else headMoving s
  else enterHoming s

/-- A positioning request for line p (R78). -/
def positioningRequest (p : Nat) (s : State) : State :=
  let t := s.setHead { s.head with target := some p }
  match s.head.motion with
  | .idle => positionIdle p t
  | .homing => t
  | .moving =>
    if p < s.head.line then enterHoming t
    else if p = s.head.line then headPositioned t
    else t
  | .step => t

/-- A scan step: H rises by 1 at once; from IDLE the step is given and lasts one step time; in STEP it
is owed (R80). -/
def scanStep (s : State) : State :=
  let t := s.setHead { s.head with line := s.head.line + 1 }
  match s.head.motion with
  | .idle => headPulse true (t.setHead { t.head with motion := .step })
  | .step => t.setHead { t.head with owed := t.head.owed + 1 }
  | .homing => t
  | .moving => t

end Sys2Proof.Machine
end

