-- ==== Sys2Proof/Machine/LineOps.lean ====
section
/-! DEFINITION. The line unit's operations (chapter 7) and the dialer's (chapter 2). -/

namespace Sys2Proof.Machine

/-! ### Entering a line state (R122) -/

/-- The hook is closed in every state but IDLE and GUARD (R122). -/
def LineState.hookClosed : LineState → Bool
  | .idle => false
  | .guard => false
  | _ => true

/-- The detector's mode in a state (R122). -/
def LineState.detector : LineState → Detector
  | .awaitReady => .ready
  | .answerback => .digits
  | _ => .off

/-- The states before the transmission of a leg's call: SEIZE to PREPARE_WAIT (R133). -/
def LineState.beforeMark : LineState → Bool
  | .seize => true
  | .dial => true
  | .awaitReady => true
  | .prepareWait => true
  | _ => false

/-- The states of the transmission: MARK, PHASING, PICTURE and BRIDGE (R140). -/
def LineState.transmitting : LineState → Bool
  | .mark => true
  | .phasing => true
  | .picture => true
  | .bridge => true
  | _ => false

/-- The line enters a state: the hook, the talk relay and the detector are set as R122 gives, the
state timer of the state left stops (R121), and a change of state sends a LINE cause event (R150). -/
def enterLine (st : LineState) (s : State) : State :=
  let t := (s.setLine { s.line with
    state := st
    hook := st.hookClosed
    relay := st == .talk
    detector := st.detector
    timer := none }).setAux { s.aux with detTime := 0, sinceSymbol := none }
  if s.line.state ≠ st then t.causeLine else t

/-- The line enters GUARD, GUARD_TIME read and timed from the entry (R145). -/
def enterGuard (s : State) : State :=
  (enterLine .guard s).startLimit .guardTime (sec s.settings.guardTime)

/-! ### The dialer (R37 to R41) -/

/-- The dialer enters a step of so many µs. -/
def dialStep (st : DialerState) (us : Nat) (s : State) : State :=
  s.setDialer { s.dialer with state := st, left := us }

/-- The dialer stops in the step it is in: IDLE, the position left where it is (R41). -/
def stopDialer (s : State) : State :=
  s.setDialer { s.dialer with state := .idle, breaks := 0, left := 0 }

/-- The dialer enters BREAK for the break time, read at its start (R39, R42). -/
def dialBreak (r : PulseRate) (s : State) : State :=
  dialStep .breaking (msec (breakMs r s.settings.makeBreak)) s

/-- A tone digit begins: TONE_ON with the symbol's pair (R38). -/
def dialTone (k : KeySym) (s : State) : State :=
  dialStep .toneOn (msec s.settings.toneOn) (startPair k s)

/-- A pulse digit begins: the break count is set and the first break begins (R39). -/
def dialPulse (r : PulseRate) (d : Fin 10) (s : State) : State :=
  dialBreak r (s.setDialer { s.dialer with breaks := breaksOf d })

/-- Begin a symbol of the dial string by its kind and the buffer's mode (R37). A * or # is always a
tone digit: R28 refuses it in a PULSE route. -/
def beginSymbol (d : DialSpec) (x : DialSym) (s : State) : State :=
  match x with
  | .digit n =>
    match d.mode with
    | .tone => dialTone (.digit n) s
    | .pulse => dialPulse d.rate n s
  | .star => dialTone .star s
  | .hash => dialTone .hash s
  | .pause => dialStep .pause (sec s.settings.pauseTime) s
  | .flash => dialStep .flash (msec s.settings.flashTime) s

/-! ### Entering the states of a call -/

/-- The line enters TALK from SEIZE or DIAL: relay on, dial buffer emptied, the loop monitor started
with an absent time of 0 (R148, R36, R127). -/
def enterTalk (s : State) : State :=
  let t := modSilent (enterLine .talk s)
  (t.setLine { t.line with monitor := some 0 }).setDialBuf none

/-- A leg's call enters AWAIT_READY: ANSWER_TIMEOUT, the detector in READY with READY_HZ read now, the
loop monitor from an absent time of 0 (R126, R127, R128). -/
def enterAwaitReady (s : State) : State :=
  let t := (modSilent (enterLine .awaitReady s)).startLimit .answerTimeout
    (sec s.settings.answerTimeout)
  (t.setLine { t.line with monitor := some 0 }).setAux
    { t.aux with readyHz := s.settings.readyHz }

/-- Dial complete: the dialer enters IDLE, and the call control goes to AWAIT_READY for a leg and to
TALK for a talk call (R41, R126). -/
def dialComplete (s : State) : State :=
  let t := stopDialer s
  if s.line.kind = some .talk then enterTalk t else enterAwaitReady t

/-- Begin the symbol at the present position, or report dial complete when none remains (R37). -/
def dialNext (s : State) : State :=
  match s.dialBuf with
  | some b =>
    match b.dial.string[s.dialer.position]? with
    | some x => beginSymbol b.dial x s
    | none => dialComplete s
  | none => dialComplete s

/-- A symbol completes: the position advances and the next symbol begins at once (R37). -/
def symbolDone (s : State) : State :=
  dialNext (s.setDialer { s.dialer with position := s.dialer.position + 1 })

/-- The line enters DIAL and the dialer begins at symbol position 0 (R126, R37). -/
def enterDial (s : State) : State :=
  let t := enterLine .dial s
  dialNext (t.setDialer { t.dialer with position := 0 })

/-- A seize begins: hook closed, SEIZE, the 300 ms window (R124, R125). -/
def enterSeize (s : State) : State := (enterLine .seize s).startLimit .seizeWindow seizeWindow

/-! ### Call endings (R144, R148) -/

/-- The position timer is unloaded: IDLE, the held period and the last revolution kept (R69). -/
def PosTimer.unload (t : PosTimer) : PosTimer :=
  { PosTimer.reset with heldPeriod := t.heldPeriod, lastRev := t.lastRev }

/-- The call's end for the blocks that depend on it: the ring is emptied, the scanner enters IDLE, the
position timer is unloaded and the dial buffer emptied (R144, R107, R102, R69, R36). -/
def callGone (s : State) : State :=
  let t := emptyRing (scanIdle s)
  (t.setPosTimer t.posTimer.unload).setDialBuf none

/-- The leg-end report sets the panel's leg-end flag in attended mode (R185). -/
def legEndReport (s : State) : State :=
  if s.modes.attended then s.setModes { s.modes with legEnd := true } else s

/-- The line's fields of a leg's call, cleared (R144 step 3). -/
def LineRec.clearCall (l : LineRec) : LineRec :=
  { l with
    prepared := false
    pictureReached := false
    closing := none
    active := none
    jobSpeed := none
    jobS := none
    jobT := none
    talkAfter := false }

/-- A leg's call ends with a result; `loopLoss` says that the ending is a loop loss (R144). With
talk-after set and no loop loss the line passes to TALK, where the loop monitor runs on as it stood
(R148; assumption log 12); otherwise it is released to GUARD. -/
def callEnd (res : LegResult) (loopLoss : Bool) (s : State) : State :=
  match s.line.active with
  | none => s
  | some (j, l) =>
    let t := legEndReport (endEvent j l res s)
    let t := stopMark (stopDialer t)
    let t := t.setModu t.modu.callEnd
    let talk := s.line.talkAfter && !loopLoss
    let t := t.setLine { t.line.clearCall with
      lastEnding := some (.leg j l res s.stamp)
      kind := if talk then some .talk else none
      monitor := if talk then t.line.monitor else none }
    callGone (if talk then enterLine .talk t else enterGuard t)

/-- A talk is released: relay off, hook open, call kind none, dial buffer emptied, the dialer and the
loop monitor stopped, the ending recorded; GUARD (R148, R149, R36). -/
def talkRelease (e : TalkEnding) (s : State) : State :=
  let t := modSilent (stopDialer s)
  let t := t.setLine { t.line with
    kind := none
    monitor := none
    lastEnding := some (.talk e s.stamp) }
  callGone (enterGuard t)

/-! ### Closings and the bridge (R138 to R140) -/

/-- The result a closing ends the call with (R140). -/
def Closing.result : Closing → LegResult
  | .abort => .cancelled
  | .bridgeLimit => .reason .drum false
  | .drumFault => .reason .drum true

/-- A closing begins: the state stays, the scanner halts, stop mode, STOP_TIME (R140). -/
def beginClosing (c : Closing) (s : State) : State :=
  let t := s.setLine { s.line with closing := some c }
  (stopMode (scanHalt t)).startLimit .stopTime (sec s.settings.stopTime)

/-- The bridge: the scanner halts, the modulator bridges, the bridges note rises, BRIDGE is entered
with BRIDGE_LIMIT (R138). -/
def bridgeEntry (s : State) : State :=
  let t := noteEvent .bridge (bridgeMode (scanHalt s))
  (enterLine .bridge t).startLimit .bridgeLimit (sec s.settings.bridgeLimit)

/-- The drum is locked again: the scanner resumes and a new mark is sent (R139). -/
def bridgeResume (s : State) : State := startMark (enterLine .mark (scanResume s))

/-! ### The join (R131 to R134) -/

/-- The lines sent of the active leg, as the job table holds it. -/
def activeLinesSent (s : State) : Nat :=
  match s.line.active with
  | some (j, l) => ((s.leg? j l).map fun g => g.linesSent).getD 0
  | none => 0

/-- The transmission begins: the modulator takes the leg's lines sent and T, the scanner hears
transmission begun, and MARK is entered with its mark (R134). -/
def transmissionBegin (s : State) : State :=
  let t := s.setModu { s.modu with linesCopy := some (activeLinesSent s), lineCount := s.line.jobT }
  startMark (enterLine .mark (scanTransmission t))

/-- The scanner's PREPARED report at the line unit (R131, R132). -/
def linePrepared (s : State) : State :=
  if s.line.kind = some .leg then
    match s.line.state with
    | .seize => s.setLine { s.line with prepared := true }
    | .dial => s.setLine { s.line with prepared := true }
    | .awaitReady => s.setLine { s.line with prepared := true }
    | .prepareWait => transmissionBegin s
    | _ => s
  else s

/-- The scanner's PREPARED withdrawn report (R131). -/
def lineWithdrawn (s : State) : State := s.setLine { s.line with prepared := false }

/-- The scanner's LAMP report (R133). -/
def lineLamp (s : State) : State :=
  if s.line.kind = some .leg ∧ s.line.state.beforeMark then callEnd (.reason .lamp true) false s
  else s

/-! ### The drum's reports (R133, R137 to R139) -/

/-- The FAULT report: before MARK the call ends DRUM with the machine-fault mark; in the transmission
a DRUM_FAULT closing begins; elsewhere nothing (R133, R139, R141, R148). -/
def lineFault (s : State) : State :=
  if s.line.kind = some .leg then
    if s.line.state.beforeMark then callEnd (.reason .drum true) false s
    else if s.line.state.transmitting ∧ s.line.closing = none then beginClosing .drumFault s
    else s
  else s

/-- The LOST report: MARK, PHASING and PICTURE bridge when no closing is set (R138). -/
def lineLost (s : State) : State :=
  if (s.line.state = .mark ∨ s.line.state = .phasing ∨ s.line.state = .picture) ∧
      s.line.closing = none then bridgeEntry s
  else s

/-- The LOCKED report with its speed: BRIDGE resumes at the job speed (R139). -/
def lineLocked (r : Rpm) (s : State) : State :=
  if s.line.state = .bridge ∧ s.line.closing = none ∧ s.line.jobSpeed = some r then bridgeResume s
  else s

/-- The slip revolution report: counted in PICTURE (R137). -/
def lineSlipRev (s : State) : State :=
  if s.line.state = .picture ∧ s.line.closing = none then noteEvent .slip s else s

/-! ### Index, phasing, picture and stop (R135 to R137, R141) -/

/-- Whether the drum is LOCKED at the line's job speed. -/
def lineDrumLocked (s : State) : Bool :=
  match s.line.jobSpeed with
  | some r => s.drum.lockedAt r
  | none => false

/-- The line unit takes an index: in MARK after mark complete, with the drum LOCKED at the job speed,
PHASING is entered; otherwise nothing changes (R135). The modulator is in BLACK_HOLD exactly from mark
complete on. -/
def lineIndex (s : State) : State :=
  if s.line.state = .mark ∧ s.line.closing = none ∧ s.modu.mode = .blackHold ∧ lineDrumLocked s then
    phasingMode (if s.line.pictureReached then s.settings.resumeRevs else s.settings.phasingRevs)
      (enterLine .phasing s)
  else s

/-- The phasing complete report: PICTURE, picture reached, picture begun (R136). -/
def linePhasingComplete (s : State) : State :=
  if s.line.state = .phasing ∧ s.line.closing = none then
    let t := enterLine .picture s
    scanPicture (t.setLine { t.line with pictureReached := true })
  else s

/-- The picture complete report: STOP with the stop tone, picture finished, STOP_TIME (R137, R141). -/
def linePictureComplete (s : State) : State :=
  if s.line.state = .picture ∧ s.line.closing = none then
    (scanFinished (stopMode (enterLine .stop s))).startLimit .stopTime (sec s.settings.stopTime)
  else s

/-- STOP_TIME ends in STOP: SILENT, buffer emptied, the detector in DIGITS, ANSWERBACK with its window
(R141). -/
def enterAnswerback (s : State) : State :=
  let t := modSilent s
  (enterLine .answerback (t.setLine { t.line with answerback := [] })).startLimit .answerbackWindow
    (sec s.settings.answerbackWindow)

/-! ### Cancel (R146) -/

/-- The job table's abort request, by the line state (R146). -/
def abortCall (s : State) : State :=
  if s.line.state.beforeMark then callEnd .cancelled false s
  else if s.line.state.transmitting ∧ s.line.closing = none then beginClosing .abort s
  else s

/-! ### The answerback (R142, R143) -/

/-- Take the digits from the front of a buffer. -/
def leadingDigits : List KeySym → List (Fin 10) × List KeySym
  | .digit d :: ks => ((leadingDigits ks).map (fun ds => d :: ds) id)
  | ks => ([], ks)

/-- Parse a buffer that ends with #: 1 to 8 digits, a *, one digit, the # (R143). -/
def parseAnswerback (ks : List KeySym) : Option Answerback :=
  match leadingDigits ks with
  | (code, [.star, .digit g, .hash]) =>
    if 1 ≤ code.length ∧ code.length ≤ 8 then some { code := code, grade := g } else none
  | _ => none

/-- The outcome of a well-formed answerback against the snapshot's expected code (R143). -/
def answerbackOutcome (expected : Option (List (Fin 10))) (code : List (Fin 10)) : Delivery :=
  match expected with
  | none => .confirmed
  | some e => if e = code then .confirmed else .wrongStation

/-- The result of a buffer that ends with # (R143). -/
def answerbackResult (expected : Option (List (Fin 10))) (ks : List KeySym) : LegResult :=
  match parseAnswerback ks with
  | some ab => .delivered (answerbackOutcome expected ab.code) (some ab) false
  | none => .delivered .unconfirmed none true

/-- A symbol passed to the call control in ANSWERBACK (R142). -/
def takeSymbol (k : KeySym) (s : State) : State :=
  if 12 ≤ s.line.answerback.length then callEnd (.delivered .unconfirmed none true) false s
  else
    let t := s.setLine { s.line with answerback := s.line.answerback ++ [k] }
    if k = .hash then
      callEnd (answerbackResult (s.dialBuf.bind fun b => b.code) t.line.answerback) false t
    else t

end Sys2Proof.Machine
end

