-- ==== Sys2Proof/Machine/ScanOps.lean ====
section
/-! DEFINITION. The scan converter's measurements, preparation and capture (chapter 5), with its reports
to the line unit. -/

namespace Sys2Proof.Machine

/-! ### Preparation (R86 to R92) -/

/-- Preparation begins at a leg start: the job fields and the resume line are copied, WAIT_DRUM is
entered with the lamp off, and the head is asked for the resume line (R86). -/
def beginPreparation (samples lineCount : Nat) (speed : Rpm) (resume : Nat) (s : State) : State :=
  positioningRequest resume (s.setScan { s.scan.idled with
    state := .waitDrum
    jobS := some samples
    jobT := some lineCount
    jobSpeed := some speed
    resumeLine := some resume })

/-- The PREPARED report is sent to the line unit (R91). -/
def sendPrepared (s : State) : State := linePrepared (s.setScan { s.scan with report := .sent })

/-- Entry to PREPARED from preparation: W is tracked from the next index, and the report is sent when
the drum is LOCKED at the job speed and held otherwise (R91, R93). -/
def enterPrepared (s : State) : State :=
  let t := s.setScan { s.scan with
    state := .prepared
    lamp := true
    measuring := .none
    tracking := .waiting }
  if scanDrumLocked t then sendPrepared t else t.setScan { t.scan with report := .held }

/-- The dark measurement is complete: D is set, the lamp lit, WARM entered (R88). -/
def darkDone (sum samples : Nat) (s : State) : State :=
  s.setScan { s.scan with
    dark := darkValue sum samples
    measuring := .none
    warmRevs := 0
    lamp := true
    state := .warm }

/-- Whether a white reading is at least LAMP_MIN above D (R90, R93). -/
def whiteGood (s : State) (meas : Nat) : Bool :=
  decide (s.scan.dark + s.settings.lampMin ≤ meas)

/-- Preparation fails with a low lamp: IDLE, the hold with LAMP_LOW, LAMP to the line unit, and a
FAULT cause event, in that order (R90). -/
def lampFailure (s : State) : State := (lineLamp (holdQueue .lampLow (scanIdle s))).causeFault

/-- The white reading of preparation (R90). -/
def whiteDone (meas : Nat) (s : State) : State :=
  let t := s.setScan { s.scan with lastWhite := some meas, measuring := .none }
  if whiteGood s meas then enterPrepared (t.setScan { t.scan with white := meas })
  else lampFailure t

/-- A LOST or FAULT report: preparation starts again before the transmission has begun, and a sent
PREPARED report is withdrawn (R92). The test of R87 that goes with this entry to WAIT_DRUM is
`scanRetested`. -/
def scanLost (s : State) : State :=
  if s.scan.state = .dark ∨ s.scan.state = .warm ∨ s.scan.state = .whiteRef ∨
      (s.scan.state = .prepared ∧ ¬ s.scan.inTransmission) then
    let t := if s.scan.report = .sent then lineWithdrawn s else s
    t.setScan { t.scan with
      state := .waitDrum
      lamp := false
      measuring := .none
      tracking := .none
      warmRevs := 0
      report := .none }
  else s

/-- The test of R87 on entering WAIT_DRUM from a later state: `s` is the state before the report and `t`
the state in which the test is made, once the drum has left its lock (R54 step 3, R92; assumption log
15). A report that finds the scanner in WAIT_DRUM already changes nothing (R92). -/
def scanRetested (s t : State) : State :=
  if s.scan.state = .waitDrum then t else scanWaitTest t

/-- The LOCKED report with its speed: WAIT_DRUM tests its conditions, and a held PREPARED report is
sent (R87, R91). -/
def scanLocked (r : Rpm) (s : State) : State :=
  if s.scan.state = .waitDrum then scanWaitTest s
  else if s.scan.state = .prepared ∧ s.scan.report = .held ∧ s.scan.jobSpeed = some r then
    sendPrepared s
  else s

/-! ### White tracking (R93, R94) -/

/-- A lamp hold: W held, the lamp holds note raised, and a FAULT cause event at the first of a run
(R94). -/
def lampHold (s : State) : State :=
  let t := noteEvent .lamp s
  if s.scan.lampLow then t else (t.setScan { t.scan with lampLow := true }).causeFault

/-- A tracking measurement is complete (R93). -/
def trackDone (meas : Nat) (s : State) : State :=
  let t := s.setScan { s.scan with lastWhite := some meas }
  if whiteGood s meas then
    t.setScan { t.scan with white := trackedWhite t.scan.white meas, lampLow := false }
  else lampHold t

/-! ### Capture (R99 to R101) -/

/-- At a span start in CAPTURING: with H below T, the head valid and a slot FREE, the lowest FREE slot
becomes FILLING with line H (R99, R105). -/
def captureBegin (s : State) : State :=
  if s.scan.filling = none ∧ s.head.valid ∧ s.head.line < s.scan.jobT.getD 0 then
    match lowestFree s.ring with
    | some i =>
      (s.setSlot i (.filling s.head.line [])).setScan { s.scan with
        filling := some { slot := i, line := s.head.line, written := 0 } }
    | none => s
  else s

/-- The levels a FILLING slot holds. -/
def Slot.filled : Slot → List Nat
  | .filling _ ls => ls
  | _ => []

/-- The levels of the slot being filled. -/
def fillingLevels (s : State) (f : Filling) : List Nat :=
  ((s.ring[f.slot]?).map Slot.filled).getD []

/-- The line is complete: the slot is FULL, the head is asked for a scan step, the filling field is
none (R100, R101). -/
def captureDone (f : Filling) (levels : List Nat) (s : State) : State :=
  let t := scanStep (s.setSlot f.slot (.full f.line levels))
  t.setScan { t.scan with filling := none }

/-- A span sample in CAPTURING with a line FILLING: stages 1 to 3 give its level, which is written;
at the S-th level the line is complete (R100). -/
def writeLevel (samples r : Nat) (s : State) : State :=
  match s.scan.filling with
  | some f =>
    let ls := fillingLevels s f ++ [levelOf s.curve s.scan.dark s.scan.white r]
    if samples ≤ f.written + 1 then captureDone f ls s
    else (s.setSlot f.slot (.filling f.line ls)).setScan { s.scan with
      filling := some { f with written := f.written + 1 } }
  | none => s

/-- The elements a short line did not reach take the level of the last sample written (R101). -/
def padLevels (samples : Nat) (ls : List Nat) : List Nat :=
  ls ++ List.replicate (samples - ls.length) (ls.getLastD 0)

/-- An index while a line is FILLING completes it short, and the short lines note rises (R101). -/
def shortLine (s : State) : State :=
  match s.scan.filling with
  | some f =>
    noteEvent .short (captureDone f (padLevels (s.scan.jobS.getD 0) (fillingLevels s f)) s)
  | none => s

/-! ### What the scanner does at a position, a span end and an index (R85) -/

/-- One more sample in a running measurement. -/
def Measure.add (r : Nat) : Measure → Measure
  | .running sum n => .running (sum + r) (n + 1)
  | m => m

/-- The sum of a running measurement. -/
def Measure.sum : Measure → Nat
  | .running sum _ => sum
  | _ => 0

/-- A clamp-band sample in PREPARED or CAPTURING: added to the tracking sum, which is complete at the
last position of the band (R93). -/
def trackSample (samples k r : Nat) (s : State) : State :=
  match s.scan.tracking with
  | .running _ _ =>
    let m := s.scan.tracking.add r
    let t := s.setScan { s.scan with tracking := m }
    if k = clampLast samples then trackDone (m.sum / clampCount samples) t else t
  | _ => s

/-- A clamp-band sample in WHITE_REF (R90). -/
def whiteSample (samples k r : Nat) (s : State) : State :=
  match s.scan.measuring with
  | .running _ _ =>
    let m := s.scan.measuring.add r
    let t := s.setScan { s.scan with measuring := m }
    if k = clampLast samples then whiteDone (m.sum / clampCount samples) t else t
  | _ => s

/-- The sample of position k, used by the state and the part of the revolution (R85). -/
def scanSample (k r : Nat) (s : State) : State :=
  let samples := s.scan.jobS.getD 0
  match s.scan.state with
  | .dark =>
    if inSpan samples k then s.setScan { s.scan with measuring := s.scan.measuring.add r } else s
  | .whiteRef => if inClamp samples k then whiteSample samples k r s else s
  | .prepared => if inClamp samples k then trackSample samples k r s else s
  | .capturing =>
    if inClamp samples k then trackSample samples k r s
    else if inSpan samples k then
      writeLevel samples r (if k = gapOf samples then captureBegin s else s)
    else s
  | _ => s

/-- The dark measurement ends with a revolution: the missing span positions count as the last sample
taken (R88). A measurement with no sample is left to the caller. -/
def darkEnd (s : State) : State :=
  match s.scan.measuring with
  | .running sum n =>
    let samples := s.scan.jobS.getD 0
    if n = 0 then s else darkDone (sum + s.pins.photocell * (samples - n)) samples s
  | _ => s

/-- The span-end report at the scanner: it completes the dark measurement in DARK (R88, R101). -/
def scanSpanEnd (s : State) : State := if s.scan.state = .dark then darkEnd s else s

/-- The index in WARM: two warm revolutions, then WHITE_REF measuring from this index (R89). -/
def warmIndex (s : State) : State :=
  if s.scan.warmRevs < 2 then s.setScan { s.scan with warmRevs := s.scan.warmRevs + 1 }
  else s.setScan { s.scan with state := .whiteRef, measuring := .running 0 0 }

/-- The index in DARK: it begins the measurement, completes it, or discards one with no sample and
starts again (R88). -/
def darkIndex (s : State) : State :=
  match s.scan.measuring with
  | .running _ n =>
    if n = 0 then s.setScan { s.scan with measuring := .running 0 0 } else darkEnd s
  | _ => s.setScan { s.scan with measuring := .running 0 0 }

/-- The index at the scanner (R88, R89, R90, R93, R101): a line still FILLING is completed first. -/
def scanIndex (s : State) : State :=
  match s.scan.state with
  | .dark => darkIndex s
  | .warm => warmIndex s
  | .whiteRef => s.setScan { s.scan with measuring := .running 0 0 }
  | .prepared => s.setScan { s.scan with tracking := .running 0 0 }
  | .capturing =>
    let t := shortLine s
    t.setScan { t.scan with tracking := .running 0 0 }
  | _ => s

end Sys2Proof.Machine
end

