-- ==== Sys2Proof/Machine/PictureOps.lean ====
section
/-! DEFINITION. The modulator in the revolution (chapter 6): tones by position, the span decision, the
end of a send, phasing; with its reports to the job table and the line unit. -/

namespace Sys2Proof.Machine

/-- The level the SENDING slot holds for an element, when it holds one. -/
def sendingLevel (s : State) (element : Nat) : Option Nat :=
  match s.modu.sendingSlot.bind fun i => s.ring[i]? with
  | some (.sending _ ls) => ls[element]?
  | _ => none

/-- The tone of a span position in PICTURE: the level's tone when a slot is SENDING, WHITE_HZ for a
lead or fill line (R110, R112). -/
def spanFreq (s : State) (element : Nat) : Nat :=
  match sendingLevel s element with
  | some l => levelFreq s.settings.blackHz s.settings.whiteHz l
  | none => s.settings.whiteHz

/-- The decision at a span start in PICTURE: a lead line, the FULL slot with the lowest line number, or
a fill line, which is counted in the note (R114). -/
def spanDecision (s : State) : State :=
  if s.modu.lead ∨ ¬ s.modu.linesCopy.getD 0 < s.modu.lineCount.getD 0 then s
  else
    match lowestFull s.ring with
    | some i =>
      (s.setSlot i (((s.ring[i]?).map Slot.sent).getD .free)).setModu
        { s.modu with sendingSlot := some i }
    | none => noteEvent .fill s

/-- The start of position k at the modulator (R112). -/
def modPosition (k : Nat) (s : State) : State :=
  let g := s.posTimer.gap.getD 0
  match s.modu.mode with
  | .phasing => modTone (if k < g then s.settings.blackHz else s.settings.whiteHz) s
  | .picture =>
    if k < g then modTone s.settings.blackHz s
    else
      let t := if k = g then spanDecision s else s
      modTone (spanFreq t (k - g)) t
  | _ => s

/-- The send of the line in the sending slot ends: the slot is FREE, the lines sent copy and the leg's
lines sent rise, and picture complete is reported at T (R115). -/
def endSend (s : State) : State :=
  match s.modu.sendingSlot with
  | some i =>
    let n := s.modu.linesCopy.getD 0 + 1
    let t := lineSentEvent ((s.setSlot i .free).setModu
      { s.modu with sendingSlot := none, linesCopy := some n })
    if some n = s.modu.lineCount then linePictureComplete t else t
  | none => s

/-- The span-end report at the modulator: the tail is black, lead is cleared, the send ends (R112,
R114, R115). -/
def modSpanEnd (s : State) : State :=
  match s.modu.mode with
  | .phasing => modTone s.settings.blackHz s
  | .picture =>
    let t := modTone s.settings.blackHz s
    endSend (t.setModu { t.modu with lead := false })
  | _ => s

/-- The revolution-start report at the modulator: what the revolution's span carried ends, if it has
not (R114, R115; assumption log 14). -/
def modRevolution (s : State) : State :=
  if s.modu.mode = .picture then endSend (s.setModu { s.modu with lead := false }) else s

/-- An index in PHASING: the count rises; at the target the modulator enters PICTURE with lead set and
the line unit hears phasing complete (R113, R136). -/
def modPhasingIndex (s : State) : State :=
  let n := s.modu.phasingCount + 1
  let t := s.setModu { s.modu with phasingCount := n }
  if s.modu.phasingTarget = some n then
    let u := modMode .picture s.settings.blackHz t
    linePhasingComplete (u.setModu { u.modu with lead := true })
  else t

end Sys2Proof.Machine
end

