-- ==== Sys2Proof/Machine/PosOps.lean ====
section
/-! DEFINITION. The position timer (chapter 4): loading, positions, the span end, and the index. -/

namespace Sys2Proof.Machine

/-- The timer is loaded at a leg start: geometry, speed and source set, RUNNING, no position until the
first index, the held period kept (R69). The last revolution is absent until the second index (R74;
assumption log 13). -/
def loadTimer (samples : Nat) (speed : Rpm) (s : State) : State :=
  (s.setPosTimer { PosTimer.reset with
    running := true
    samples := some samples
    gap := some (gapOf samples)
    positions := some (positionsOf samples)
    speed := some speed
    source := some s.settings.positionSource
    heldPeriod := s.posTimer.heldPeriod }).setAux { s.aux with sinceIndex := 0, spanEnded := false }

/-- A position begins: the converter is read, and the scanner and the modulator take the position
(R71, R85, R112). -/
def beginPosition (k sample : Nat) (s : State) : State :=
  let t := s.setPosTimer { s.posTimer with counter := some k }
  modPosition k (scanSample k sample (t.setPins { t.pins with photocell := sample }))

/-- The span-end report, sent once in a revolution (R71, R72). -/
def spanEndReport (s : State) : State :=
  modSpanEnd (scanSpanEnd (s.setAux { s.aux with spanEnded := true }))

/-- A period reported by the drum controller becomes the held period, in either timer state (R70). -/
def holdPeriod (p : Option Nat) (s : State) : State :=
  s.setPosTimer { s.posTimer with heldPeriod := p.or s.posTimer.heldPeriod }

/-- P_prev: the period reported for this index, which is then the held period, else the held period,
else P_nom for the job speed (R70). -/
def prevPeriod (t : PosTimer) : Nat :=
  t.heldPeriod.getD ((t.speed.map pNom).getD 0)

/-- What the revolution that ends at an index was, if the timer gave one: complete when position N-1
had begun, else short with the highest position begun (R73, R74). -/
def endedRevolution (t : PosTimer) : Option LastRev :=
  t.counter.map fun k => if k + 1 = t.positions.getD 0 then .complete else .short k

/-- With source ENCODER, an index that finds position N-1 running sends its span-end report first
(R72). -/
def indexSpanEnd (s : State) : State :=
  if s.posTimer.source = some .encoder ∧ endedRevolution s.posTimer = some .complete ∧
      ¬ s.aux.spanEnded then spanEndReport s
  else s

/-- The counter goes to 0, the last revolution is kept and the interval computed (R71, R74, R70). -/
def startRevolution (s : State) : State :=
  (s.setPosTimer { s.posTimer with
    lastRev := (endedRevolution s.posTimer).or s.posTimer.lastRev
    counter := some 0
    interval := some (intervalOf (prevPeriod s.posTimer) (s.posTimer.positions.getD 0)) }).setAux
    { s.aux with sinceIndex := 0, spanEnded := false }

/-- An index at the position timer, the scanner and the modulator, in that order, and then position 0
(R70 to R74). `scan` says that the scanner takes the index, and `phase` that the modulator counts it:
a scanner or a modulator that the drum controller's step has just put into its state at this index waits
for the next (R88, R93, R113; assumption log 4). A span-end report that the index itself sends first
(R72) comes before the scanner takes the index: a DARK that it ends enters WARM before this index, which
then counts as the first warm revolution of R89 (the model's choice: assumption log 43). In IDLE the timer
only holds the period. -/
def timerIndex (period : Option Nat) (scan phase : Bool) (sample : Nat) (s : State) : State :=
  let t := holdPeriod period s
  if t.posTimer.running then
    let t := startRevolution (indexSpanEnd t)
    let t := if scan then scanIndex t else t
    let t := modRevolution t
    let t := if phase && t.modu.mode == .phasing then modPhasingIndex t else t
    beginPosition 0 sample t
  else t

/-- Whether the timer's position k + 1 is due with source TIMER: k is running, a next position
exists, and (k + 1) × I sixteenths of a µs have passed since the index (R71). -/
def positionDue (s : State) (k : Nat) : Bool :=
  s.posTimer.running && s.posTimer.source == some .timer &&
    decide (k + 1 < s.posTimer.positions.getD 0) &&
    decide ((k + 1) * s.posTimer.interval.getD 1 ≤ s.aux.sinceIndex)

/-- Whether the span end is due with source TIMER: position N-1 has run its interval and the report
is not yet sent (R71). -/
def spanEndDue (s : State) : Bool :=
  s.posTimer.running && s.posTimer.source == some .timer && !s.aux.spanEnded &&
    endedRevolution s.posTimer == some .complete &&
    decide (s.posTimer.positions.getD 0 * s.posTimer.interval.getD 1 ≤ s.aux.sinceIndex)

end Sys2Proof.Machine
end

