-- ==== Sys2Proof/Machine/DrumReports.lean ====
section
/-! DEFINITION. The drum controller with its reports to the scanner and the line unit (R64), the index
at the drum (R45 to R52), and the demands (R56, R57). -/

namespace Sys2Proof.Machine

/-- The LOCKED report (R64). -/
def reportLocked (r : Rpm) (s : State) : State := lineLocked r (scanLocked r s)

/-- The LOST report (R64). -/
def reportLost (s : State) : State := lineLost (scanLost s)

/-- The FAULT report at the scanner, which finds the drum in FAULT already (R63 step 4, R87, R92). -/
def scanFault (s : State) : State := scanRetested s (scanLost s)

/-- The FAULT report (R64). -/
def reportFault (s : State) : State := lineFault (scanFault s)

/-- The LOST event with the cover closed: the report, the DRUM cause event, SPINUP with target and
demand kept (R54), and the scanner's test on its return to WAIT_DRUM (R87). -/
def drumLost (s : State) : State :=
  let t := (reportLost s).causeDrum
  scanRetested s (t.setDrum t.drum.toSpinup)

/-- The first steps of an entry to FAULT: the drum braked, its demand cleared, the fault cause, the
queue hold (R63 steps 1 to 3). -/
def faultEntry (c : Option FaultCause) (s : State) : State :=
  holdQueue .drumFault (s.setDrum (s.drum.toFault c))

/-- An entry to FAULT: its first steps, the report, and the FAULT cause event (R63). -/
def drumFault (c : Option FaultCause) (s : State) : State :=
  (reportFault (faultEntry c s)).causeFault

/-- The period the drum controller reports to the position timer at an index: the measured period in
LOCKING, LOCKED or SLIP, P_nom at the index that ends SPINUP (R64, R47, R49). -/
def reportedPeriod (s : State) : Option Nat :=
  match measuredPeriod s, s.drum.target with
  | some p, some r =>
    if s.drum.state.tracking then some p
    else if s.drum.state = .spinup ∧ p ≤ spinupThreshold r then some (pNom r)
    else none
  | _, _ => none

/-- The duty and the last error corrected with the error of a revolution (R45, R49). -/
def corrected (g : Settings) (e : Int) (d : Drum) : Drum :=
  { d with lastError := some e, duty := correctedDuty d.duty e g.drumGain }

/-- The drum enters LOCKED and reports the lock (R50, R52). -/
def enterLocked (r : Rpm) (s : State) : State :=
  reportLocked r (s.setDrum { s.drum with state := .locked })

/-- An index in LOCKING: the lock count rises in tolerance and returns to 0 out of it; 8 lock the drum
(R50). -/
def lockingIndex (r : Rpm) (e : Int) (s : State) : State :=
  if e.natAbs ≤ tolerance s.settings.lockClass r then
    let t := s.setDrum { s.drum with lockCount := s.drum.lockCount + 1 }
    if t.drum.lockCount = 8 then enterLocked r t else t
  else s.setDrum { s.drum with lockCount := 0 }

/-- An index in LOCKED: beyond twice the tolerance the drum slips. The SLIP report itself changes
nothing in the scanner or the line unit (R51, R92, R137). -/
def lockedIndex (r : Rpm) (e : Int) (s : State) : State :=
  if e.natAbs ≤ 2 * tolerance s.settings.lockClass r then s
  else s.setDrum { s.drum with state := .slip, slipRevs := 0, goodCount := 0 }

/-- An index in SLIP: a slip revolution counted and reported; 4 good revolutions lock the drum again,
else 16 slip revolutions lose it (R52). -/
def slipIndex (r : Rpm) (e : Int) (s : State) : State :=
  let t := lineSlipRev (s.setDrum { s.drum with slipRevs := s.drum.slipRevs + 1 })
  let good := if e.natAbs ≤ tolerance s.settings.lockClass r then t.drum.goodCount + 1 else 0
  let t := t.setDrum { t.drum with goodCount := good }
  if good = 4 then enterLocked r t
  else if t.drum.slipRevs = 16 then drumLost t
  else t

/-- An index in SPINUP that gives a measured period: at or below the threshold the drum enters LOCKING
at the start duty (R47). -/
def spinupIndex (r : Rpm) (p : Nat) (s : State) : State :=
  if p ≤ spinupThreshold r then
    s.setDrum { s.drum.toLocking with duty := startDuty s.settings r }
  else s

/-- The drum controller's step at an index: counted and measured in every state, then what the state
does with it (R45, R47, R49 to R52, R60, R61, R63). -/
def drumIndex (s : State) : State :=
  let t := countIndex s
  match s.drum.state with
  | .stopped => drumBraking t
  | .braking => t.setDrum { t.drum with brakingTime := some 0 }
  | .fault => t
  | .spinup =>
    match measuredPeriod s, s.drum.target with
    | some p, some r => spinupIndex r p t
    | _, _ => t
  | .locking =>
    match measuredPeriod s, s.drum.target with
    | some p, some r =>
      lockingIndex r (periodError p r) (t.setDrum (corrected s.settings (periodError p r) t.drum))
    | _, _ => t
  | .locked =>
    match measuredPeriod s, s.drum.target with
    | some p, some r =>
      lockedIndex r (periodError p r) (t.setDrum (corrected s.settings (periodError p r) t.drum))
    | _, _ => t
  | .slip =>
    match measuredPeriod s, s.drum.target with
    | some p, some r =>
      slipIndex r (periodError p r) (t.setDrum (corrected s.settings (periodError p r) t.drum))
    | _, _ => t

/-- A demand of the given kind and speed reaches a drum that is not in FAULT and, in STOPPED and
BRAKING, has its cover closed: the idle time is removed, the demand and the target set, and the state
changes (R56, R57). A target change that puts the index timeout below the time already passed gives
the LOST event at once (R53). -/
def demandDrum (k : Demand) (r : Rpm) (s : State) : State :=
  let d := { s.drum with demand := some k, idleTime := none }
  if s.drum.state = .stopped ∨ s.drum.state = .braking then
    s.setDrum ({ d with target := some r } : Drum).toSpinup
  else
    let t := s.setDrum (retarget r d)
    if s.drum.target ≠ some r ∧ timeoutPassed t.drum then drumLost t else t

/-- Whether a leg start finds the drum unable to serve it: in FAULT, or in STOPPED or BRAKING with the
cover open (R56). -/
def startFaults (d : Drum) : Bool :=
  d.state == .fault || ((d.state == .stopped || d.state == .braking) && d.coverOpen)

/-- The fault cause of such a start: the cover, or the cause FAULT has already (R56, R63). -/
def startFaultCause (d : Drum) : Option FaultCause :=
  if d.state = .fault then d.faultCause else some .coverOpen

/-- A leg start gives the drum the job's speed (R56). The FAULT report to the line unit is left to the
leg start, which takes it after its other steps (R124). -/
def giveSpeed (r : Rpm) (s : State) : State :=
  if startFaults s.drum then (scanFault (faultEntry (startFaultCause s.drum) s)).causeFault
  else demandDrum .job r s

/-- The cover opens on a closed cover (R62). -/
def openCover (s : State) : State :=
  let t := s.setDrum { s.drum with coverOpen := true }
  if s.drum.state.tracking then (scanRetested s (drumBraking (reportLost t).causeDrum)).causeFault
  else if s.drum.state = .spinup then (drumBraking t).causeFault
  else t

/-- The idle stop: a running drum under JOB demand whose idle time has reached a DRUM_IDLE that is not
0 (R59). -/
def idleStopDue (s : State) : Bool :=
  s.drum.state.running && s.drum.demand == some .job && decide (s.settings.drumIdle ≠ 0) &&
    (s.drum.idleTime.any fun t => decide (s.settings.drumIdle ≤ t))

end Sys2Proof.Machine
end

