-- ==== Sys2Proof/Machine/ArbiterOps.lean ====
section
/-! DEFINITION. The line arbiter and the leg start (R34, R123, R124). -/

namespace Sys2Proof.Machine

/-- The snapshot of a leg's route: the leg's own copy, or the directory's record as it stands; `none`
when that record is EMPTY (R34). -/
def snapshot (s : State) : Route → Option DialBuf
  | .explicit d => some { source := .explicit, dial := d, code := none }
  | .directory i => ((s.routes[i]?).join).map fun r =>
      { source := .directory i, dial := r.dial, code := r.code }

/-- A leg's call begins with a good snapshot: the attempt event, the seize, the drum's speed, the
position timer, the preparation; and then a FAULT report of the drum (R124). -/
def beginCall (j l : Nat) (x : Job) (g : Leg) (b : DialBuf) (s : State) : State :=
  let t := (s.setLine { s.line with
    kind := some .leg
    active := some (j, l)
    jobSpeed := some x.speed
    jobS := some x.samples
    jobT := some x.lineCount }).setDialBuf (some b)
  let t := enterSeize (attemptEvent j l t)
  let t := giveSpeed x.speed t
  let t := loadTimer x.samples x.speed t
  let t := beginPreparation x.samples x.lineCount x.speed g.linesSent t
  if startFaults s.drum then lineFault t else t

/-- A leg start that finds its directory entry EMPTY: the end with NO_ROUTE, the leg-end report, the
last ending; the line stays IDLE with no call and an empty dial buffer (R124, R12). -/
def noRouteEnd (j l : Nat) (s : State) : State :=
  let t := legEndReport (endEvent j l (.reason .noRoute false) s)
  (t.setLine { t.line with
    kind := none
    active := none
    jobSpeed := none
    jobS := none
    jobT := none
    lastEnding := some (.leg j l (.reason .noRoute false) s.stamp) }).setDialBuf none

/-- The lowest-indexed eligible leg of a job (R123 step 5). -/
def eligibleLeg (s : State) (x : Job) : Option Nat :=
  (List.range x.legs.length).find? fun l => (x.legs[l]?).any (legEligible s.stamp)

/-- A pending talk is granted: its route copy moves into the dial buffer and the line seizes (R123). -/
def grantTalk (p : PendingTalk) (s : State) : State :=
  enterSeize ((s.setLine { s.line with pendingTalk := none, kind := some .talk }).setDialBuf p.route)

/-- The arbiter looks, at most so many times: a start that ends NO_ROUTE makes it look again (R123,
R124). A refused claim changes nothing, and in one order of events a second look would find the same
leg, so it ends the look (assumption log 20). -/
def arbiterLook : Nat → State → State
  | 0, s => s
  | n + 1, s =>
    if s.line.state ≠ .idle then s
    else
      match s.line.pendingTalk with
      | some p => grantTalk p s
      | none =>
        if s.mountQueue.hold.isSome ∨ (s.modes.attended ∧ s.modes.legEnd) then s
        else
          match s.mounted? with
          | none => s
          | some j =>
            match s.job? j with
            | none => s
            | some x =>
              match eligibleLeg s x with
              | none => s
              | some l =>
                match x.legs[l]? with
                | none => s
                | some g =>
                  if claimTaken s j l then
                    match snapshot s g.route with
                    | some b => beginCall j l x g b (takeClaim j l s)
                    | none => arbiterLook n (noRouteEnd j l (takeClaim j l s))
                  else s

/-- A prompt of the arbiter. A job has at most 4 legs, so at most 4 starts end NO_ROUTE before a look
finds nothing to start (R2, R123). -/
def prompt (s : State) : State := arbiterLook 5 s

end Sys2Proof.Machine
end

