-- ==== Sys2Proof/Machine/Operands.lean ====
section
/-! DEFINITION. The operands of the requests: the code table, the argument bytes, routes, settings, and
the bytes of replies (R28, R173, R175, R176, R188). -/

namespace Sys2Proof.Machine

/-! ### The code table (R176, R177) -/

/-- One row of the code table: the command code, the least and the greatest length, whether the desk
and the panel may send it ("yes" or "own"), and whether the desk is refused it in local mode (R177). -/
structure Code where
  byte : Byte
  lo : Nat
  hi : Nat
  desk : Bool
  panel : Bool
  shut : Bool
deriving DecidableEq, Repr

def codeOpenJob : Code := ⟨0x01, 7, 31, true, true, true⟩
def codeAddLeg : Code := ⟨0x02, 3, 64, true, true, true⟩
def codeCommitJob : Code := ⟨0x03, 1, 1, true, true, true⟩
def codeCancelJob : Code := ⟨0x04, 1, 1, true, true, true⟩
def codeClearJob : Code := ⟨0x05, 1, 1, true, true, true⟩
def codeSetPriority : Code := ⟨0x06, 2, 2, false, true, false⟩
def codeMount : Code := ⟨0x07, 1, 1, false, true, false⟩
def codeUnmount : Code := ⟨0x08, 1, 1, false, true, false⟩
def codeSkipLeg : Code := ⟨0x09, 2, 2, false, true, false⟩
def codeReadJob : Code := ⟨0x0A, 1, 1, true, true, false⟩
def codeReadLeg : Code := ⟨0x0B, 2, 2, true, true, false⟩
def codeReadQueue : Code := ⟨0x0C, 0, 0, true, true, false⟩
def codeWriteRoute : Code := ⟨0x10, 7, 64, true, true, true⟩
def codeEraseRoute : Code := ⟨0x11, 1, 1, true, true, true⟩
def codeReadRoute : Code := ⟨0x12, 1, 1, true, true, false⟩
def codeTalk : Code := ⟨0x18, 0, 64, false, true, false⟩
def codeEndTalk : Code := ⟨0x19, 0, 0, false, true, false⟩
def codeReadLine : Code := ⟨0x1A, 0, 0, true, true, false⟩
def codeDrumRun : Code := ⟨0x20, 1, 1, false, true, false⟩
def codeDrumStop : Code := ⟨0x21, 0, 0, false, true, false⟩
def codeReadDrum : Code := ⟨0x22, 0, 0, true, true, false⟩
def codeHoldQueue : Code := ⟨0x28, 0, 0, false, true, false⟩
def codeReleaseQueue : Code := ⟨0x29, 0, 0, false, true, false⟩
def codeSetModes : Code := ⟨0x2A, 2, 2, false, true, false⟩
def codeCollectSlip : Code := ⟨0x30, 0, 0, true, false, false⟩
def codeReprintSlip : Code := ⟨0x31, 0, 0, false, true, false⟩
def codeSetCollection : Code := ⟨0x32, 1, 1, false, true, false⟩
def codeReadSlipState : Code := ⟨0x33, 0, 0, true, true, false⟩
def codeWriteSetting : Code := ⟨0x38, 1, 9, false, true, false⟩
def codeReadSetting : Code := ⟨0x39, 1, 1, true, true, false⟩
def codeWriteCurve : Code := ⟨0x3A, 17, 17, false, true, false⟩
def codeReadCurve : Code := ⟨0x3B, 0, 0, true, true, false⟩
def codeSetClock : Code := ⟨0x40, 5, 5, true, true, true⟩
def codeReadClock : Code := ⟨0x41, 0, 0, true, true, false⟩
def codeReadAttn : Code := ⟨0x48, 0, 0, true, true, false⟩
def codeSetAttn : Code := ⟨0x49, 3, 3, true, true, false⟩
def codeIdentify : Code := ⟨0x50, 0, 0, true, true, false⟩
def codeMachineReset : Code := ⟨0x51, 0, 0, false, true, false⟩

/-- The code table, in its order (R176). -/
def codeTable : List Code :=
  [codeOpenJob, codeAddLeg, codeCommitJob, codeCancelJob, codeClearJob, codeSetPriority, codeMount,
   codeUnmount, codeSkipLeg, codeReadJob, codeReadLeg, codeReadQueue] ++
  [codeWriteRoute, codeEraseRoute, codeReadRoute, codeTalk, codeEndTalk, codeReadLine, codeDrumRun,
   codeDrumStop, codeReadDrum, codeHoldQueue, codeReleaseQueue, codeSetModes] ++
  [codeCollectSlip, codeReprintSlip, codeSetCollection, codeReadSlipState, codeWriteSetting,
   codeReadSetting, codeWriteCurve, codeReadCurve, codeSetClock, codeReadClock, codeReadAttn,
   codeSetAttn, codeIdentify, codeMachineReset]

/-- Whether a command byte is in the code table. -/
def knownCode (b : Byte) : Bool := codeTable.any fun c => c.byte == b

/-- Whether a link may send the request, by the Desk and Panel columns (R176). -/
def Code.permits (c : Code) : Link → Bool
  | .desk => c.desk
  | .panel => c.panel

/-! ### Result codes and reply bytes (R175, R176) -/

/-- The byte of a result code (R176). -/
def Result.byte : Result → Byte
  | .ok => 0x00
  | .clamped => 0x01
  | .unknownRequest => 0x02
  | .badLength => 0x03
  | .badArgument => 0x04
  | .notPermitted => 0x05
  | .localMode => 0x06
  | .noSuchJob => 0x07
  | .tableFull => 0x08
  | .wrongState => 0x09
  | .lineBusy => 0x0A
  | .drumBusy => 0x0B
  | .notStopped => 0x0C
  | .slipOwed => 0x0D
  | .curveBad => 0x0E
  | .routeBad => 0x0F
  | .nothing => 0x10

/-- The reply bytes of a reply's data, at most 96 (R171). Where the spec does not lay them out they
are a free value (assumption log 5). -/
def ReplyData.wire : ReplyData → List Byte
  | .empty => []
  | .bytes bs => bs
  | d => (Config.replyLayout d).take 96

/-- A reply frame: the result byte, the length byte m and the m reply bytes (R175). -/
def Reply.frame (r : Reply) : List Byte :=
  [r.result.byte, BitVec.ofNat 8 r.data.wire.length] ++ r.data.wire

/-- OK with no data, so m = 0 (R174). -/
def okReply : Reply := { result := .ok, data := .empty }

/-- OK with data. -/
def okWith (d : ReplyData) : Reply := { result := .ok, data := d }

/-- A refusal: the result code with m = 0, and the state as it stands (R174). -/
def refuse (r : Result) (s : State) : Reply × State := ({ result := r, data := .empty }, s)

/-- A request answered OK with no data. -/
def accept (s : State) : Reply × State := (okReply, s)

/-- A request answered OK with data. -/
def acceptWith (d : ReplyData) (s : State) : Reply × State := (okWith d, s)

/-! ### Argument bytes -/

/-- The digit a character code names, 48 to 57 (R176). -/
def digitOf? (b : Byte) : Option (Fin 10) :=
  if h : 48 ≤ b.toNat ∧ b.toNat < 58 then some ⟨b.toNat - 48, by omega⟩ else none

/-- The dial symbol a character code names: the digits, *, #, P and F (R176). -/
def dialSymOf? (b : Byte) : Option DialSym :=
  if b = 42 then some .star
  else if b = 35 then some .hash
  else if b = 80 then some .pause
  else if b = 70 then some .flash
  else (digitOf? b).map DialSym.digit

/-- Read every byte of a list, or none if one does not read. -/
def readAll {α : Type} (f : Byte → Option α) : List Byte → Option (List α)
  | [] => some []
  | b :: bs => (f b).bind fun x => (readAll f bs).map fun xs => x :: xs

/-- Whether a byte is a printable character, code 32 to 126 (R4, R27). -/
def printable (b : Byte) : Bool := decide (32 ≤ b.toNat) && decide (b.toNat ≤ 126)

/-- The flag a byte of 0 or 1 carries. -/
def flagOf? (b : Byte) : Option Bool :=
  if b = 0 then some false else if b = 1 then some true else none

/-! ### Routes (R28, R176) -/

/-- The dial mode a byte names: 0 TONE, 1 PULSE. -/
def modeOf? (b : Byte) : Option DialMode :=
  if b = 0 then some .tone else if b = 1 then some .pulse else none

/-- The pulse rate a byte names: 10 or 20. -/
def rateOf? (b : Byte) : Option PulseRate :=
  if b = 10 then some .pps10 else if b = 20 then some .pps20 else none

/-- Whether a dial mode can send a symbol: pulse dialling has no breaks for * and # (R28). -/
def dialable (m : DialMode) : DialSym → Bool
  | .star => m == .tone
  | .hash => m == .tone
  | _ => true

/-- Conditions 1 to 4 of the route check: the dial spec the bytes give, or none where the route is
ROUTE_BAD (R28). -/
def dialCheck (mode rate : Byte) (syms : List Byte) : Option DialSpec :=
  match modeOf? mode, rateOf? rate, readAll dialSymOf? syms with
  | some m, some r, some ds =>
    if ds ≠ [] ∧ ds.length ≤ 24 ∧ ds.all (dialable m) then
      some { string := ds, mode := m, rate := r }
    else none
  | _, _, _ => none

/-- The expected code: absent for length 0, else 1 to 8 digits; none where it is ROUTE_BAD (R28). -/
def codeCheck (ds : List Byte) : Option (Option (List (Fin 10))) :=
  if ds = [] then some none
  else if ds.length ≤ 8 then (readAll digitOf? ds).map some
  else none

/-- Condition 5: the label is 1 to 12 printable characters (R28). -/
def labelCheck (cs : List Byte) : Bool :=
  decide (1 ≤ cs.length) && decide (cs.length ≤ 12) && cs.all printable

/-- A route of ADD_LEG or TALK: a kind byte and its fields; the result that refuses it where it is
malformed (BAD_ARGUMENT) or fails R28 (ROUTE_BAD) (R176, R5). -/
def parseRoute : List Byte → Except Result Route
  | [] => .error .badArgument
  | kind :: rest =>
    if kind = 0 then
      match rest with
      | [i] => if i.toNat ≤ 23 then .ok (.directory i.toNat) else .error .badArgument
      | _ => .error .badArgument
    else if kind = 1 then
      match rest with
      | m :: r :: syms =>
        match dialCheck m r syms with
        | some d => .ok (.explicit d)
        | none => .error .routeBad
      | _ => .error .badArgument
    else .error .badArgument

/-- The parts of a WRITE_ROUTE frame, split at its length bytes. -/
structure RouteFrame where
  index : Byte
  mode : Byte
  rate : Byte
  syms : List Byte
  label : List Byte
  code : List Byte
deriving DecidableEq, Repr

/-- A length byte and as many bytes after it: those bytes and the rest; none where too few remain. -/
def takeField : List Byte → Option (List Byte × List Byte)
  | [] => none
  | n :: rest => if n.toNat ≤ rest.length then some (rest.take n.toNat, rest.drop n.toNat) else none

/-- Split a WRITE_ROUTE frame; none where the three length bytes do not add up to n (R176). -/
def splitRoute : List Byte → Option RouteFrame
  | i :: m :: r :: rest =>
    match takeField rest with
    | some (syms, rest1) =>
      match takeField rest1 with
      | some (label, rest2) =>
        match takeField rest2 with
        | some (code, []) =>
          some { index := i, mode := m, rate := r, syms := syms, label := label, code := code }
        | _ => none
      | none => none
    | none => none
  | _ => none

/-- The whole route check of a stored route (R28): the record it gives, or none for ROUTE_BAD. -/
def storedRoute (f : RouteFrame) : Option RouteRec :=
  match dialCheck f.mode f.rate f.syms, codeCheck f.code with
  | some d, some c => if labelCheck f.label then some { label := f.label, dial := d, code := c } else none
  | _, _ => none

/-! ### Settings (R188 to R190) -/

/-- The kinds of a setting (R188): the station code, a number with its range and step, DRUM_IDLE with
its 0, and the two choices. -/
inductive SettingKind where
  | station
  | number (lo hi step : Nat)
  | idle
  | makeBreak
  | source
deriving DecidableEq, Repr

/-- The settings table (R188), by setting number. -/
def settingKind? : Nat → Option SettingKind
  | 1 => some .station
  | 2 => some (.number 1000 2000 1)
  | 3 => some (.number 1800 2800 1)
  | 4 => some (.number 800 1400 1)
  | 5 => some (.number 800 1400 1)
  | 6 => some (.number 900 2100 1)
  | 7 => some (.number 1 10 1)
  | 8 => some (.number 10 60 1)
  | 9 => some (.number 5 30 1)
  | 10 => some (.number 15 120 1)
  | 11 => some (.number 10 60 1)
  | 12 => some (.number 5 60 1)
  | 13 => some (.number 5 30 1)
  | 14 => some (.number 30 900 1)
  | 15 => some .idle
  | 16 => some (.number 1 255 1)
  | 17 => some (.number 0 3 1)
  | 18 => some (.number 0 1023 1)
  | 19 => some (.number 0 1023 1)
  | 20 => some (.number 0 1023 1)
  | 21 => some (.number 256 2048 1)
  | 22 => some (.number 50 200 1)
  | 23 => some (.number 50 200 1)
  | 24 => some .makeBreak
  | 25 => some (.number 100 1500 100)
  | 26 => some (.number 1 15 1)
  | 27 => some (.number 100 1500 100)
  | 28 => some (.number 1 10 1)
  | 29 => some .source
  | _ => none

/-- Whether a setting is a call field (R188, R191). -/
def callField (n : Nat) : Bool := decide (n ≠ 14) && decide (n ≠ 15) && decide (n ≠ 28)

/-- The code of a MAKE_BREAK choice (R188). -/
def MakeBreak.code : MakeBreak → Nat
  | .mb4060 => 0
  | .mb3367 => 1

/-- The code of a POSITION_SOURCE choice (R188). -/
def PosSource.code : PosSource → Nat
  | .timer => 0
  | .encoder => 1

/-- The number a setting holds, or its choice code; STATION_CODE has none. -/
def Settings.number (g : Settings) : Nat → Nat
  | 2 => g.blackHz
  | 3 => g.whiteHz
  | 4 => g.bridgeHz
  | 5 => g.stopHz
  | 6 => g.readyHz
  | 7 => g.stopTime
  | 8 => g.phasingRevs
  | 9 => g.resumeRevs
  | 10 => g.answerTimeout
  | 11 => g.prepareLimit
  | 12 => g.bridgeLimit
  | 13 => g.answerbackWindow
  | 14 => g.redialInterval
  | 15 => g.drumIdle
  | 16 => g.drumGain
  | 17 => g.lockClass
  | 18 => g.startDuty60
  | 19 => g.startDuty90
  | 20 => g.startDuty120
  | 21 => g.lampMin
  | 22 => g.toneOn
  | 23 => g.toneOff
  | 24 => g.makeBreak.code
  | 25 => g.interdigit
  | 26 => g.pauseTime
  | 27 => g.flashTime
  | 28 => g.guardTime
  | 29 => g.positionSource.code
  | _ => 0

/-- Store a number, or the choice of a code, in a setting. -/
def Settings.store (g : Settings) (v : Nat) : Nat → Settings
  | 2 => { g with blackHz := v }
  | 3 => { g with whiteHz := v }
  | 4 => { g with bridgeHz := v }
  | 5 => { g with stopHz := v }
  | 6 => { g with readyHz := v }
  | 7 => { g with stopTime := v }
  | 8 => { g with phasingRevs := v }
  | 9 => { g with resumeRevs := v }
  | 10 => { g with answerTimeout := v }
  | 11 => { g with prepareLimit := v }
  | 12 => { g with bridgeLimit := v }
  | 13 => { g with answerbackWindow := v }
  | 14 => { g with redialInterval := v }
  | 15 => { g with drumIdle := v }
  | 16 => { g with drumGain := v }
  | 17 => { g with lockClass := v }
  | 18 => { g with startDuty60 := v }
  | 19 => { g with startDuty90 := v }
  | 20 => { g with startDuty120 := v }
  | 21 => { g with lampMin := v }
  | 22 => { g with toneOn := v }
  | 23 => { g with toneOff := v }
  | 24 => { g with makeBreak := if v = 0 then .mb4060 else .mb3367 }
  | 25 => { g with interdigit := v }
  | 26 => { g with pauseTime := v }
  | 27 => { g with flashTime := v }
  | 28 => { g with guardTime := v }
  | 29 => { g with positionSource := if v = 0 then .timer else .encoder }
  | _ => g

/-- The value of a setting as the link carries it (R188). -/
def Settings.wire (g : Settings) (n : Nat) : List Byte :=
  if n = 1 then digitsText g.stationCode else be2 (g.number n)

/-- Step 5 of R189: a number brought into its range, then rounded down to its step; DRUM_IDLE keeps
0. -/
def SettingKind.bring : SettingKind → Nat → Nat
  | .number lo hi step, v => max lo (min hi v) / step * step
  | .idle, v => if v = 0 then 0 else max 10 (min 600 v)
  | _, v => v

/-- The spacing of R190 for the settings that a write changes: the picture tones for BLACK_HZ and
WHITE_HZ, the bridge and the stop for theirs. -/
def spacingKept (n : Nat) (g : Settings) : Bool :=
  if n = 2 ∨ n = 3 then decide (g.blackHz + 300 ≤ g.whiteHz)
  else if n = 4 ∨ n = 5 then
    decide (g.bridgeHz + 100 ≤ g.stopHz) || decide (g.stopHz + 100 ≤ g.bridgeHz)
  else true

/-- Whether the settings store refuses call fields: a leg is ACTIVE or the line is in TALK (R191). -/
def callFieldsBusy (s : State) : Bool := s.legActive || s.line.state == .talk

end Sys2Proof.Machine
end

