-- ==== Sys2Proof/Machine/LinkOps.lean ====
section
/-! DEFINITION. The station links (R171 to R177): taking a request, its checks and its reply, and the
bytes of a select. -/

namespace Sys2Proof.Machine

/-- What a meaning answers. -/
abbrev Out := Host.Outcome State Fault Refusal

/-- A command that comes `dt` sixteenths of a µs after the one before it: that time passes, and then the
event is taken (assumption log 2). -/
def timed (dt : Nat) (f : State → State) (s : State) : Out := .next (f (elapse dt s))

/-! ### The end of a request frame (R173) -/

/-- A frame as it is taken: command byte, length n, argument bytes. -/
structure Frame where
  cmd : Byte
  n : Nat
  args : List Byte
deriving DecidableEq, Repr

/-- The frame a byte completes: a length byte of 0 or above 64, or the n-th argument byte (R173). -/
def ReqBuf.complete? (r : ReqBuf) (b : Byte) : Option Frame :=
  match r.len with
  | none =>
    if b = 0 ∨ 64 < b.toNat then some { cmd := r.cmd, n := b.toNat, args := [] } else none
  | some n =>
    if r.args.length + 1 = n.toNat then some { cmd := r.cmd, n := n.toNat, args := r.args ++ [b] }
    else none

/-- The frame a byte completes on a link. A REQUEST select whose buffer is empty is one whose request
has been taken (assumption log 9). -/
def frame? (lk : Link) (b : Byte) (s : State) : Option Frame :=
  if (s.link lk).select = .request then (s.link lk).request.bind fun r => r.complete? b else none

/-- A request is taken: the request buffer is emptied, the reply held is replaced, and the reply state
is WORKING (R173). -/
def takeRequest (lk : Link) (s : State) : State :=
  s.setLink lk { s.link lk with
    request := none
    replyState := .working
    reply := none
    dout := 0xFF }

/-- The answer is placed in the reply buffer: READY (R174). -/
def placeReply (lk : Link) (r : Reply) (s : State) : State :=
  s.setLink lk { s.link lk with replyState := .ready, reply := some { reply := r, sent := 0 } }

/-- Steps 3 to 5 of the link's checks, for a command of the code table (R174, R177). -/
def linkCheck (c : Code) (n : Nat) (lk : Link) (s : State) : Option Result :=
  if n < c.lo ∨ c.hi < n then some .badLength
  else if !c.permits lk then some .notPermitted
  else if lk = .desk ∧ s.modes.localMode ∧ c.shut then some .localMode
  else none

/-- What the owning block makes of the arguments: its answer and the state it leaves. -/
abbrev Serve := List Byte → State → Reply × State

/-- A request taken, checked, handed to its owning block, and answered (R173, R174). -/
def answer (c : Code) (lk : Link) (f : Frame) (serve : Serve) (s : State) : State :=
  let t := takeRequest lk s
  match linkCheck c f.n lk t with
  | some r => placeReply lk { result := r, data := .empty } t
  | none =>
    let a := serve f.args t
    placeReply lk a.1 a.2

/-- A request row: the byte `b` completes a frame of this request on the link `lk`. A byte that does
not leaves everything as it is (assumption log 10). A length above 64 is the row UNKNOWN_REQUEST's. -/
def request (c : Code) (lk : Link) (b : Byte) (serve : Serve) (s : State) : Out :=
  match frame? lk b s with
  | some f => if f.cmd = c.byte ∧ f.n ≤ 64 then .next (answer c lk f serve s) else .next s
  | none => .next s

/-! ### The checks of a request that names a job (R3) -/

/-- Steps 1 to 3 of R3: the number, the entry, and the owner where `own` names the only link that may
send the request. -/
def onJob (j : Nat) (own : Option Link) (s : State) (k : Job → Reply × State) : Reply × State :=
  if 15 < j then refuse .badArgument s
  else
    match s.job? j with
    | none => refuse .noSuchJob s
    | some x => if own.any fun lk => decide (x.owner ≠ lk) then refuse .notPermitted s else k x

/-! ### The bytes of a select (R172, R173, R175) -/

/-- A select begins with its first byte (R172). -/
def beginSelect (lk : Link) (b : Byte) (s : State) : State :=
  let l := s.link lk
  if l.select ≠ .none then s
  else if l.replyState = .working ∨ b = 0xFF then
    s.setLink lk { l with select := .read, dout := 0xFF }
  else
    s.setLink lk { l with
      select := .request
      request := some { cmd := b, len := none, args := [] }
      dout := 0xFF }

/-- A byte that joins the request buffer: the length byte, or an argument byte. -/
def ReqBuf.join (r : ReqBuf) (b : Byte) : ReqBuf :=
  match r.len with
  | none => { r with len := some b }
  | some _ => { r with args := r.args ++ [b] }

/-- A byte of a request not yet taken, which is not its last (R172, R173). -/
def receiveByte (lk : Link) (r : ReqBuf) (b : Byte) (s : State) : State :=
  if (r.complete? b).isSome then s
  else s.setLink lk { s.link lk with request := some (r.join b), dout := 0xFF }

/-- The next byte of the reply held, and whether it is the frame's last. -/
def RepBuf.next? (p : RepBuf) : Option (Byte × Bool) :=
  (p.reply.frame[p.sent]?).map fun b => (b, decide (p.sent + 1 = p.reply.frame.length))

/-- A byte sent in a READ select or after the request is taken, which is not the last of a reply: 0xFF
while WORKING, 0xFE when EMPTY, else the next byte of the frame, with the state SENDING (R172, R175). -/
def sendByte (lk : Link) (s : State) : State :=
  let l := s.link lk
  match l.replyState with
  | .working => s.setLink lk { l with dout := 0xFF }
  | .empty => s.setLink lk { l with dout := 0xFE }
  | _ =>
    match l.reply.bind fun p => p.next?.map fun x => (p, x) with
    | some (p, (b, false)) =>
      s.setLink lk { l with
        replyState := .sending
        reply := some { p with sent := p.sent + 1 }
        dout := b }
    | _ => s

/-- A byte that is neither the first of its select nor the last of a frame (R172). -/
def clockByte (lk : Link) (b : Byte) (s : State) : State :=
  match (s.link lk).select with
  | .none => s
  | .read => sendByte lk s
  | .request =>
    match (s.link lk).request with
    | some r => receiveByte lk r b s
    | none => sendByte lk s

/-- Whether a select is sending: a READ select, or a REQUEST select whose request is taken. -/
def LinkRec.sends (l : LinkRec) : Bool :=
  match l.select with
  | .none => false
  | .read => true
  | .request => l.request.isNone

/-- The last byte of a reply frame is clocked out: the buffer is emptied, EMPTY (R175). -/
def readReply (lk : Link) (s : State) : State :=
  let l := s.link lk
  if l.sends ∧ (l.replyState = .ready ∨ l.replyState = .sending) then
    match l.reply.bind fun p => p.next? with
    | some (b, true) => s.setLink lk { l with replyState := .empty, reply := none, dout := b }
    | _ => s
  else s

/-- Select is released: a partial request is discarded; a reply part-way sent is discarded, one begun
by the part byte `part` among them (R173, R175; assumption log 11); the select is NONE (R172). -/
def endSelect (lk : Link) (part : Bool) (s : State) : State :=
  let l := s.link lk
  if l.select = .none then s
  else if l.replyState = .sending ∨ (part ∧ l.sends ∧ l.replyState = .ready) then
    s.setLink lk { l with select := .none, request := none, replyState := .empty, reply := none }
  else s.setLink lk { l with select := .none, request := none }

end Sys2Proof.Machine
end

