-- ==== Sys2Proof/Machine/Calls.lean ====
section
/-! DEFINITION. The requests and the events of the line unit (chapter 7). -/

namespace Sys2Proof.Machine

/-! ### TALK, END_TALK and READ_LINE (R147, R149, R150) -/

/-- The route of a TALK request, checked and copied: none where it carries no route (R35). -/
def talkRoute (args : List Byte) (s : State) : Except Result (Option DialBuf) :=
  if args = [] then .ok none
  else
    match parseRoute args with
    | .error r => .error r
    | .ok rt =>
      match snapshot s rt with
      | some b => .ok (some b)
      | none => .error .routeBad

/-- TALK after its route checks, by the line state (R147). -/
def takeTalk (route : Option DialBuf) (s : State) : Reply × State :=
  match s.line.state with
  | .idle => accept (prompt (s.setLine { s.line with pendingTalk := some { route := route } }))
  | .guard =>
    if s.line.pendingTalk.isSome then refuse .lineBusy s
    else accept (s.setLine { s.line with pendingTalk := some { route := route } })
  | .stop =>
    if route.isSome ∨ s.line.talkAfter then refuse .lineBusy s
    else accept (s.setLine { s.line with talkAfter := true })
  | .answerback =>
    if route.isSome ∨ s.line.talkAfter then refuse .lineBusy s
    else accept (s.setLine { s.line with talkAfter := true })
  | _ => refuse .lineBusy s

/-- The line unit's part of TALK (R35, R147). -/
def serveTalk : Serve := fun args s =>
  match talkRoute args s with
  | .error r => refuse r s
  | .ok route => takeTalk route s

/-- TALK (R147). -/
def execTalk (lk : Link) (b : Byte) (s : State) : Out := request codeTalk lk b serveTalk s

/-- The line unit's part of END_TALK, by the line state (R149). -/
def serveEndTalk : Serve := fun _ s =>
  match s.line.state with
  | .talk => accept (talkRelease .endTalk s)
  | .seize =>
    if s.line.kind = some .talk then accept (talkRelease .endTalk s) else refuse .wrongState s
  | .dial =>
    if s.line.kind = some .talk then accept (talkRelease .endTalk s) else refuse .wrongState s
  | .guard =>
    if s.line.pendingTalk.isSome then accept (s.setLine { s.line with pendingTalk := none })
    else refuse .wrongState s
  | .stop =>
    if s.line.talkAfter then accept (s.setLine { s.line with talkAfter := false })
    else refuse .wrongState s
  | .answerback =>
    if s.line.talkAfter then accept (s.setLine { s.line with talkAfter := false })
    else refuse .wrongState s
  | _ => refuse .wrongState s

/-- END_TALK (R149). -/
def execEndTalk (lk : Link) (b : Byte) (s : State) : Out := request codeEndTalk lk b serveEndTalk s

/-- A measurement as READ_LINE shows it (R103). -/
def Measure.view : Measure → MeasureView
  | .none => .none
  | .waiting => .waiting
  | .running _ n => .running n

/-- The scanner as READ_LINE shows it (R103). -/
def scanView (c : Scanner) : ScanView where
  state := c.state
  lamp := c.lamp
  jobS := c.jobS
  jobT := c.jobT
  jobSpeed := c.jobSpeed
  resumeLine := c.resumeLine
  headReady := c.headReady
  inTransmission := c.inTransmission
  dark := c.dark
  white := c.white
  lastWhite := c.lastWhite
  lampLow := c.lampLow
  warmRevs := c.warmRevs
  measuring := c.measuring.view
  tracking := c.tracking.view
  report := c.report
  filling := c.filling.map fun f => (f.line, f.written)

/-- A slot as READ_LINE shows it (R119). A FREE slot shows 0 levels written (R104; assumption
log 47). -/
def Slot.view : Slot → SlotView
  | .free => { state := .free, line := none, written := 0 }
  | .filling n ls => { state := .filling, line := some n, written := ls.length }
  | .full n ls => { state := .full, line := some n, written := ls.length }
  | .sending n ls => { state := .sending, line := some n, written := ls.length }

/-- The modulator as READ_LINE shows it (R119). -/
def modView (m : Modulator) : ModView where
  mode := m.mode
  freq := m.freq
  increment := m.increment
  sendingSlot := m.sendingSlot
  lead := m.lead
  phasingCount := m.phasingCount
  phasingTarget := m.phasingTarget
  linesCopy := m.linesCopy
  lineCount := m.lineCount

/-- READ_LINE's reply (R150, R36, R42, R103, R119). -/
def lineView (s : State) : LineView where
  state := s.line.state
  hook := s.line.hook
  relay := s.line.relay
  kind := s.line.kind
  active := s.line.active
  jobSpeed := s.line.jobSpeed
  jobS := s.line.jobS
  jobT := s.line.jobT
  prepared := s.line.prepared
  pictureReached := s.line.pictureReached
  closing := s.line.closing
  talkAfter := s.line.talkAfter
  pendingTalk := s.line.pendingTalk.map fun p => p.route.isSome
  detector := s.line.detector
  answerback := s.line.answerback
  monitor := s.line.monitor
  timer := s.line.timer
  lastEnding := s.line.lastEnding
  dialSource := s.dialBuf.map fun b => b.source
  codeHeld := s.dialBuf.any fun b => b.code.isSome
  dialing :=
    if s.line.state = .dial then
      some (s.dialer.position, (s.dialBuf.map fun b => b.dial.string.length).getD 0)
    else none
  scanner := scanView s.scan
  ring := s.ring.toList.map Slot.view
  modulator := modView s.modu
  marking :=
    if s.markGen.step = .idle then none
    else some (s.markGen.completed, s.markGen.symbols.length)

/-- READ_LINE (R150). -/
def execReadLine (lk : Link) (b : Byte) (s : State) : Out :=
  request codeReadLine lk b (fun _ t => acceptWith (.line (lineView t)) t) s

/-! ### The seize window (R125) -/

/-- The loop sense is read at the end of the seize window (R125, R148). -/
def endSeize (loop : Bool) (s : State) : State :=
  let t := s.setPins { s.pins with loop := loop }
  match s.line.kind with
  | some .talk =>
    if loop then (if s.dialBuf.isSome then enterDial t else enterTalk t)
    else talkRelease .noLoop t
  | _ => if loop then enterDial t else callEnd (.reason .lineDead false) false t

/-- SEIZE_WINDOW_END (R125): due when the 300 ms have run out. -/
def execSeizeWindowEnd (dt : Nat) (loop : Bool) (s : State) : Out :=
  timed dt (fun t => if t.limitDue .seizeWindow then endSeize loop t else t) s

/-! ### Ready and the limits of the call (R128 to R132, R139 to R142, R145) -/

/-- Whether a tone counts as the ready tone: within 25 Hz of READY_HZ as it was read (R128). -/
def readyTone (freq readyHz : Nat) : Bool := decide (freq ≤ readyHz + 25) && decide (readyHz ≤ freq + 25)

/-- The ready event at the call control: the join, or PREPARE_WAIT (R130). -/
def takeReady (s : State) : State :=
  if s.line.prepared then transmissionBegin s
  else (enterLine .prepareWait s).startLimit .prepareLimit (sec s.settings.prepareLimit)

/-- READY_EVENT (R128, R130): due in READY when a tone within 25 Hz has been present for 2 s since the
detector's mode was set (assumption log 22). -/
def execReadyEvent (dt freq held : Nat) (s : State) : Out :=
  timed dt (fun t =>
    if t.line.detector = .ready ∧ readyTone freq t.aux.readyHz ∧ readyHold ≤ min held t.aux.detTime
    then takeReady t else t) s

/-- ANSWER_TIMEOUT_EXPIRY (R130). -/
def execAnswerTimeoutExpiry (dt : Nat) (s : State) : Out :=
  timed dt (fun t =>
    if t.limitDue .answerTimeout then callEnd (.reason .noAnswer false) false t else t) s

/-- PREPARE_LIMIT_EXPIRY (R132). -/
def execPrepareLimitExpiry (dt : Nat) (s : State) : Out :=
  timed dt (fun t =>
    if t.limitDue .prepareLimit then callEnd (.reason .notReady false) false t else t) s

/-- BRIDGE_LIMIT_EXPIRY (R139, R140). -/
def execBridgeLimitExpiry (dt : Nat) (s : State) : Out :=
  timed dt (fun t => if t.limitDue .bridgeLimit then beginClosing .bridgeLimit t else t) s

/-- STOP_TIME ends: a closing's call ends with its result; STOP passes to ANSWERBACK (R140, R141). -/
def endStopTime (s : State) : State :=
  match s.line.closing with
  | some c => callEnd c.result false s
  | none => if s.line.state = .stop then enterAnswerback s else s

/-- STOP_TIME_EXPIRY (R140, R141). -/
def execStopTimeExpiry (dt : Nat) (s : State) : Out :=
  timed dt (fun t => if t.limitDue .stopTime then endStopTime t else t) s

/-- Whether silence parts a pair from the symbol before, if there was one: 40 ms with no pair present
came before the pair, and there was time for them since that symbol was taken. So a pair held on, or
named again, is one symbol (R129; assumption log 22). -/
def partedBySilence (held gap : Nat) (s : State) : Bool :=
  s.aux.sinceSymbol.all fun t => decide (symbolHold ≤ gap) && decide (held + symbolHold ≤ t)

/-- Whether a pair is a symbol to take: both tones held for 40 ms since the mode was set, and 40 ms
with no pair since the symbol before (R129; assumption log 22). -/
def symbolTaken (held gap : Nat) (s : State) : Bool :=
  s.line.detector == .digits && decide (symbolHold ≤ min held s.aux.detTime) &&
    partedBySilence held gap s

/-- SYMBOL_DETECTED (R129, R142, R143). -/
def execSymbolDetected (dt rowHz colHz held gap : Nat) (s : State) : Out :=
  timed dt (fun t =>
    match keyOf? rowHz colHz with
    | some k =>
      if symbolTaken held gap t then takeSymbol k (t.setAux { t.aux with sinceSymbol := some 0 })
      else t
    | none => t) s

/-- The answerback window ends: with nothing heard the call ends UNCONFIRMED; else the deadline runs
(R142). -/
def endWindow (s : State) : State :=
  if s.line.answerback = [] then callEnd (.delivered .unconfirmed none false) false s
  else s.startLimit .answerbackDeadline deadlineTime

/-- ANSWERBACK_WINDOW_EXPIRY (R142). -/
def execAnswerbackWindowExpiry (dt : Nat) (s : State) : Out :=
  timed dt (fun t => if t.limitDue .answerbackWindow then endWindow t else t) s

/-- ANSWERBACK_DEADLINE (R142). -/
def execAnswerbackDeadline (dt : Nat) (s : State) : Out :=
  timed dt (fun t =>
    if t.limitDue .answerbackDeadline then callEnd (.delivered .unconfirmed none true) false t
    else t) s

/-- GUARD_TIME_EXPIRY (R145): IDLE, and the arbiter is prompted. -/
def execGuardTimeExpiry (dt : Nat) (s : State) : Out :=
  timed dt (fun t => if t.limitDue .guardTime then prompt (enterLine .idle t) else t) s

/-! ### The loop monitor (R127) -/

/-- The loop is lost, by the line state (R127). -/
def loseLoop (s : State) : State :=
  match s.line.state with
  | .talk => talkRelease .loopLost s
  | .stop => callEnd (.delivered .unconfirmed none false) true s
  | .answerback => callEnd (.delivered .unconfirmed none false) true s
  | _ =>
    match s.line.closing with
    | some c => callEnd c.result true s
    | none => callEnd (.reason .dropped false) true s

/-- LOOP_LOST (R127): due when the monitor's absent time has reached 400 ms. -/
def execLoopLost (dt : Nat) (s : State) : Out :=
  timed dt (fun t =>
    if t.line.monitor.any fun a => decide (loopLossTime ≤ a) then loseLoop t else t) s

/-- The loop sense changes: the pin, and with current the absent time of a running monitor (R127). -/
def changeSense (present : Bool) (s : State) : State :=
  (s.setPins { s.pins with loop := present }).setLine
    { s.line with monitor := if present then s.line.monitor.map fun _ => 0 else s.line.monitor }

/-- LOOP_SENSE_CHANGE (R127). -/
def execLoopSenseChange (dt : Nat) (present : Bool) (s : State) : Out :=
  timed dt (changeSense present) s

end Sys2Proof.Machine
end

