-- ==== Sys2Proof/Machine/DrumDrive.lean ====
section
/-! DEFINITION. The requests and the timed events of the drum drive (chapter 3). -/

namespace Sys2Proof.Machine

/-- The drum controller's part of DRUM_RUN (R57). -/
def serveDrumRun : Serve := fun args s =>
  match args with
  | [v] =>
    match Rpm.ofNat? v.toNat with
    | none => refuse .badArgument s
    | some r =>
      if s.legActive then refuse .drumBusy s
      else if s.drum.state = .fault then refuse .wrongState s
      else if s.drum.coverOpen then refuse .notStopped s
      else accept (demandDrum .manual r s)
  | _ => refuse .badLength s

/-- DRUM_RUN (R57). -/
def execDrumRun (lk : Link) (b : Byte) (s : State) : Out :=
  request codeDrumRun lk b serveDrumRun s

/-- What DRUM_STOP does in each state (R58). -/
def stopDrum (s : State) : State :=
  match s.drum.state with
  | .stopped => s
  | .braking => s
  | .fault => if s.drum.still then drumStopped s else drumBraking s
  | _ => drumBraking s

/-- The drum controller's part of DRUM_STOP (R58). -/
def serveDrumStop : Serve := fun _ s =>
  if s.legActive then refuse .drumBusy s else accept (stopDrum s)

/-- DRUM_STOP (R58). -/
def execDrumStop (lk : Link) (b : Byte) (s : State) : Out :=
  request codeDrumStop lk b serveDrumStop s

/-- READ_DRUM's reply (R65, R81). -/
def drumView (s : State) : DrumView where
  drum := s.drum
  tolerance := s.drum.target.map (tolerance s.settings.lockClass)
  nominal := s.drum.target.map pNom
  timer := s.posTimer
  head := s.head

/-- READ_DRUM (R65, R81). -/
def execReadDrum (lk : Link) (b : Byte) (s : State) : Out :=
  request codeReadDrum lk b (fun _ t => acceptWith (.drum (drumView t)) t) s

/-- INDEX_TIMEOUT (R53): due in LOCKING, LOCKED and SLIP when 2 × P_nom have passed with no index. -/
def execIndexTimeout (dt : Nat) (s : State) : Out :=
  timed dt (fun t =>
    if t.drum.state.tracking ∧ (t.drum.target.any fun r => decide (indexTimeout r ≤ t.drum.indexTime))
    then drumLost t else t) s

/-- SPINUP_LIMIT_EXPIRY (R48): due in SPINUP 20 s after its entry. -/
def execSpinupLimitExpiry (dt : Nat) (s : State) : Out :=
  timed dt (fun t =>
    if t.drum.state = .spinup ∧ (t.drum.spinupTime.any fun u => decide (spinupLimit ≤ u))
    then drumFault (some .spinupLimit) t else t) s

/-- BRAKING_STILLNESS (R60): due in BRAKING after 2 s with no index. -/
def execBrakingStillness (dt : Nat) (s : State) : Out :=
  timed dt (fun t =>
    if t.drum.state = .braking ∧ (t.drum.brakingTime.any fun u => decide (stillTime ≤ u))
    then drumStopped t else t) s

/-- IDLE_STOP (R59): due when the idle time has reached a DRUM_IDLE that is not 0. -/
def execIdleStop (dt : Nat) (s : State) : Out :=
  timed dt (fun t => if idleStopDue t then drumBraking t else t) s

/-- COVER_OPEN (R62): a closed cover opens. -/
def execCoverOpen (dt : Nat) (s : State) : Out :=
  timed dt (fun t => if t.drum.coverOpen then t else openCover t) s

/-- COVER_CLOSE (R62): only the cover field changes. -/
def execCoverClose (dt : Nat) (s : State) : Out :=
  timed dt (fun t => t.setDrum { t.drum with coverOpen := false }) s

end Sys2Proof.Machine
end

