-- ==== Sys2Proof/Machine/Jobs.lean ====
section
/-! DEFINITION. The requests of the job table and the mount queue (chapter 1). -/

namespace Sys2Proof.Machine

/-! ### Building a job (R4 to R6) -/

/-- Whether the arguments of OPEN_JOB lie in their ranges (R4). -/
def openArgsGood (priority samples lines retries : Nat) (slug : List Byte) : Bool :=
  decide (priority ≤ 3) && decide (slug.length ≤ 24) && slug.all printable &&
    decide (256 ≤ samples) && decide (samples ≤ 2048) && decide (samples % 64 = 0) &&
    decide (16 ≤ lines) && decide (lines ≤ 4000) && decide (retries ≤ 7)

/-- The lowest-numbered FREE entry (R4). -/
def State.freeEntry? (s : State) : Option Nat := jobNumbers.find? fun j => (s.job? j).isNone

/-- The LOADING job OPEN_JOB makes (R4). -/
def openedJob (owner : Link) (priority samples lines retries : Nat) (speed : Rpm)
    (slug : List Byte) (now : Stamp) : Job where
  state := .loading
  owner := owner
  priority := priority
  slug := if slug = [] then none else some slug
  speed := speed
  samples := samples
  lineCount := lines
  retries := retries
  commitNumber := none
  openTime := now
  commitTime := none
  mountTime := none
  cancelPending := false
  legs := []

/-- The job table's part of OPEN_JOB (R4). The reply's one byte is the job number (assumption log 6). -/
def serveOpenJob (lk : Link) : Serve := fun args s =>
  match args with
  | p :: v :: s1 :: s0 :: t1 :: t0 :: r :: slug =>
    match Rpm.ofNat? v.toNat, openArgsGood p.toNat (num2 s1 s0) (num2 t1 t0) r.toNat slug with
    | some speed, true =>
      match s.freeEntry? with
      | some j =>
        acceptWith (.bytes [BitVec.ofNat 8 j]) ((s.setJob j (some
          (openedJob lk p.toNat (num2 s1 s0) (num2 t1 t0) r.toNat speed slug s.stamp))).causeJob lk)
      | none => refuse .tableFull s
    | _, _ => refuse .badArgument s
  | _ => refuse .badLength s

/-- OPEN_JOB (R4). -/
def execOpenJob (lk : Link) (b : Byte) (s : State) : Out :=
  request codeOpenJob lk b (serveOpenJob lk) s

/-- A leg record as ADD_LEG creates it (R2). -/
def Leg.created (r : Route) : Leg where
  route := r
  state := .pending
  attempts := 0
  linesSent := 0
  notBefore := none
  lastReason := none
  firstAttempt := none
  endTime := none
  answerback := none
  garbled := false
  notes := { short := 0, fill := 0, slip := 0, lamp := 0, bridge := 0 }
  slipOwed := false

/-- The job table's part of ADD_LEG (R3, R5). The reply's one byte is the leg index (assumption log 6). -/
def serveAddLeg (lk : Link) : Serve := fun args s =>
  match args with
  | j :: route =>
    onJob j.toNat (some lk) s fun x =>
      match parseRoute route with
      | .error r => refuse r s
      | .ok rt =>
        if x.state ≠ .loading then refuse .wrongState s
        else if 4 ≤ x.legs.length then refuse .tableFull s
        else
          acceptWith (.bytes [BitVec.ofNat 8 x.legs.length])
            (s.setJob j.toNat (some { x with legs := x.legs ++ [Leg.created rt] }))
  | [] => refuse .badLength s

/-- ADD_LEG (R5). -/
def execAddLeg (lk : Link) (b : Byte) (s : State) : Out :=
  request codeAddLeg lk b (serveAddLeg lk) s

/-- A job is committed: commit number and time, QUEUED, and its place in the queue (R6). -/
def commitJob (j : Nat) (x : Job) (s : State) : State :=
  let t := (s.setJob j (some { x with
    commitNumber := some s.commitCounter
    commitTime := some s.stamp })).setCommitCounter ((s.commitCounter + 1) % 65536)
  joinQueue j (setJobState j .queued t)

/-- The job table's part of COMMIT_JOB (R6). The reply's two bytes are the commit number (assumption
log 6). -/
def serveCommitJob (lk : Link) : Serve := fun args s =>
  match args with
  | [j] =>
    onJob j.toNat (some lk) s fun x =>
      if x.state ≠ .loading then refuse .wrongState s
      else if x.legs = [] then refuse .badArgument s
      else acceptWith (.bytes (be2 s.commitCounter)) (commitJob j.toNat x s)
  | _ => refuse .badLength s

/-- COMMIT_JOB (R6). -/
def execCommitJob (lk : Link) (b : Byte) (s : State) : Out :=
  request codeCommitJob lk b (serveCommitJob lk) s

/-! ### Cancelling, clearing, reprioritising (R19, R20, R22, R23) -/

/-- Whether CANCEL_JOB is accepted for a job in this state: from the desk in LOADING and QUEUED, from
the panel in every state that is not terminal (R19). -/
def cancelAccepted (lk : Link) (st : JobState) : Bool :=
  match lk with
  | .desk => st == .loading || st == .queued
  | .panel => !st.terminal

/-- An accepted cancel of a job with no ACTIVE leg: its waiting legs and the job itself become
CANCELLED; the end of a job that was QUEUED or MOUNTED prompts the arbiter (R18, R19; assumption log
19). A job cancelled while LOADING was never committed and keeps its commit number absent (R1; assumption
log 48). -/
def cancelIdle (j : Nat) (x : Job) (s : State) : State :=
  let t := endJob j .cancelled (cancelWaiting j s)
  if x.state = .loading then t else prompt t

/-- An accepted cancel of a job with an ACTIVE leg: cancel pending is set, the waiting legs become
CANCELLED, and the line unit is asked to abort the call (R20). -/
def cancelActive (j : Nat) (x : Job) (s : State) : State :=
  abortCall (cancelWaiting j (s.setJob j (some { x with cancelPending := true })))

/-- The job table's part of CANCEL_JOB (R19, R20). A job that a loop loss has already ended is terminal
and is refused WRONG_STATE (R19; R20 reads otherwise: assumption log 46). -/
def serveCancelJob (lk : Link) : Serve := fun args s =>
  match args with
  | [j] =>
    onJob j.toNat (if lk = .desk then some lk else none) s fun x =>
      if !cancelAccepted lk x.state then refuse .wrongState s
      else if x.state = .mounted ∧ x.cancelPending then accept s
      else if x.hasActive then accept (cancelActive j.toNat x s)
      else accept (cancelIdle j.toNat x s)
  | _ => refuse .badLength s

/-- CANCEL_JOB (R19, R20). -/
def execCancelJob (lk : Link) (b : Byte) (s : State) : Out :=
  request codeCancelJob lk b (serveCancelJob lk) s

/-- The job table's part of CLEAR_JOB (R23). -/
def serveClearJob (lk : Link) : Serve := fun args s =>
  match args with
  | [j] =>
    onJob j.toNat (if lk = .desk then some lk else none) s fun x =>
      if !x.state.terminal then refuse .wrongState s
      else if x.legs.any fun g => g.slipOwed then refuse .slipOwed s
      else accept ((s.setJob j.toNat none).causeJob x.owner)
  | _ => refuse .badLength s

/-- CLEAR_JOB (R23). -/
def execClearJob (lk : Link) (b : Byte) (s : State) : Out :=
  request codeClearJob lk b (serveClearJob lk) s

/-- The job table's part of SET_PRIORITY (R22). -/
def serveSetPriority : Serve := fun args s =>
  match args with
  | [j, p] =>
    onJob j.toNat none s fun x =>
      if 3 < p.toNat then refuse .badArgument s
      else if x.state.terminal then refuse .wrongState s
      else if p.toNat = x.priority then accept s
      else
        let t := s.setJob j.toNat (some { x with priority := p.toNat })
        accept (if x.state = .queued then moveInQueue j.toNat t else t)
  | _ => refuse .badLength s

/-- SET_PRIORITY (R22). -/
def execSetPriority (lk : Link) (b : Byte) (s : State) : Out :=
  request codeSetPriority lk b serveSetPriority s

/-! ### Mounting, unmounting, skipping (R10, R11, R21) -/

/-- A QUEUED job is mounted, and the arbiter prompted (R10). -/
def mountJob (j : Nat) (x : Job) (s : State) : State :=
  let t := leaveQueue j (s.setJob j (some { x with mountTime := some s.stamp }))
  prompt (setJobState j .mounted t)

/-- The mount queue's part of MOUNT (R10). -/
def serveMount : Serve := fun args s =>
  match args with
  | [j] =>
    onJob j.toNat none s fun x =>
      if s.drum.state ≠ .stopped ∨ s.drum.coverOpen then refuse .notStopped s
      else if s.mounted?.isSome ∨ x.state ≠ .queued then refuse .wrongState s
      else accept (mountJob j.toNat x s)
  | _ => refuse .badLength s

/-- MOUNT (R10). -/
def execMount (lk : Link) (b : Byte) (s : State) : Out :=
  request codeMount lk b serveMount s

/-- The resume point of a leg that is not terminal is lost when its job is unmounted (R11). -/
def Leg.unmounted (g : Leg) : Leg := if g.state.terminal then g else { g with linesSent := 0 }

/-- A MOUNTED job goes back to the queue (R11). -/
def unmountJob (j : Nat) (x : Job) (s : State) : State :=
  joinQueue j (setJobState j .queued (s.setJob j (some { x with
    mountTime := none
    legs := x.legs.map Leg.unmounted })))

/-- The mount queue's part of UNMOUNT (R11). -/
def serveUnmount : Serve := fun args s =>
  match args with
  | [j] =>
    onJob j.toNat none s fun x =>
      if x.state ≠ .mounted then refuse .wrongState s
      else if x.hasActive then refuse .lineBusy s
      else accept (unmountJob j.toNat x s)
  | _ => refuse .badLength s

/-- UNMOUNT (R11). -/
def execUnmount (lk : Link) (b : Byte) (s : State) : Out :=
  request codeUnmount lk b serveUnmount s

/-- A waiting leg is skipped: it becomes SKIPPED, the job end test follows, and a job end prompts the
arbiter (R16, R18, R21). -/
def skipLeg (j l : Nat) (s : State) : State :=
  let t := legTerminal j l .skipped s
  if (t.job? j).any jobEndDue then prompt (jobEndTest j t) else t

/-- The job table's part of SKIP_LEG (R21). -/
def serveSkipLeg : Serve := fun args s =>
  match args with
  | [j, l] =>
    onJob j.toNat none s fun x =>
      match x.legs[l.toNat]? with
      | none => refuse .badArgument s
      | some g =>
        if (x.state ≠ .queued ∧ x.state ≠ .mounted) ∨ g.state.terminal then refuse .wrongState s
        else if g.state = .active then refuse .lineBusy s
        else accept (skipLeg j.toNat l.toNat s)
  | _ => refuse .badLength s

/-- SKIP_LEG (R21). -/
def execSkipLeg (lk : Link) (b : Byte) (s : State) : Out :=
  request codeSkipLeg lk b serveSkipLeg s

/-! ### Reading (R8, R24) -/

/-- A job as READ_JOB shows it (R24). -/
def jobView (s : State) (j : Nat) (x : Job) : JobView where
  state := x.state
  owner := x.owner
  priority := x.priority
  slug := x.slug
  speed := x.speed
  samples := x.samples
  lineCount := x.lineCount
  retries := x.retries
  commitNumber := x.commitNumber
  openTime := x.openTime
  commitTime := x.commitTime
  mountTime := x.mountTime
  cancelPending := x.cancelPending
  legCount := x.legs.length
  place := if x.state = .queued then (s.mountQueue.entries.idxOf? j).map (· + 1) else none

/-- The job table's part of READ_JOB (R24). -/
def serveReadJob : Serve := fun args s =>
  match args with
  | [j] =>
    if 15 < j.toNat then refuse .badArgument s
    else
      match s.job? j.toNat with
      | none => acceptWith .jobFree s
      | some x => acceptWith (.job (jobView s j.toNat x)) s
  | _ => refuse .badLength s

/-- READ_JOB (R24). -/
def execReadJob (lk : Link) (b : Byte) (s : State) : Out :=
  request codeReadJob lk b serveReadJob s

/-- A leg as READ_LEG shows it: the not-before time without the model's mark of the wrap (R24). -/
def Leg.shown (g : Leg) : Leg :=
  { g with notBefore := g.notBefore.map fun t => { t with acrossWrap := false } }

/-- The job table's part of READ_LEG (R3, R24). -/
def serveReadLeg : Serve := fun args s =>
  match args with
  | [j, l] =>
    onJob j.toNat none s fun x =>
      match x.legs[l.toNat]? with
      | none => refuse .badArgument s
      | some g => acceptWith (.leg l.toNat g.shown) s
  | _ => refuse .badLength s

/-- READ_LEG (R24). -/
def execReadLeg (lk : Link) (b : Byte) (s : State) : Out :=
  request codeReadLeg lk b serveReadLeg s

/-- The mount queue's part of READ_QUEUE (R8). -/
def serveReadQueue : Serve := fun _ s =>
  acceptWith (.queue s.mountQueue.hold s.mountQueue.entries s.mounted?) s

/-- READ_QUEUE (R8). -/
def execReadQueue (lk : Link) (b : Byte) (s : State) : Out :=
  request codeReadQueue lk b serveReadQueue s

/-! ### The queue hold (R9) -/

/-- HOLD_QUEUE (R9). -/
def execHoldQueue (lk : Link) (b : Byte) (s : State) : Out :=
  request codeHoldQueue lk b (fun _ t => accept (holdQueue .operator t)) s

/-- The hold is cleared, with a QUEUE cause event and a prompt of the arbiter if it was set (R9, R25). -/
def releaseHold (s : State) : State :=
  if s.mountQueue.hold.isSome then
    prompt ((s.setMountQueue { s.mountQueue with hold := none }).causeQueue)
  else s

/-- RELEASE_QUEUE (R9). -/
def execReleaseQueue (lk : Link) (b : Byte) (s : State) : Out :=
  request codeReleaseQueue lk b (fun _ t => accept (releaseHold t)) s

end Sys2Proof.Machine
end

