-- ==== Sys2Proof/Machine/Revolution.lean ====
section
/-! DEFINITION. The index, the positions of a revolution, and the head's steps (chapters 3 to 6). -/

namespace Sys2Proof.Machine

/-- What an index does in every block (R45, R70 to R74, R113, R135). The drum controller takes its step
first with `drumFirst`, and after the line unit otherwise: R135 lets either come first. A block that
enters its state at this very index waits for the next (assumption log 4). -/
def takeIndex (sample : Nat) (drumFirst : Bool) (s : State) : State :=
  let period := reportedPeriod s
  let phase := s.modu.mode == .phasing
  if drumFirst then
    let t := drumIndex s
    lineIndex (timerIndex period (t.scan.state == s.scan.state) phase sample t)
  else drumIndex (lineIndex (timerIndex period true phase sample s))

/-- INDEX (R45). -/
def execIndex (dt sample : Nat) (drumFirst : Bool) (s : State) : Out :=
  timed dt (takeIndex sample drumFirst) s

/-- An encoder pulse with source ENCODER (R72). -/
def takePulse (sample : Nat) (s : State) : State :=
  if s.posTimer.running ∧ s.posTimer.source = some .encoder then
    match s.posTimer.counter with
    | some k =>
      if k + 1 < s.posTimer.positions.getD 0 then beginPosition (k + 1) sample s
      else if s.aux.spanEnded then s
      else spanEndReport s
    | none => s
  else s

/-- ENCODER_PULSE (R72). -/
def execEncoderPulse (dt sample : Nat) (s : State) : Out := timed dt (takePulse sample) s

/-- POSITION_START (R71): due when the next position's time since the index has come. -/
def execPositionStart (dt sample : Nat) (s : State) : Out :=
  timed dt (fun t =>
    match t.posTimer.counter with
    | some k => if positionDue t k then beginPosition (k + 1) sample t else t
    | none => t) s

/-- SPAN_END (R71): due when position N-1 has run its interval. -/
def execSpanEnd (dt : Nat) (s : State) : Out :=
  timed dt (fun t => if spanEndDue t then spanEndReport t else t) s

/-- HD_HOME takes the level a command brings (assumption log 23). -/
def senseHome (home : Bool) (s : State) : State := s.setPins { s.pins with home := home }

/-- A step of HOMING toward the switch, which is looked at after it (R77). -/
def homingStep (home : Bool) (s : State) : State :=
  let t := headPulse false (senseHome home s)
  let t := t.setAux { t.aux with homingSteps := t.aux.homingSteps + 1 }
  if home then homeReached t else t

/-- A step of MOVING: H rises by 1, and the target reached ends the motion (R78). -/
def movingStep (home : Bool) (s : State) : State :=
  let t := headPulse true (senseHome home s)
  let t := t.setHead { t.head with line := t.head.line + 1 }
  if t.head.target = some t.head.line then headPositioned t else t

/-- HEAD_STEP (R77, R78): due 2.5 ms after the step before it, or after the motion's entry. With no step
due it only brings the level of HD_HOME (assumption log 23). -/
def execHeadStep (dt : Nat) (home : Bool) (s : State) : Out :=
  timed dt (fun t =>
    if t.aux.headTime < stepTime then senseHome home t
    else
      match t.head.motion with
      | .homing => if t.aux.homingSteps < homingLimit then homingStep home t else senseHome home t
      | .moving => movingStep home t
      | _ => senseHome home t) s

/-- The homing has failed: valid stays clear, FAILED, the target removed, IDLE, a FAULT cause event
(R79). -/
def failHoming (s : State) : State :=
  (s.setHead { s.head with
    motion := .idle
    target := none
    lastHoming := some .failed }).causeFault

/-- HOMING_FAILURE (R79): due when 4100 steps have been given without the switch. -/
def execHomingFailure (dt : Nat) (s : State) : Out :=
  timed dt (fun t =>
    if t.head.motion = .homing ∧ homingLimit ≤ t.aux.homingSteps then failHoming t else t) s

/-- A scan step has ended: the next owed step is given, or the head is IDLE and takes a request that
waited (R78, R80). -/
def endScanStep (home : Bool) (s : State) : State :=
  let t := senseHome home s
  if 0 < t.head.owed then
    headPulse true (t.setHead { t.head with owed := t.head.owed - 1 })
  else
    let t := t.setHead { t.head with motion := .idle }
    match t.head.target with
    | some p => positionIdle p t
    | none => t

/-- SCAN_STEP_END (R80): due 2.5 ms after the step was given. With no step ending it only brings the level
of HD_HOME (assumption log 23). -/
def execScanStepEnd (dt : Nat) (home : Bool) (s : State) : Out :=
  timed dt (fun t =>
    if t.head.motion = .step ∧ stepTime ≤ t.aux.headTime then endScanStep home t
    else senseHome home t) s

end Sys2Proof.Machine
end

