-- ==== Sys2Proof/Machine/Routes.lean ====
section
/-! DEFINITION. The requests of the route directory (R29 to R31). -/

namespace Sys2Proof.Machine

/-- Replace a directory record; `none` makes it EMPTY (R27). -/
def State.setRoute (s : State) (i : Nat) (r : Option RouteRec) : State :=
  s.setRoutes (s.routes.setIfInBounds i r)

/-- The directory's part of WRITE_ROUTE: the frame's lengths, the index, the route check (R28, R29,
R176). -/
def serveWriteRoute : Serve := fun args s =>
  match splitRoute args with
  | none => refuse .badArgument s
  | some f =>
    if 23 < f.index.toNat then refuse .badArgument s
    else
      match storedRoute f with
      | none => refuse .routeBad s
      | some r => accept (s.setRoute f.index.toNat (some r))

/-- WRITE_ROUTE (R29). -/
def execWriteRoute (lk : Link) (b : Byte) (s : State) : Out :=
  request codeWriteRoute lk b serveWriteRoute s

/-- The directory's part of ERASE_ROUTE (R30). -/
def serveEraseRoute : Serve := fun args s =>
  match args with
  | [i] => if 23 < i.toNat then refuse .badArgument s else accept (s.setRoute i.toNat none)
  | _ => refuse .badLength s

/-- ERASE_ROUTE (R30). -/
def execEraseRoute (lk : Link) (b : Byte) (s : State) : Out :=
  request codeEraseRoute lk b serveEraseRoute s

/-- The directory's part of READ_ROUTE (R31). -/
def serveReadRoute : Serve := fun args s =>
  match args with
  | [i] =>
    if 23 < i.toNat then refuse .badArgument s
    else
      match (s.routes[i.toNat]?).join with
      | none => acceptWith .routeEmpty s
      | some r => acceptWith (.route r) s
  | _ => refuse .badLength s

/-- READ_ROUTE (R31). -/
def execReadRoute (lk : Link) (b : Byte) (s : State) : Out :=
  request codeReadRoute lk b serveReadRoute s

end Sys2Proof.Machine
end

