-- ==== Sys2Proof/Machine/Slips.lean ====
section
/-! DEFINITION. The requests of the slip unit and the events of the slip printer (chapter 8). -/

namespace Sys2Proof.Machine

/-- The desk takes a record: its collected flag is set, and the removal test applied (R165). -/
def collect (r : SlipRec) (s : State) : State :=
  removalTest r.number (modSlip r.number (fun (y : SlipRec) => { y with collected := true }) s)

/-- The slip unit's part of COLLECT_SLIP: the oldest record not yet collected (R165). -/
def serveCollectSlip : Serve := fun _ s =>
  match s.slips.queue.find? fun (r : SlipRec) => !r.collected with
  | none => refuse .nothing s
  | some r => acceptWith (.slip { r with collected := true }) (collect r s)

/-- COLLECT_SLIP (R165). -/
def execCollectSlip (lk : Link) (b : Byte) (s : State) : Out :=
  request codeCollectSlip lk b serveCollectSlip s

/-- The slip unit's part of REPRINT_SLIP (R164). -/
def serveReprintSlip : Serve := fun _ s =>
  if s.slips.copy.isNone then refuse .nothing s
  else if s.slips.reprint then accept s
  else accept (printerLook (s.setSlips { s.slips with reprint := true }))

/-- REPRINT_SLIP (R164). -/
def execReprintSlip (lk : Link) (b : Byte) (s : State) : Out :=
  request codeReprintSlip lk b serveReprintSlip s

/-- Collection turns OFF: every printed record is removed, oldest first, each removal followed by the
creation of an owed slip (R157, R166). -/
def collectionOff (s : State) : State :=
  ((s.slips.queue.filter fun (r : SlipRec) => r.printed).map fun (r : SlipRec) => r.number).foldl
    (fun t n => removeSlip n t) (s.setSlips { s.slips with collection := false })

/-- The slip unit's part of SET_COLLECTION (R166, R176). -/
def serveSetCollection : Serve := fun args s =>
  match args with
  | [v] =>
    match flagOf? v with
    | none => refuse .badArgument s
    | some on =>
      if on = s.slips.collection then accept s
      else if on then accept (s.setSlips { s.slips with collection := true })
      else accept (collectionOff s)
  | _ => refuse .badLength s

/-- SET_COLLECTION (R166). -/
def execSetCollection (lk : Link) (b : Byte) (s : State) : Out :=
  request codeSetCollection lk b serveSetCollection s

/-- READ_SLIP_STATE's reply (R167). -/
def slipView (s : State) : SlipView where
  records := s.slips.queue.map fun (r : SlipRec) =>
    { number := r.number, job := r.job, leg := r.leg, owner := r.owner, printed := r.printed,
      collected := r.collected }
  owed := s.slips.owed
  nextNumber := s.slips.nextNumber
  collection := s.slips.collection
  reprint := s.slips.reprint
  copyNumber := s.slips.copy.map fun (r : SlipRec) => r.number
  printer := s.slips.printer
  printing := s.slips.printing

/-- READ_SLIP_STATE (R167). -/
def execReadSlipState (lk : Link) (b : Byte) (s : State) : Out :=
  request codeReadSlipState lk b (fun _ t => acceptWith (.slipState (slipView t)) t) s

/-! ### The printer (R159 to R163) -/

/-- The printer's next character in PRINTING: PAPER_OUT is read once, then BUSY until it is low, then
the character is strobed (R159). -/
def printStep (paperOut busy : Bool) (p : Printing) (ch : Byte) (s : State) : State :=
  let t := s.setPins { s.pins with paperOut := paperOut, busy := busy }
  if !s.aux.paperChecked && paperOut then
    (t.setSlips { t.slips with printer := .paperWait }).causePrinter
  else
    let t := t.setAux { t.aux with paperChecked := true }
    if busy then t else strobe p ch t

/-- PRINT_CHARACTER (R159; assumption log 24). -/
def execPrintCharacter (dt : Nat) (paperOut busy : Bool) (s : State) : Out :=
  timed dt (fun t =>
    match t.slips.printer, t.slips.printing with
    | .printing, some p =>
      match nextChar t.slips p with
      | some ch => printStep paperOut busy p ch t
      | none => t
    | _, _ => t) s

/-- PAPER_OUT_CLEARS (R162). -/
def execPaperOutClears (dt : Nat) (s : State) : Out :=
  timed dt (fun t =>
    let u := t.setPins { t.pins with paperOut := false }
    if t.slips.printer = .paperWait then restartSlip u else u) s

/-- BUSY_TIMEOUT (R163): due when BUSY has stayed high for 10 s. -/
def execBusyTimeout (dt : Nat) (s : State) : Out :=
  timed dt (fun t =>
    if t.slips.printer = .printing ∧ busyLimit ≤ t.aux.charTime then
      ((t.setPins { t.pins with busy := true }).setSlips
        { t.slips with printer := .fault }).causePrinter
    else t) s

/-- BUSY_LOW_IN_FAULT (R163). -/
def execBusyLowInFault (dt : Nat) (s : State) : Out :=
  timed dt (fun t =>
    let u := t.setPins { t.pins with busy := false }
    if t.slips.printer = .fault then restartSlip u else u) s

end Sys2Proof.Machine
end

