-- ==== Sys2Proof/Machine/Stations.lean ====
section
/-! DEFINITION. The station links' bytes, attention, modes, the lamp frame and the resets (chapter 9). -/

namespace Sys2Proof.Machine

/-! ### The bytes of a select (R172, R173, R175) -/

/-- SELECT_START (R172). -/
def execSelectStart (dt : Nat) (lk : Link) (b : Byte) (s : State) : Out := timed dt (beginSelect lk b) s

/-- SELECT_RELEASE (R173, R175). -/
def execSelectRelease (dt : Nat) (lk : Link) (part : Bool) (s : State) : Out :=
  timed dt (endSelect lk part) s

/-- REPLY_READ (R175). -/
def execReplyRead (dt : Nat) (lk : Link) (s : State) : Out := timed dt (readReply lk) s

/-- BYTE_CLOCK (R172). -/
def execByteClock (dt : Nat) (lk : Link) (b : Byte) (s : State) : Out := timed dt (clockByte lk b) s

/-- The result of a frame the code table does not hold, or too long (R174 steps 1 and 2). -/
def unknownResult (f : Frame) : Option Result :=
  if 64 < f.n then some .badLength
  else if knownCode f.cmd then none
  else some .unknownRequest

/-- UNKNOWN_REQUEST (R174): the frame is taken and refused. -/
def execUnknownRequest (lk : Link) (b : Byte) (s : State) : Out :=
  match frame? lk b s with
  | some f =>
    match unknownResult f with
    | some r => .next (placeReply lk { result := r, data := .empty } (takeRequest lk s))
    | none => .next s
  | none => .next s

/-! ### Modes, attention, IDENTIFY (R178, R182 to R185) -/

/-- The leg-end flag is cleared; the clearing of a set flag prompts the arbiter (R185). -/
def clearLegEnd (s : State) : State :=
  if s.modes.legEnd then prompt (s.setModes { s.modes with legEnd := false }) else s

/-- Both modes take the values given; attended mode turned off clears the leg-end flag (R184). -/
def changeModes (localOn attendedOn : Bool) (s : State) : State :=
  let t := s.setModes { s.modes with localMode := localOn, attended := attendedOn }
  if attendedOn then t else clearLegEnd t

/-- The part of SET_MODES past the link's checks (R184). -/
def serveSetModes : Serve := fun args s =>
  match args with
  | [l, a] =>
    match flagOf? l, flagOf? a with
    | some x, some y => accept (changeModes x y s)
    | _, _ => refuse .badArgument s
  | _ => refuse .badLength s

/-- SET_MODES (R184). -/
def execSetModes (lk : Link) (b : Byte) (s : State) : Out :=
  request codeSetModes lk b serveSetModes s

/-- Seven causes as a byte, cause n as bit n (R182). -/
def causeByte (c : BitVec 7) : Byte := c.setWidth 8

/-- A flag as a byte of 0 or 1. -/
def flagByte (f : Bool) : Byte := if f then 1 else 0

/-- READ_ATTN's seven bytes (R182). -/
def attnBytes (lk : Link) (s : State) : List Byte :=
  [causeByte (s.attn lk).latches, causeByte (s.attn lk).enables, causeByte (s.attn lk).masks,
   flagByte (s.attn lk).globalMask, flagByte s.modes.localMode, flagByte s.modes.attended,
   flagByte s.modes.legEnd]

/-- READ_ATTN clears the link's latches, and on the panel link the leg-end flag (R182). -/
def readAttention (lk : Link) (s : State) : State :=
  let t := s.setAttn lk (s.attn lk).cleared
  match lk with
  | .desk => t
  | .panel => clearLegEnd t

/-- READ_ATTN (R182). -/
def execReadAttn (lk : Link) (b : Byte) (s : State) : Out :=
  request codeReadAttn lk b
    (fun _ t => acceptWith (.bytes (attnBytes lk t)) (readAttention lk t)) s

/-- The part of SET_ATTN past the link's checks (R183). -/
def serveSetAttn (lk : Link) : Serve := fun args s =>
  match args with
  | [e, m, g] =>
    match flagOf? g with
    | none => refuse .badArgument s
    | some gm =>
      if 127 < e.toNat ∨ 127 < m.toNat then refuse .badArgument s
      else
        accept (s.setAttn lk ({ s.attn lk with
          enables := e.setWidth 7
          masks := m.setWidth 7
          globalMask := gm } : Attn).refresh)
  | _ => refuse .badLength s

/-- SET_ATTN (R183). -/
def execSetAttn (lk : Link) (b : Byte) (s : State) : Out :=
  request codeSetAttn lk b (serveSetAttn lk) s

/-- The byte that names a link: 0 desk, 1 panel (R178). -/
def linkByte : Link → Byte
  | .desk => 0
  | .panel => 1

/-- IDENTIFY's seven bytes (R178). -/
def identity (lk : Link) : List Byte := [0x4E, 0x44, 0x57, 0x58, 1, 0, linkByte lk]

/-- IDENTIFY (R178). -/
def execIdentify (lk : Link) (b : Byte) (s : State) : Out :=
  request codeIdentify lk b (fun _ t => acceptWith (.bytes (identity lk)) t) s

/-! ### The lamp frame (R186) -/

/-- LAMP_FRAME (R186): due 50 ms after the frame before it began. The conditions are taken, the sixteen bits
are shifted out and the latch is pulsed in one step, since the spec gives the shifting no time (assumption
log 44). -/
def execLampFrame (dt : Nat) (paperOut : Bool) (s : State) : Out :=
  timed dt (fun t =>
    if lampPeriod ≤ t.aux.lampTime then
      let u := (t.setPins { t.pins with paperOut := paperOut }).setAux
        { t.aux with lampTime := t.aux.lampTime - lampPeriod }
      u.setPins (u.pins.shiftLamps (lampBits u)).latchLamps
    else t) s

/-! ### Resets (R26, R66, R82, R103, R120, R151, R170, R179, R187) -/

/-- The drum at machine reset (R66). -/
def Drum.machineReset (d : Drum) : Drum :=
  match d.state with
  | .stopped => d.toStopped
  | .braking => { d.toBraking with brakingTime := d.brakingTime }
  | .fault => if d.still then d.toStopped else d.toBraking
  | _ => d.toBraking

/-- Whether machine reset keeps the head's count: at rest, or in a scan step with none owed, which it
lets end (R82). -/
def Head.kept (h : Head) : Bool :=
  match h.motion with
  | .idle => true
  | .step => decide (h.owed = 0)
  | .homing => false
  | .moving => false

/-- The head drive at machine reset: a scan step with none owed goes on to its end, SCAN_STEP_END, and
every other motion stops at once (R82). -/
def Head.machineReset (h : Head) : Head :=
  { h with
    motion := if h.kept then h.motion else .idle
    target := none
    owed := 0
    valid := h.valid && h.kept }

/-- The line record at machine reset, when it stays in IDLE or GUARD (R151). -/
def LineRec.machineReset (l : LineRec) : LineRec :=
  { LineRec.reset with state := l.state, timer := l.timer }

/-- The line unit at machine reset: with the hook closed it opens at once, and GUARD begins (R151). -/
def lineReset (s : State) : State :=
  let t := stopDialer s
  let t := if t.line.state.hookClosed then enterGuard t else t
  (t.setLine t.line.machineReset).setDialBuf none

/-- One link's attention at machine reset, and everything else of the reset before it (R179, R187).
The leg-end flag's clearing prompts the arbiter, which finds no MOUNTED job and no pending talk, and
changes nothing. -/
def machineReset (s : State) : State :=
  let t := lineReset s
  let t := ((t.setJobs (Vector.replicate 16 none)).setCommitCounter 0).setMountQueue
    { entries := [], hold := none }
  let t := ((t.setDrum t.drum.machineReset).setPosTimer PosTimer.reset).setHead t.head.machineReset
  let t := ((emptyRing (t.setScan Scanner.reset)).setModu Modulator.reset).setMarkGen MarkGen.reset
  let t := t.setSlips { t.slips with owed := [] }
  let t := t.setModes { t.modes with legEnd := false }
  (t.setDeskAttn t.deskAttn.cleared).setPanelAttn t.panelAttn.cleared

/-- MACHINE_RESET (R179). -/
def execMachineReset (lk : Link) (b : Byte) (s : State) : Out :=
  request codeMachineReset lk b (fun _ t => accept (machineReset t)) s

/-- POWER_ON_RESET (R26 and the reset rule of every chapter): the power-on state, with the input pins
and the cover at the levels the command carries (assumption log 7 and 25). -/
def execPowerOnReset (coverOpen home loop paperOut busy : Bool) (s : State) : Out :=
  let t := (State.reset.setPending s.pending).setDrum { Drum.reset with coverOpen := coverOpen }
  .next (t.setPins { Pins.reset with home := home, loop := loop, paperOut := paperOut, busy := busy })

end Sys2Proof.Machine
end

