-- ==== Sys2Proof/Machine/Store.lean ====
section
/-! DEFINITION. The requests of the settings store and the station clock, and the clock's second
(chapter 10). -/

namespace Sys2Proof.Machine

/-! ### Settings (R189 to R192) -/

/-- The reply of a stored write: the value as stored, CLAMPED where step 5 changed it (R189). -/
def storedReply (clamped : Bool) (g : Settings) (n : Nat) : Reply :=
  { result := if clamped then .clamped else .ok, data := .bytes (g.wire n) }

/-- A write of DRUM_IDLE is compared with the idle time (R59, R189). -/
def idleCompared (n : Nat) (s : State) : State :=
  if n = 15 ∧ idleStopDue s then drumBraking s else s

/-- Steps 4 to 6 of R189, and the store, for a value that steps 2 and 3 have let pass. -/
def storeNumber (k : SettingKind) (n v : Nat) (s : State) : Reply × State :=
  if callField n ∧ callFieldsBusy s then refuse .lineBusy s
  else
    let w := k.bring v
    let g := s.settings.store w n
    if !spacingKept n g then refuse .badArgument s
    else (storedReply (decide (w ≠ v)) g n, idleCompared n (s.setSettings g))

/-- A write of STATION_CODE (R189). -/
def storeStation (val : List Byte) (s : State) : Reply × State :=
  match readAll digitOf? val with
  | none => refuse .badArgument s
  | some ds =>
    if val = [] ∨ 8 < val.length then refuse .badArgument s
    else if callFieldsBusy s then refuse .lineBusy s
    else
      let g := { s.settings with stationCode := ds }
      (storedReply false g 1, s.setSettings g)

/-- Whether step 3 of R189 lets a number pass: a choice takes code 0 or 1. -/
def choiceGood (k : SettingKind) (v : Nat) : Bool :=
  match k with
  | .makeBreak => decide (v ≤ 1)
  | .source => decide (v ≤ 1)
  | _ => true

/-- The settings store's part of WRITE_SETTING (R189). -/
def serveWriteSetting : Serve := fun args s =>
  match args with
  | [] => refuse .badLength s
  | n :: val =>
    match settingKind? n.toNat with
    | none => refuse .badArgument s
    | some .station => storeStation val s
    | some k =>
      match val with
      | [hi, lo] =>
        if choiceGood k (num2 hi lo) then storeNumber k n.toNat (num2 hi lo) s
        else refuse .badArgument s
      | _ => refuse .badArgument s

/-- WRITE_SETTING (R189). -/
def execWriteSetting (lk : Link) (b : Byte) (s : State) : Out :=
  request codeWriteSetting lk b serveWriteSetting s

/-- The settings store's part of READ_SETTING (R192). -/
def serveReadSetting : Serve := fun args s =>
  match args with
  | [n] =>
    if (settingKind? n.toNat).isSome then acceptWith (.bytes (s.settings.wire n.toNat)) s
    else refuse .badArgument s
  | _ => refuse .badLength s

/-- READ_SETTING (R192). -/
def execReadSetting (lk : Link) (b : Byte) (s : State) : Out :=
  request codeReadSetting lk b serveReadSetting s

/-! ### The tone curve (R193) -/

/-- Whether each number is at least as large as the one before it. -/
def nonDecreasing : List Nat → Bool
  | [] => true
  | [_] => true
  | a :: b :: rest => decide (a ≤ b) && nonDecreasing (b :: rest)

/-- A list of 17 numbers as a curve. -/
def curveOf? (ps : List Nat) : Option (Vector Nat 17) :=
  if h : ps.toArray.size = 17 then some ⟨ps.toArray, h⟩ else none

/-- The settings store's part of WRITE_CURVE (R193). -/
def serveWriteCurve : Serve := fun args s =>
  match curveOf? (args.map BitVec.toNat) with
  | none => refuse .badLength s
  | some c =>
    if !nonDecreasing (args.map BitVec.toNat) then refuse .curveBad s
    else if callFieldsBusy s then refuse .lineBusy s
    else accept (s.setCurve c)

/-- WRITE_CURVE (R193). -/
def execWriteCurve (lk : Link) (b : Byte) (s : State) : Out :=
  request codeWriteCurve lk b serveWriteCurve s

/-- READ_CURVE (R193). -/
def execReadCurve (lk : Link) (b : Byte) (s : State) : Out :=
  request codeReadCurve lk b
    (fun _ t => acceptWith (.bytes (t.curve.toList.map (BitVec.ofNat 8))) t) s

/-! ### The station clock (R194, R195) -/

/-- The job table compares the mounted job's RETRY_WAIT legs with the clock, and prompts the arbiter
when a not-before time is reached (R17; assumption log 30). -/
def compareRetries (s : State) : State := if retryReached s then prompt s else s

/-- The clock is set: the day and the second as given, the cycle count 0, and with it everything the
crystal had counted toward the next second (R195). -/
def setTime (day second : Nat) (s : State) : State :=
  (s.setClock { day := day, second := second, cycles := 0 }).setAux
    { s.aux with crystalFrac := 0, secondsDue := 0 }

/-- The station clock's part of SET_CLOCK (R195). -/
def serveSetClock : Serve := fun args s =>
  match args with
  | [d1, d0, s2, s1, s0] =>
    if 86399 < num3 s2 s1 s0 then refuse .badArgument s
    else accept (compareRetries (setTime (num2 d1 d0) (num3 s2 s1 s0) s))
  | _ => refuse .badLength s

/-- SET_CLOCK (R195). -/
def execSetClock (lk : Link) (b : Byte) (s : State) : Out :=
  request codeSetClock lk b serveSetClock s

/-- READ_CLOCK (R195). -/
def execReadClock (lk : Link) (b : Byte) (s : State) : Out :=
  request codeReadClock lk b
    (fun _ t => acceptWith (.bytes (be2 t.clock.day ++ be3 t.clock.second)) t) s

/-- The clock one second on: the second of day carries into the day, and the day wraps (R194). -/
def Clock.tick (k : Clock) : Clock :=
  if 86399 ≤ k.second then { k with second := 0, day := (k.day + 1) % 65536 }
  else { k with second := k.second + 1 }

/-- A waiting leg once the clock has wrapped: its not-before time lies across no wrap any more (R17). -/
def Leg.wrapped (g : Leg) : Leg :=
  if g.state = .retryWait then
    { g with notBefore := g.notBefore.map fun t => { t with acrossWrap := false } }
  else g

/-- The jobs once the clock has wrapped from day 65535 to day 0 (R194). -/
def wrapJobs (s : State) : State :=
  s.setJobs (.ofFn fun j => s.jobs[j].map fun x => { x with legs := x.legs.map Leg.wrapped })

/-- A second of the clock passes, and with the last of day 65535 the clock wraps (R194). -/
def clockTick (s : State) : State :=
  let t := (s.setClock s.clock.tick).setAux { s.aux with secondsDue := s.aux.secondsDue - 1 }
  if 65535 ≤ s.clock.day ∧ 86399 ≤ s.clock.second then wrapJobs t else t

/-- CLOCK_SECOND (R194): due when the crystal count has passed 32767. -/
def execClockSecond (dt : Nat) (s : State) : Out :=
  timed dt (fun t => if 0 < t.aux.secondsDue then compareRetries (clockTick t) else t) s

end Sys2Proof.Machine
end

