-- ==== Sys2Proof/Machine/Tones.lean ====
section
/-! DEFINITION. The timed events of the modulator, the mark generator and the dialer (chapters 2 and 6). -/

namespace Sys2Proof.Machine

/-- An accumulator advanced by an increment, modulo 65536 (R109). -/
def advance (acc : BitVec 16) (inc : Nat) : BitVec 16 := acc + BitVec.ofNat 16 inc

/-- One update of the line DAC (R109, R117). -/
def updateDac (s : State) : State :=
  match s.modu.mode with
  | .silent => s
  | .pair =>
    let row := advance s.markGen.rowAcc s.markGen.rowInc
    let col := advance s.markGen.colAcc s.markGen.colInc
    (s.setMarkGen { s.markGen with rowAcc := row, colAcc := col }).setModu
      { s.modu with dac := (sineOf row + sineOf col) / 2 }
  | _ =>
    let acc := advance s.modu.acc s.modu.increment
    s.setModu { s.modu with acc := acc, dac := sineOf acc }

/-- PHASE_UPDATE (R109): due 19200 times a second (assumption log 32). -/
def execPhaseUpdate (dt : Nat) (s : State) : Out :=
  timed dt (fun t =>
    if 0 < t.aux.tonesDue then
      updateDac (t.setAux { t.aux with tonesDue := t.aux.tonesDue - 1 })
    else t) s

/-- A mark symbol's tone ends: silence for TONE_OFF, read now (R118). -/
def markSilence (s : State) : State :=
  let t := modSilent s
  t.setMarkGen { t.markGen with step := .silence, left := msec t.settings.toneOff }

/-- A mark symbol's silence ends: the next symbol, or mark complete and BLACK_HOLD (R118). -/
def markNext (s : State) : State :=
  let t := s.setMarkGen { s.markGen with completed := s.markGen.completed + 1 }
  if t.markGen.completed < t.markGen.symbols.length then markTone t else blackHold (stopMark t)

/-- MARK_STEP_END (R118): due when the step's time has run out. -/
def execMarkStepEnd (dt : Nat) (s : State) : Out :=
  timed dt (fun t =>
    if t.markGen.left ≠ 0 then t
    else
      match t.markGen.step with
      | .idle => t
      | .tone => markSilence t
      | .silence => markNext t) s

/-- Whether the dialer is in a step whose time has run out. -/
def dialDue (st : DialerState) (s : State) : Bool :=
  s.dialer.state == st && decide (s.dialer.left = 0)

/-- TONE_ON_END (R38): silence for TONE_OFF, read now. -/
def execToneOnEnd (dt : Nat) (s : State) : Out :=
  timed dt (fun t =>
    if dialDue .toneOn t then dialStep .toneOff (msec t.settings.toneOff) (modSilent t) else t) s

/-- TONE_OFF_END (R38): the digit is complete. -/
def execToneOffEnd (dt : Nat) (s : State) : Out :=
  timed dt (fun t => if dialDue .toneOff t then symbolDone t else t) s

/-- The pulse rate of the dial buffer. -/
def dialRate (s : State) : PulseRate := (s.dialBuf.map fun b => b.dial.rate).getD .pps10

/-- BREAK_END (R39): MAKE for the rest of the period, and the break count falls by 1. -/
def execBreakEnd (dt : Nat) (s : State) : Out :=
  timed dt (fun t =>
    if dialDue .breaking t then
      dialStep .making (msec (makeMs (dialRate t) t.settings.makeBreak))
        (t.setDialer { t.dialer with breaks := t.dialer.breaks - 1 })
    else t) s

/-- MAKE_END (R39): the next break, or the inter-digit pause. -/
def execMakeEnd (dt : Nat) (s : State) : Out :=
  timed dt (fun t =>
    if dialDue .making t then
      if 0 < t.dialer.breaks then dialBreak (dialRate t) t
      else dialStep .interdigit (msec t.settings.interdigit) t
    else t) s

/-- INTERDIGIT_END (R39): the pulse digit is complete. -/
def execInterdigitEnd (dt : Nat) (s : State) : Out :=
  timed dt (fun t => if dialDue .interdigit t then symbolDone t else t) s

/-- PAUSE_END (R40): the P is complete. -/
def execPauseEnd (dt : Nat) (s : State) : Out :=
  timed dt (fun t => if dialDue .pause t then symbolDone t else t) s

/-- FLASH_END (R40): the loop is made again and the F is complete. -/
def execFlashEnd (dt : Nat) (s : State) : Out :=
  timed dt (fun t => if dialDue .flash t then symbolDone t else t) s

end Sys2Proof.Machine
end

