-- ==== Sys2Proof/Machine/Dispatch.lean ====
section
/-! DEFINITION. One arm per command: the meaning that runs it. -/

namespace Sys2Proof.Machine

/-- The effect of a command on everything but the queue of waiting commands. -/
def exec (i : Instr) (s : State) : Host.Outcome State Fault Refusal :=
  match i with
  | .selectStart dt lk b => Sys2Proof.Machine.execSelectStart dt lk b s
  | .selectRelease dt lk part => Sys2Proof.Machine.execSelectRelease dt lk part s
  | .replyRead dt lk => Sys2Proof.Machine.execReplyRead dt lk s
  | .unknownRequest lk b => Sys2Proof.Machine.execUnknownRequest lk b s
  | .openJob lk b => Sys2Proof.Machine.execOpenJob lk b s
  | .addLeg lk b => Sys2Proof.Machine.execAddLeg lk b s
  | .commitJob lk b => Sys2Proof.Machine.execCommitJob lk b s
  | .cancelJob lk b => Sys2Proof.Machine.execCancelJob lk b s
  | .clearJob lk b => Sys2Proof.Machine.execClearJob lk b s
  | .setPriority lk b => Sys2Proof.Machine.execSetPriority lk b s
  | .mount lk b => Sys2Proof.Machine.execMount lk b s
  | .unmount lk b => Sys2Proof.Machine.execUnmount lk b s
  | .skipLeg lk b => Sys2Proof.Machine.execSkipLeg lk b s
  | .readJob lk b => Sys2Proof.Machine.execReadJob lk b s
  | .readLeg lk b => Sys2Proof.Machine.execReadLeg lk b s
  | .readQueue lk b => Sys2Proof.Machine.execReadQueue lk b s
  | .writeRoute lk b => Sys2Proof.Machine.execWriteRoute lk b s
  | .eraseRoute lk b => Sys2Proof.Machine.execEraseRoute lk b s
  | .readRoute lk b => Sys2Proof.Machine.execReadRoute lk b s
  | .talk lk b => Sys2Proof.Machine.execTalk lk b s
  | .endTalk lk b => Sys2Proof.Machine.execEndTalk lk b s
  | .readLine lk b => Sys2Proof.Machine.execReadLine lk b s
  | .drumRun lk b => Sys2Proof.Machine.execDrumRun lk b s
  | .drumStop lk b => Sys2Proof.Machine.execDrumStop lk b s
  | .readDrum lk b => Sys2Proof.Machine.execReadDrum lk b s
  | .holdQueue lk b => Sys2Proof.Machine.execHoldQueue lk b s
  | .releaseQueue lk b => Sys2Proof.Machine.execReleaseQueue lk b s
  | .setModes lk b => Sys2Proof.Machine.execSetModes lk b s
  | .collectSlip lk b => Sys2Proof.Machine.execCollectSlip lk b s
  | .reprintSlip lk b => Sys2Proof.Machine.execReprintSlip lk b s
  | .setCollection lk b => Sys2Proof.Machine.execSetCollection lk b s
  | .readSlipState lk b => Sys2Proof.Machine.execReadSlipState lk b s
  | .writeSetting lk b => Sys2Proof.Machine.execWriteSetting lk b s
  | .readSetting lk b => Sys2Proof.Machine.execReadSetting lk b s
  | .writeCurve lk b => Sys2Proof.Machine.execWriteCurve lk b s
  | .readCurve lk b => Sys2Proof.Machine.execReadCurve lk b s
  | .setClock lk b => Sys2Proof.Machine.execSetClock lk b s
  | .readClock lk b => Sys2Proof.Machine.execReadClock lk b s
  | .readAttn lk b => Sys2Proof.Machine.execReadAttn lk b s
  | .setAttn lk b => Sys2Proof.Machine.execSetAttn lk b s
  | .identify lk b => Sys2Proof.Machine.execIdentify lk b s
  | .machineReset lk b => Sys2Proof.Machine.execMachineReset lk b s
  | .powerOnReset coverOpen home loop paperOut busy => Sys2Proof.Machine.execPowerOnReset coverOpen home loop paperOut busy s
  | .index dt sample drumFirst => Sys2Proof.Machine.execIndex dt sample drumFirst s
  | .encoderPulse dt sample => Sys2Proof.Machine.execEncoderPulse dt sample s
  | .positionStart dt sample => Sys2Proof.Machine.execPositionStart dt sample s
  | .spanEnd dt => Sys2Proof.Machine.execSpanEnd dt s
  | .indexTimeout dt => Sys2Proof.Machine.execIndexTimeout dt s
  | .spinupLimitExpiry dt => Sys2Proof.Machine.execSpinupLimitExpiry dt s
  | .brakingStillness dt => Sys2Proof.Machine.execBrakingStillness dt s
  | .idleStop dt => Sys2Proof.Machine.execIdleStop dt s
  | .coverOpen dt => Sys2Proof.Machine.execCoverOpen dt s
  | .coverClose dt => Sys2Proof.Machine.execCoverClose dt s
  | .headStep dt home => Sys2Proof.Machine.execHeadStep dt home s
  | .homingFailure dt => Sys2Proof.Machine.execHomingFailure dt s
  | .scanStepEnd dt home => Sys2Proof.Machine.execScanStepEnd dt home s
  | .phaseUpdate dt => Sys2Proof.Machine.execPhaseUpdate dt s
  | .markStepEnd dt => Sys2Proof.Machine.execMarkStepEnd dt s
  | .toneOnEnd dt => Sys2Proof.Machine.execToneOnEnd dt s
  | .toneOffEnd dt => Sys2Proof.Machine.execToneOffEnd dt s
  | .breakEnd dt => Sys2Proof.Machine.execBreakEnd dt s
  | .makeEnd dt => Sys2Proof.Machine.execMakeEnd dt s
  | .interdigitEnd dt => Sys2Proof.Machine.execInterdigitEnd dt s
  | .pauseEnd dt => Sys2Proof.Machine.execPauseEnd dt s
  | .flashEnd dt => Sys2Proof.Machine.execFlashEnd dt s
  | .seizeWindowEnd dt loop => Sys2Proof.Machine.execSeizeWindowEnd dt loop s
  | .readyEvent dt freq held => Sys2Proof.Machine.execReadyEvent dt freq held s
  | .answerTimeoutExpiry dt => Sys2Proof.Machine.execAnswerTimeoutExpiry dt s
  | .prepareLimitExpiry dt => Sys2Proof.Machine.execPrepareLimitExpiry dt s
  | .bridgeLimitExpiry dt => Sys2Proof.Machine.execBridgeLimitExpiry dt s
  | .stopTimeExpiry dt => Sys2Proof.Machine.execStopTimeExpiry dt s
  | .symbolDetected dt rowHz colHz held gap => Sys2Proof.Machine.execSymbolDetected dt rowHz colHz held gap s
  | .answerbackWindowExpiry dt => Sys2Proof.Machine.execAnswerbackWindowExpiry dt s
  | .answerbackDeadline dt => Sys2Proof.Machine.execAnswerbackDeadline dt s
  | .loopLost dt => Sys2Proof.Machine.execLoopLost dt s
  | .guardTimeExpiry dt => Sys2Proof.Machine.execGuardTimeExpiry dt s
  | .clockSecond dt => Sys2Proof.Machine.execClockSecond dt s
  | .printCharacter dt paperOut busy => Sys2Proof.Machine.execPrintCharacter dt paperOut busy s
  | .paperOutClears dt => Sys2Proof.Machine.execPaperOutClears dt s
  | .busyTimeout dt => Sys2Proof.Machine.execBusyTimeout dt s
  | .busyLowInFault dt => Sys2Proof.Machine.execBusyLowInFault dt s
  | .lampFrame dt paperOut => Sys2Proof.Machine.execLampFrame dt paperOut s
  | .byteClock dt lk b => Sys2Proof.Machine.execByteClock dt lk b s
  | .loopSenseChange dt present => Sys2Proof.Machine.execLoopSenseChange dt present s

end Sys2Proof.Machine
end

