-- ==== Sys2Proof/Safety.lean ====
section
/-! DEFINITION. What a safe state is: the standing relations between fields that the spec's records
state, each as a predicate of the state. Every step keeps them, and State.reset has them. -/

namespace Sys2Proof

open Machine

/-- One link's ATTN line is as R181 says: asserted exactly when the global mask is clear and a latched
cause is unmasked. -/
def attnRight (a : Attn) : Prop := a.line = a.asserted

/-- Both links' ATTN lines are right (R181). -/
def AttnApplied (s : State) : Prop := attnRight s.deskAttn ∧ attnRight s.panelAttn

/-- The hook, the talk relay and the detector are as the line state's row of R122 gives them. -/
def lineRight (l : LineRec) : Prop :=
  l.hook = l.state.hookClosed ∧ l.relay = (l.state == .talk) ∧ l.detector = l.state.detector

/-- The line's outputs are right (R122). -/
def LineOutputs (s : State) : Prop := lineRight s.line

/-- The duty, the brake, the demand and the two times as the drum state's row of R43 gives them. -/
def drumRow (d : Drum) : Prop :=
  match d.state with
  | .stopped => d.duty = 0 ∧ d.brake = false ∧ d.demand = none
  | .spinup => d.duty = 1023 ∧ d.brake = false ∧ d.demand ≠ none
  | .locking => d.brake = false ∧ d.demand ≠ none
  | .locked => d.brake = false ∧ d.demand ≠ none
  | .slip => d.brake = false ∧ d.demand ≠ none
  | .braking => d.duty = 0 ∧ d.brake = true ∧ d.demand = none
  | .fault => d.duty = 0 ∧ d.brake = true ∧ d.demand = none

/-- The drum record's standing relations (R43): its row, a target exactly with a demand, the duty
within its range, and each of the two times present exactly in its state. -/
def drumRight (d : Drum) : Prop :=
  drumRow d ∧ (d.target = none ↔ d.demand = none) ∧ d.duty ≤ 1023 ∧
  (d.spinupTime ≠ none ↔ d.state = .spinup) ∧ (d.brakingTime ≠ none ↔ d.state = .braking)

/-- The drum record is right (R43). -/
def DrumRecord (s : State) : Prop := drumRight s.drum

/-- The start duties lie in their range (R188). -/
def dutiesRight (g : Settings) : Prop :=
  g.startDuty60 ≤ 1023 ∧ g.startDuty90 ≤ 1023 ∧ g.startDuty120 ≤ 1023

/-- The start duties of the store lie in their range (R188). -/
def StartDuties (s : State) : Prop := dutiesRight s.settings

/-- Both spacing conditions hold (R190). -/
def spacingRight (g : Settings) : Prop :=
  g.blackHz + 300 ≤ g.whiteHz ∧ (g.bridgeHz + 100 ≤ g.stopHz ∨ g.stopHz + 100 ≤ g.bridgeHz)

/-- A number lies in its range. -/
def within (lo hi n : Nat) : Prop := lo ≤ n ∧ n ≤ hi

/-- Every setting holds a value of its range and on its step (R188). -/
def rangesRight (g : Settings) : Prop :=
  within 1 8 g.stationCode.length ∧ within 1000 2000 g.blackHz ∧ within 1800 2800 g.whiteHz ∧
  within 800 1400 g.bridgeHz ∧ within 800 1400 g.stopHz ∧ within 900 2100 g.readyHz ∧
  within 1 10 g.stopTime ∧ within 10 60 g.phasingRevs ∧ within 5 30 g.resumeRevs ∧
  within 15 120 g.answerTimeout ∧ within 10 60 g.prepareLimit ∧ within 5 60 g.bridgeLimit ∧
  within 5 30 g.answerbackWindow ∧ within 30 900 g.redialInterval ∧
  (g.drumIdle = 0 ∨ within 10 600 g.drumIdle) ∧ within 1 255 g.drumGain ∧ within 0 3 g.lockClass ∧
  within 0 1023 g.startDuty60 ∧ within 0 1023 g.startDuty90 ∧ within 0 1023 g.startDuty120 ∧
  within 256 2048 g.lampMin ∧ within 50 200 g.toneOn ∧ within 50 200 g.toneOff ∧
  (within 100 1500 g.interdigit ∧ 100 ∣ g.interdigit) ∧ within 1 15 g.pauseTime ∧
  (within 100 1500 g.flashTime ∧ 100 ∣ g.flashTime) ∧ within 1 10 g.guardTime

/-- The settings store holds values of their ranges, apart as R190 asks (R188, R190). -/
def SettingsRight (s : State) : Prop := rangesRight s.settings ∧ spacingRight s.settings

/-- The tone curve's points are 0 to 255 and do not decrease (R193). -/
def CurveRises (s : State) : Prop :=
  s.curve.toList.Pairwise (· ≤ ·) ∧ ∀ p ∈ s.curve.toList, p ≤ 255

/-- The station clock's fields lie in their ranges (R194). -/
def ClockRange (s : State) : Prop :=
  s.clock.day ≤ 65535 ∧ s.clock.second ≤ 86399 ∧ s.clock.cycles ≤ 32767

/-- An entry of the mount queue may stand ahead of another: it has the higher priority, or the same
priority and a commit number no greater (R7). -/
def mayStandAhead (s : State) (a b : Nat) : Prop :=
  ∃ x y, s.job? a = some x ∧ s.job? b = some y ∧
    (y.priority < x.priority ∨
      (x.priority = y.priority ∧ x.commitNumber.getD 0 ≤ y.commitNumber.getD 0))

/-- The mount queue holds every QUEUED job exactly once and no job in any other state, ordered by priority
descending and then by commit number ascending (R7). -/
def MountQueueRight (s : State) : Prop :=
  s.mountQueue.entries.Nodup ∧
  (∀ j, j ∈ s.mountQueue.entries ↔ ∃ x, s.job? j = some x ∧ x.state = .queued) ∧
  s.mountQueue.entries.Pairwise (mayStandAhead s)

/-- A leg is ACTIVE. -/
def legIsActive (s : State) (j l : Nat) : Prop := ∃ g, s.leg? j l = some g ∧ g.state = .active

/-- At most one job is MOUNTED, at most one leg is ACTIVE, and an ACTIVE leg belongs to the MOUNTED job
(R12). -/
def OneMountedOneActive (s : State) : Prop :=
  (∀ i j x y, s.job? i = some x → s.job? j = some y → x.state = .mounted → y.state = .mounted →
    i = j) ∧
  (∀ j l, legIsActive s j l → ∃ x, s.job? j = some x ∧ x.state = .mounted) ∧
  ∀ i l j m, legIsActive s i l → legIsActive s j m → i = j ∧ l = m

/-- The slip queue holds at most 8 records, and holds 8 while a slip is owed; the owed list holds no leg
twice, and each of its legs is terminal with its slip owed flag set; the next number is 1 to 9999 (R152,
R154 to R156). -/
def SlipQueueRight (s : State) : Prop :=
  s.slips.queue.length ≤ 8 ∧ (s.slips.owed ≠ [] → s.slips.queue.length = 8) ∧
  s.slips.owed.Nodup ∧
  (∀ j l, (j, l) ∈ s.slips.owed →
    ∃ g, s.leg? j l = some g ∧ g.slipOwed = true ∧ g.state.terminal = true) ∧
  within 1 9999 s.slips.nextNumber

/-- One link's record: a request buffer is filled in a REQUEST select alone and holds fewer argument bytes
than its length byte names; a reply is held exactly while the reply state is READY or SENDING, READY with
no byte of it sent and SENDING with some but not all (R171). Between two commands no request is in work
(R174: each is answered whole). -/
def linkRight (l : LinkRec) : Prop :=
  (∀ r, l.request = some r → l.select = .request ∧
    match r.len with
    | none => r.args = []
    | some n => r.args.length < n.toNat ∧ n.toNat ≤ 64) ∧
  match l.reply with
  | none => l.replyState = .empty
  | some p =>
    (l.replyState = .ready ∧ p.sent = 0) ∨
      (l.replyState = .sending ∧ 0 < p.sent ∧ p.sent < p.reply.frame.length)

/-- Both links' records are right (R171). -/
def LinkRecords (s : State) : Prop := linkRight s.deskLink ∧ linkRight s.panelLink

/-- The position timer's record: in IDLE its job fields, its interval and its counter are absent; in
RUNNING it holds S with G = S / 8 and N = S + G, a speed and a source, an interval exactly when it counts,
and a counter below N (R67 to R69, R71). -/
def timerRight (t : PosTimer) : Prop :=
  if t.running then
    t.speed ≠ none ∧ t.source ≠ none ∧ (t.interval = none ↔ t.counter = none) ∧
    ∃ n, t.samples = some n ∧ t.gap = some (n / 8) ∧ t.positions = some (n + n / 8) ∧
      ∀ k, t.counter = some k → k = 0 ∨ k < n + n / 8
  else
    t.samples = none ∧ t.gap = none ∧ t.positions = none ∧ t.speed = none ∧ t.source = none ∧
      t.interval = none ∧ t.counter = none

/-- The position timer's record is right (R68). -/
def TimerRecord (s : State) : Prop := timerRight s.posTimer

end Sys2Proof
end

