-- ==== Sys2Proof/Claims.lean ====
section
/-! DEFINITION. The vocabulary of the statements: a request frame that arrives, one the link lets pass,
the requests among the commands, and the shapes an effect takes. -/

namespace Sys2Proof

open Machine

/-- A byte `b` on the link `lk` is the last of a frame of the request `c` with the argument bytes `args`:
the select is a REQUEST select whose buffer holds the rest of the frame (R173). -/
structure Arrives (c : Code) (lk : Link) (b : Byte) (args : List Byte) (s : State) : Prop where
  select : (s.link lk).select = .request
  frame : ∃ r, (s.link lk).request = some r ∧ r.cmd = c.byte ∧
    ((r.len = none ∧ b = 0 ∧ args = []) ∨
      ∃ n : Byte, r.len = some n ∧ n.toNat ≤ 64 ∧ n.toNat = args.length ∧ args = r.args ++ [b])

/-- The link's checks let a request of the code table pass: its length, the rights of the link, local
mode (R174 steps 3 to 5, R177). -/
def Admitted (c : Code) (lk : Link) (n : Nat) (s : State) : Prop :=
  c.lo ≤ n ∧ n ≤ c.hi ∧ c.permits lk = true ∧
    ¬ (lk = .desk ∧ s.modes.localMode = true ∧ c.shut = true)

/-- A request arrives whole and passes the link's checks. -/
structure Taken (c : Code) (lk : Link) (b : Byte) (args : List Byte) (s : State) : Prop where
  arrives : Arrives c lk b args s
  admitted : Admitted c lk args.length s

/-- The requests of the code table among the commands, with their link and last byte (R176). -/
def Instr.request? : Instr → Option (Code × Link × Byte)
  | .openJob lk b => some (codeOpenJob, lk, b)
  | .addLeg lk b => some (codeAddLeg, lk, b)
  | .commitJob lk b => some (codeCommitJob, lk, b)
  | .cancelJob lk b => some (codeCancelJob, lk, b)
  | .clearJob lk b => some (codeClearJob, lk, b)
  | .setPriority lk b => some (codeSetPriority, lk, b)
  | .mount lk b => some (codeMount, lk, b)
  | .unmount lk b => some (codeUnmount, lk, b)
  | .skipLeg lk b => some (codeSkipLeg, lk, b)
  | .readJob lk b => some (codeReadJob, lk, b)
  | .readLeg lk b => some (codeReadLeg, lk, b)
  | .readQueue lk b => some (codeReadQueue, lk, b)
  | .writeRoute lk b => some (codeWriteRoute, lk, b)
  | .eraseRoute lk b => some (codeEraseRoute, lk, b)
  | .readRoute lk b => some (codeReadRoute, lk, b)
  | .talk lk b => some (codeTalk, lk, b)
  | .endTalk lk b => some (codeEndTalk, lk, b)
  | .readLine lk b => some (codeReadLine, lk, b)
  | .drumRun lk b => some (codeDrumRun, lk, b)
  | .drumStop lk b => some (codeDrumStop, lk, b)
  | .readDrum lk b => some (codeReadDrum, lk, b)
  | .holdQueue lk b => some (codeHoldQueue, lk, b)
  | .releaseQueue lk b => some (codeReleaseQueue, lk, b)
  | .setModes lk b => some (codeSetModes, lk, b)
  | .collectSlip lk b => some (codeCollectSlip, lk, b)
  | .reprintSlip lk b => some (codeReprintSlip, lk, b)
  | .setCollection lk b => some (codeSetCollection, lk, b)
  | .readSlipState lk b => some (codeReadSlipState, lk, b)
  | .writeSetting lk b => some (codeWriteSetting, lk, b)
  | .readSetting lk b => some (codeReadSetting, lk, b)
  | .writeCurve lk b => some (codeWriteCurve, lk, b)
  | .readCurve lk b => some (codeReadCurve, lk, b)
  | .setClock lk b => some (codeSetClock, lk, b)
  | .readClock lk b => some (codeReadClock, lk, b)
  | .readAttn lk b => some (codeReadAttn, lk, b)
  | .setAttn lk b => some (codeSetAttn, lk, b)
  | .identify lk b => some (codeIdentify, lk, b)
  | .machineReset lk b => some (codeMachineReset, lk, b)
  | .selectStart _ _ _ => none
  | .selectRelease _ _ _ => none
  | .replyRead _ _ => none
  | .unknownRequest _ _ => none
  | .powerOnReset _ _ _ _ _ => none
  | .index _ _ _ => none
  | .encoderPulse _ _ => none
  | .positionStart _ _ => none
  | .spanEnd _ => none
  | .indexTimeout _ => none
  | .spinupLimitExpiry _ => none
  | .brakingStillness _ => none
  | .idleStop _ => none
  | .coverOpen _ => none
  | .coverClose _ => none
  | .headStep _ _ => none
  | .homingFailure _ => none
  | .scanStepEnd _ _ => none
  | .phaseUpdate _ => none
  | .markStepEnd _ => none
  | .toneOnEnd _ => none
  | .toneOffEnd _ => none
  | .breakEnd _ => none
  | .makeEnd _ => none
  | .interdigitEnd _ => none
  | .pauseEnd _ => none
  | .flashEnd _ => none
  | .seizeWindowEnd _ _ => none
  | .readyEvent _ _ _ => none
  | .answerTimeoutExpiry _ => none
  | .prepareLimitExpiry _ => none
  | .bridgeLimitExpiry _ => none
  | .stopTimeExpiry _ => none
  | .symbolDetected _ _ _ _ _ => none
  | .answerbackWindowExpiry _ => none
  | .answerbackDeadline _ => none
  | .loopLost _ => none
  | .guardTimeExpiry _ => none
  | .clockSecond _ => none
  | .printCharacter _ _ _ => none
  | .paperOutClears _ => none
  | .busyTimeout _ => none
  | .busyLowInFault _ => none
  | .lampFrame _ _ => none
  | .byteClock _ _ _ => none
  | .loopSenseChange _ _ => none

/-- The link a command belongs to: that of a request, of a select or of a byte. -/
def Instr.link? (c : Instr) : Option Link :=
  match c with
  | .selectStart _ lk _ => some lk
  | .selectRelease _ lk _ => some lk
  | .replyRead _ lk => some lk
  | .unknownRequest lk _ => some lk
  | .byteClock _ lk _ => some lk
  | c => c.request?.map fun x => x.2.1

/-! ### The shapes of an effect -/

/-- The bytes of an explicit route after its kind: mode, rate, and the symbols as characters (R176). -/
def dialBytes (d : DialSpec) : List Byte :=
  (if d.mode = .tone then 0 else 1) :: (if d.rate = .pps10 then 10 else 20) :: d.string.map dialChar

/-- What R28 asks of every route: 1 to 24 symbols, and no * or # in pulse dialling. -/
def dialRight (d : DialSpec) : Prop :=
  1 ≤ d.string.length ∧ d.string.length ≤ 24 ∧
    (d.mode = .pulse → DialSym.star ∉ d.string ∧ DialSym.hash ∉ d.string)

/-- An entry of the mount queue stays ahead of a job of this priority and commit number: it has a higher
priority, or the same and a lower or equal commit number (R7). -/
def aheadOf (s : State) (priority commit e : Nat) : Bool :=
  (s.job? e).any fun y =>
    decide (priority < y.priority ∨ (y.priority = priority ∧ y.commitNumber.getD 0 ≤ commit))

/-- The entries with a job placed behind those that stay ahead of it (R7). -/
def placedIn (s : State) (j priority commit : Nat) (es : List Nat) : List Nat :=
  es.takeWhile (aheadOf s priority commit) ++ j :: es.dropWhile (aheadOf s priority commit)

/-- The state with the queue's entries replaced, and a QUEUE cause event if its head is another or one of
the two has none (R7, R25). -/
def queueBecomes (es : List Nat) (s : State) : State :=
  let t := { s with mountQueue := { s.mountQueue with entries := es } }
  if es.head? = s.mountQueue.entries.head? then t else t.causeQueue

/-- Only a job's record, the mount queue, the slip unit, the attention and the printer's own times differ
(the frame of a change of a job or its legs). -/
def onlyJob (j : Nat) (s t : State) : Prop :=
  t = { s with
    jobs := t.jobs, mountQueue := t.mountQueue, slips := t.slips, deskAttn := t.deskAttn
    panelAttn := t.panelAttn
    aux := { s.aux with charTime := t.aux.charTime, paperChecked := t.aux.paperChecked } } ∧
  ∀ i, i ≠ j → t.job? i = s.job? i

/-- The slip unit has been handed these legs in this order: each got a record at the back of the queue or,
the queue being full, a place at the back of the owed list; the last-printed copy and the collection stay
(R154, R155). -/
def slipsHanded (legs : List (Nat × Nat)) (s t : State) : Prop :=
  ∃ (new : List SlipRec) (owed : List (Nat × Nat)),
    t.slips.queue = s.slips.queue ++ new ∧ t.slips.owed = s.slips.owed ++ owed ∧
    (new.map fun (r : SlipRec) => (r.job, r.leg)) ++ owed = legs ∧
    t.slips.copy = s.slips.copy ∧ t.slips.collection = s.slips.collection

/-- The state after the cause events of a job's change, each latched as R180 routes it for the job's owner:
JOB for a change of its state or the end of a leg, SLIP for a record made, QUEUE for another head of the
queue (R25, R155). A latch that is set stays set, so how often each is sent does not matter. -/
def jobCauses (owner : Link) (job slip queue : Bool) (s : State) : State :=
  let t := if job then s.causeJob owner else s
  let t := if slip then t.causeSlip owner else t
  if queue then t.causeQueue else t

/-- Both links' attention stands as it does after these cause events (R180). -/
def attnAs (u t : State) : Prop := t.deskAttn = u.deskAttn ∧ t.panelAttn = u.panelAttn

/-- The legs of a job that a cancel ends and that were attempted: those the slip unit is handed (R19). -/
def cancelledSlips (j : Nat) (x : Job) : List (Nat × Nat) :=
  ((List.range x.legs.length).filter fun l => (x.legs[l]?).any fun (g : Leg) =>
    decide ((g.state = .pending ∨ g.state = .retryWait) ∧ 1 ≤ g.attempts)).map fun l => (j, l)

/-- A leg as it stands once it has ended at this time: its state and end time set, its not-before time
removed; the slip owed flag is the slip unit's (R16, R156). -/
def legEndedAs (g : Leg) (st : LegState) (now : Stamp) (owed : Bool) : Leg :=
  { g with state := st, endTime := some now, notBefore := none, slipOwed := owed }

/-- A job state is terminal (R1). -/
def endedJob (st : JobState) : Prop :=
  st = .done ∨ st = .partly ∨ st = .failed ∨ st = .cancelled

/-- What a job whose legs have all ended becomes (R18). -/
def jobEndsAs (x : Job) (st : JobState) : Prop :=
  let delivered (g : Leg) := g.state = .confirmed ∨ g.state = .unconfirmed ∨ g.state = .wrongStation
  if x.cancelPending then st = .cancelled
  else if ∀ g ∈ x.legs, delivered g then st = .done
  else if ∀ g ∈ x.legs, ¬ delivered g then st = .failed
  else st = .partly

/-- The line enters a state: the hook, the talk relay and the detector as R122 gives, no state timer; a
LINE cause event when the state is another (R121, R122, R150). -/
def lineBecomes (st : LineState) (s : State) : State :=
  let t := { s with
    line := { s.line with
      state := st, hook := st.hookClosed, relay := st == .talk, detector := st.detector, timer := none }
    aux := { s.aux with detTime := 0, sinceSymbol := none } }
  if s.line.state = st then t else t.causeLine

end Sys2Proof
end

