-- ==== Sys2Proof/Certificates/Slice0/Obligations.lean ====
section
/-! DEFINITION. The statements for the provers, one definition each. Where a statement speaks of a timed
command, `elapse dt s` is the state once the command's time has passed; where it speaks of a request,
`takeRequest lk s` is the state that holds the request taken and `placeReply lk r` puts the reply `r` in
the link's reply buffer. -/

open Sys2Proof Sys2Proof.Machine

/-! ### The step, and what commands leave alone -/

/-- One step runs the command at the front of the queue on the state that holds the rest of the queue
(the model's queue: assumption log 26). -/
def Obligations.StepRunsTheFrontCommand : Prop :=
  ∀ (c : Instr) (rest : List Instr) (s : State), s.pending = c :: rest →
    step s = exec c { s with pending := rest }

/-- With no command waiting a step lets one µs pass (the model's choice: assumption log 1). Passing time
touches the timers alone: the index time saturates at 4,194,303 µs (R43), the spin-up
and braking times rise, the state timer, the dialer's step and the mark's step run down, the loop
monitor's absent time is 0 with loop current and rises without (R127), and the crystal count advances by
the crystal's cycles modulo 32768, each time round a second that falls due (R194). The model's own timers
rise with it, each as written; that these fields hold what the part's timers must hold is the model's choice
(assumption log 38), as are the sixteenths left over for the next whole µs (28), the updates of 19200 Hz
counted in every mode (32), and seconds and updates that wait for their command (3). -/
def Obligations.PassingTimeRunsTheTimersAlone : Prop :=
  (∀ s : State, s.pending = [] → step s = .next (elapse 16 s)) ∧
  ∀ (dt : Nat) (s : State),
    let t := elapse dt s
    let us := (s.aux.sub16 + dt) / 16
    t = { s with drum := t.drum, line := t.line, dialer := t.dialer, markGen := t.markGen,
                 clock := t.clock, aux := t.aux } ∧
    t.drum = { s.drum with
      indexTime := min 4194303 (s.drum.indexTime + us)
      spinupTime := s.drum.spinupTime.map (· + us)
      brakingTime := s.drum.brakingTime.map (· + us)
      idleTime := s.drum.idleTime.map (· + (s.aux.idleSub + us) / 1000000) } ∧
    t.line = { s.line with
      timer := s.line.timer.map fun x => { x with left := x.left - us }
      monitor := s.line.monitor.map fun a => if s.pins.loop then 0 else a + us } ∧
    t.dialer = { s.dialer with left := s.dialer.left - us } ∧
    t.markGen = { s.markGen with left := s.markGen.left - us } ∧
    (let count := s.clock.cycles + (s.aux.crystalFrac + dt * 32768) / 16000000
     t.clock = { s.clock with cycles := count % 32768 } ∧
     t.aux = { s.aux with
      sub16 := (s.aux.sub16 + dt) % 16
      idleSub := if s.drum.idleTime = none then 0 else (s.aux.idleSub + us) % 1000000
      indexOver := s.aux.indexOver || decide (4194303 < s.drum.indexTime + us)
      sinceIndex := s.aux.sinceIndex + dt
      headTime := s.aux.headTime + us
      toneFrac := (s.aux.toneFrac + dt * 19200) % 16000000
      tonesDue := s.aux.tonesDue + (s.aux.toneFrac + dt * 19200) / 16000000
      lampTime := s.aux.lampTime + us
      crystalFrac := (s.aux.crystalFrac + dt * 32768) % 16000000
      secondsDue := s.aux.secondsDue + count / 32768
      charTime := s.aux.charTime + us
      detTime := s.aux.detTime + us
      sinceSymbol := s.aux.sinceSymbol.map (· + us) })

/-- Every command runs to a next state in every state: no command faults and none is refused
(assumption log 27). -/
def Obligations.EveryCommandAnswersANextState : Prop :=
  ∀ (c : Instr) (s : State), ∃ t, exec c s = .next t

/-- No command touches the commands that wait behind it (the model's queue: assumption log 26). -/
def Obligations.CommandsKeepTheWaitingCommands : Prop :=
  ∀ (c : Instr) (s t : State), exec c s = .next t → t.pending = s.pending

/-- The route directory changes by WRITE_ROUTE, ERASE_ROUTE and power-on reset alone, the settings by
WRITE_SETTING and power-on reset alone, and the tone curve by WRITE_CURVE and power-on reset alone (R27,
R188, R193): machine reset keeps all three, and so does every other command. -/
def Obligations.DirectoryAndStoreKeptUntilWritten : Prop :=
  ∀ (c : Instr) (s t : State), exec c s = .next t → (∀ v w x y z, c ≠ .powerOnReset v w x y z) →
    ((∀ lk b, c ≠ .writeRoute lk b) → (∀ lk b, c ≠ .eraseRoute lk b) → t.routes = s.routes) ∧
    ((∀ lk b, c ≠ .writeSetting lk b) → t.settings = s.settings) ∧
    ((∀ lk b, c ≠ .writeCurve lk b) → t.curve = s.curve)

/-- Neither link changes the other's record (R171): a command of one link leaves the other link's record
alone, and every other command but power-on reset leaves both alone. -/
def Obligations.LinksLeaveEachOtherAlone : Prop :=
  ∀ (c : Instr) (s t : State) (lk : Link), exec c s = .next t →
    (∀ v w x y z, c ≠ .powerOnReset v w x y z) → c.link? ≠ some lk → t.link lk = s.link lk

/-- The enables, the masks and the global mask of a link change by SET_ATTN on that link and by power-on
reset alone; a latched cause stays until READ_ATTN on its link, machine reset or power-on reset clears it; and
local and attended mode change by SET_MODES and power-on reset alone (R180, R183, R184, R187). -/
def Obligations.AttentionAndModesKeptUntilSetOrRead : Prop :=
  ∀ (c : Instr) (s t : State), exec c s = .next t → (∀ v w x y z, c ≠ .powerOnReset v w x y z) →
    (∀ lk : Link, (∀ b, c ≠ .setAttn lk b) →
      (t.attn lk).enables = (s.attn lk).enables ∧ (t.attn lk).masks = (s.attn lk).masks ∧
        (t.attn lk).globalMask = (s.attn lk).globalMask) ∧
    (∀ (lk : Link) (n : Nat), (∀ b, c ≠ .readAttn lk b) → (∀ m b, c ≠ .machineReset m b) →
      (s.attn lk).latches.getLsbD n = true → (t.attn lk).latches.getLsbD n = true) ∧
    ((∀ lk b, c ≠ .setModes lk b) →
      t.modes.localMode = s.modes.localMode ∧ t.modes.attended = s.modes.attended)

/-- A job keeps its owner, slug, drum speed, S, T, R and open time from OPEN_JOB until its entry is
emptied by CLEAR_JOB or a reset (R1); and a leg in a terminal state is not changed any more but for its slip
owed flag, until its job's entry is emptied (R16, R158). -/
def Obligations.FixedJobFieldsAndEndedLegsStay : Prop :=
  ∀ (c : Instr) (s t : State), exec c s = .next t → (∀ v w x y z, c ≠ .powerOnReset v w x y z) →
    (∀ lk b, c ≠ .clearJob lk b) → (∀ lk b, c ≠ .machineReset lk b) →
    (∀ (j : Nat) (x : Job), s.job? j = some x →
      ∃ y, t.job? j = some y ∧ y.owner = x.owner ∧ y.slug = x.slug ∧ y.speed = x.speed ∧
        y.samples = x.samples ∧ y.lineCount = x.lineCount ∧ y.retries = x.retries ∧
        y.openTime = x.openTime) ∧
    ∀ (j l : Nat) (g : Leg), s.leg? j l = some g → g.state.terminal = true →
      ∃ h, t.leg? j l = some h ∧ h = { g with slipOwed := h.slipOwed }

/-! ### What every step keeps -/

/-- Both ATTN lines stay as R181 gives them for the latches and masks, and the hook, the talk relay and the
detector as R122 gives them for the line state. -/
def Obligations.StepsKeepAttnAndTheLineOutputs : Prop :=
  ∀ s t : State, step s = .next t → (AttnApplied s → AttnApplied t) ∧ (LineOutputs s → LineOutputs t)

/-- The drum record's row of R43 (duty, brake, demand, target, the two times) is kept by every step, with
the start duties in their range; and the position timer's geometry follows its S, its fields absent in IDLE
(R67 to R69). -/
def Obligations.StepsKeepDrumAndTimerRecords : Prop :=
  ∀ s t : State, step s = .next t →
    (StartDuties s → DrumRecord s → DrumRecord t) ∧ (TimerRecord s → TimerRecord t)

/-- Every setting stays in its range and on its step, with the two spacings of R190; the tone curve's
points stay 0 to 255 and never decrease; and the station clock's fields stay in their ranges (R188, R190,
R193, R194). -/
def Obligations.StepsKeepTheStoreAndTheClockInRange : Prop :=
  ∀ s t : State, SettingsRight s ∧ CurveRises s ∧ ClockRange s → step s = .next t →
    SettingsRight t ∧ CurveRises t ∧ ClockRange t

/-- The mount queue goes on holding every QUEUED job exactly once, in order (R7). -/
def Obligations.StepsKeepMountQueueOrdered : Prop :=
  ∀ s t : State, MountQueueRight s → step s = .next t → MountQueueRight t

/-- At most one job stays MOUNTED and at most one leg ACTIVE, the ACTIVE leg the MOUNTED job's (R12). -/
def Obligations.StepsKeepOneMountedOneActive : Prop :=
  ∀ s t : State, OneMountedOneActive s → step s = .next t → OneMountedOneActive t

/-- The slip queue keeps within 8 records, is full while a slip is owed, and every owed leg keeps its flag
(R152, R154, R156). -/
def Obligations.StepsKeepSlipQueueAndOwedList : Prop :=
  ∀ s t : State, SlipQueueRight s → step s = .next t → SlipQueueRight t

/-- Each link goes on holding at most one request and one reply, in step with its states (R171). That a
filled buffer holds fewer argument bytes than its length byte names rests on the model's emptying the buffer
when a request is taken, which is read from the spec (assumption log 9, DEDUCED). -/
def Obligations.StepsKeepLinkRecords : Prop :=
  ∀ s t : State, LinkRecords s → step s = .next t → LinkRecords t

/-- The state after power-on reset, record by record (R26, R27, R43, R68, R76, R83, R104, R108, R121, R152,
R171, R187, R188, R193, R194), and that it has every one of these invariants (R7, R12, R67, R122, R181). The
spec gives no value at reset, and the model chose it, for the dialer's breaks and step time, the mark
generator's accumulators, increments and step time, the links' data-out byte, and the output pins but PR_DATA
(assumption log 8, 44); the cover and the input pins are at the levels of assumption log 7; the fields of aux,
the counts of pulses and the empty queue of commands are the model's own (8, 38). -/
def Obligations.ResetHasEveryInvariant : Prop :=
  State.reset =
    { pending := [], jobs := Vector.replicate 16 none, commitCounter := 0
      mountQueue := { entries := [], hold := none }
      routes := Vector.replicate 24 none
      drum :=
        { state := .stopped, target := none, demand := none, duty := 0, brake := false, period := none
          lastError := none, lockCount := 0, slipRevs := 0, goodCount := 0, faultCause := none
          idleTime := none, spinupTime := none, brakingTime := none, indexTime := 0, indexHeld := false
          coverOpen := false }
      posTimer :=
        { running := false, samples := none, gap := none, positions := none, speed := none, source := none
          heldPeriod := none, interval := none, counter := none, lastRev := none }
      head := { motion := .idle, line := 0, valid := false, target := none, owed := 0, lastHoming := none }
      scan :=
        { state := .idle, lamp := false, jobS := none, jobT := none, jobSpeed := none, resumeLine := none
          headReady := false, inTransmission := false, dark := 0, white := 0, lastWhite := none
          lampLow := false, warmRevs := 0, measuring := .none, tracking := .none, report := .none
          filling := none }
      ring := Vector.replicate 4 .free
      modu :=
        { mode := .silent, acc := 0, increment := 0, freq := none, sendingSlot := none, lead := false
          phasingCount := 0, phasingTarget := none, linesCopy := none, lineCount := none, dac := 128 }
      markGen :=
        { rowAcc := 0, colAcc := 0, rowInc := 0, colInc := 0, step := .idle, symbols := [], completed := 0
          left := 0 }
      dialer := { state := .idle, position := 0, breaks := 0, left := 0 }
      dialBuf := none
      line :=
        { state := .idle, hook := false, relay := false, kind := none, active := none, jobSpeed := none
          jobS := none, jobT := none, prepared := false, pictureReached := false, closing := none
          talkAfter := false, pendingTalk := none, detector := .off, answerback := [], monitor := none
          timer := none, lastEnding := none }
      slips :=
        { queue := [], owed := [], nextNumber := 1, copy := none, reprint := false, collection := true
          printer := .idle, printing := none }
      deskLink := { select := .none, request := none, replyState := .empty, reply := none, dout := 0xFF }
      panelLink := { select := .none, request := none, replyState := .empty, reply := none, dout := 0xFF }
      deskAttn := { latches := 0, enables := 0x7F, masks := 0, globalMask := true, line := false }
      panelAttn := { latches := 0, enables := 0x7F, masks := 0, globalMask := true, line := false }
      modes := { localMode := false, attended := false, legEnd := false }
      settings :=
        { stationCode := [0], blackHz := 1500, whiteHz := 2300, bridgeHz := 1200, stopHz := 1000
          readyHz := 1100, stopTime := 3, phasingRevs := 20, resumeRevs := 10, answerTimeout := 45
          prepareLimit := 30, bridgeLimit := 20, answerbackWindow := 10, redialInterval := 120
          drumIdle := 60, drumGain := 64, lockClass := 1, startDuty60 := 400, startDuty90 := 560
          startDuty120 := 720, lampMin := 512, toneOn := 80, toneOff := 80, makeBreak := .mb4060
          interdigit := 700, pauseTime := 4, flashTime := 500, guardTime := 2, positionSource := .timer }
      curve := #v[0, 15, 31, 47, 63, 79, 95, 111, 127, 143, 159, 175, 191, 207, 223, 239, 255]
      clock := { day := 0, second := 0, cycles := 0 }
      pins :=
        { home := false, loop := false, paperOut := false, busy := false, photocell := 0
          hdForward := false, hdSteps := 0, prData := none, strobes := 0, lampSent := [], lampClocks := 0
          lampLatches := 0, lampBoard := 0 }
      aux :=
        { sub16 := 0, idleSub := 0, indexOver := false, sinceIndex := 0, spanEnded := false, headTime := 0
          homingSteps := 0, toneFrac := 0, tonesDue := 0, lampTime := 50000, crystalFrac := 0
          secondsDue := 0, charTime := 0, paperChecked := false, detTime := 0
          sinceSymbol := none, readyHz := 0 } } ∧
  AttnApplied State.reset ∧ LineOutputs State.reset ∧ StartDuties State.reset ∧
    DrumRecord State.reset ∧ SettingsRight State.reset ∧ CurveRises State.reset ∧
    ClockRange State.reset ∧ MountQueueRight State.reset ∧ OneMountedOneActive State.reset ∧
    SlipQueueRight State.reset ∧ LinkRecords State.reset ∧ TimerRecord State.reset

/-! ### The station links -/

/-- The link's checks, first failure first: the length the code table allows, the right of the link, local
mode (R174 steps 3 to 5, R177). A request that fails one is answered with that result alone. The rows of
the code table are written out: the request, its code, the least and the greatest length, whether the desk
and whether the panel may send it ("yes" or "own"), and whether local mode shuts it to the desk (R176, R177).
The requests are exactly these rows. That the request buffer is empty once the request is taken, answered or
refused, is read from the spec (assumption log 9, DEDUCED). -/
def Obligations.LinkChecksRefuseInOrder : Prop :=
  (∀ (i : Instr) (c : Code) (lk : Link) (b : Byte), i.request? = some (c, lk, b) ↔ (i, c) ∈ (
      [(.openJob lk b, ⟨0x01, 7, 31, true, true, true⟩), (.addLeg lk b, ⟨0x02, 3, 64, true, true, true⟩),
       (.commitJob lk b, ⟨0x03, 1, 1, true, true, true⟩), (.cancelJob lk b, ⟨0x04, 1, 1, true, true, true⟩),
       (.clearJob lk b, ⟨0x05, 1, 1, true, true, true⟩),
       (.setPriority lk b, ⟨0x06, 2, 2, false, true, false⟩),
       (.mount lk b, ⟨0x07, 1, 1, false, true, false⟩), (.unmount lk b, ⟨0x08, 1, 1, false, true, false⟩),
       (.skipLeg lk b, ⟨0x09, 2, 2, false, true, false⟩), (.readJob lk b, ⟨0x0A, 1, 1, true, true, false⟩),
       (.readLeg lk b, ⟨0x0B, 2, 2, true, true, false⟩), (.readQueue lk b, ⟨0x0C, 0, 0, true, true, false⟩)] ++
      [(.writeRoute lk b, ⟨0x10, 7, 64, true, true, true⟩),
       (.eraseRoute lk b, ⟨0x11, 1, 1, true, true, true⟩),
       (.readRoute lk b, ⟨0x12, 1, 1, true, true, false⟩), (.talk lk b, ⟨0x18, 0, 64, false, true, false⟩),
       (.endTalk lk b, ⟨0x19, 0, 0, false, true, false⟩), (.readLine lk b, ⟨0x1A, 0, 0, true, true, false⟩),
       (.drumRun lk b, ⟨0x20, 1, 1, false, true, false⟩),
       (.drumStop lk b, ⟨0x21, 0, 0, false, true, false⟩),
       (.readDrum lk b, ⟨0x22, 0, 0, true, true, false⟩),
       (.holdQueue lk b, ⟨0x28, 0, 0, false, true, false⟩),
       (.releaseQueue lk b, ⟨0x29, 0, 0, false, true, false⟩),
       (.setModes lk b, ⟨0x2A, 2, 2, false, true, false⟩)] ++
      [(.collectSlip lk b, ⟨0x30, 0, 0, true, false, false⟩),
       (.reprintSlip lk b, ⟨0x31, 0, 0, false, true, false⟩),
       (.setCollection lk b, ⟨0x32, 1, 1, false, true, false⟩),
       (.readSlipState lk b, ⟨0x33, 0, 0, true, true, false⟩),
       (.writeSetting lk b, ⟨0x38, 1, 9, false, true, false⟩),
       (.readSetting lk b, ⟨0x39, 1, 1, true, true, false⟩),
       (.writeCurve lk b, ⟨0x3A, 17, 17, false, true, false⟩),
       (.readCurve lk b, ⟨0x3B, 0, 0, true, true, false⟩), (.setClock lk b, ⟨0x40, 5, 5, true, true, true⟩),
       (.readClock lk b, ⟨0x41, 0, 0, true, true, false⟩),
       (.readAttn lk b, ⟨0x48, 0, 0, true, true, false⟩), (.setAttn lk b, ⟨0x49, 3, 3, true, true, false⟩),
       (.identify lk b, ⟨0x50, 0, 0, true, true, false⟩),
       (.machineReset lk b, ⟨0x51, 0, 0, false, true, false⟩)] : List (Instr × Code))) ∧
  (∀ c : Code, c ∈ codeTable ↔ ∃ (i : Instr) (lk : Link) (b : Byte), i.request? = some (c, lk, b)) ∧
  (∀ c : Code, c.permits .desk = c.desk ∧ c.permits .panel = c.panel) ∧
  ∀ (i : Instr) (c : Code) (lk : Link) (b : Byte) (args : List Byte) (s : State),
    i.request? = some (c, lk, b) → Arrives c lk b args s → ¬ Admitted c lk args.length s →
    exec i s = .next (placeReply lk
      { result :=
          if args.length < c.lo ∨ c.hi < args.length then .badLength
          else if c.permits lk = false then .notPermitted
          else .localMode
        data := .empty } (takeRequest lk s))

/-- A frame that is too long is refused BAD_LENGTH at its length byte, and a frame whose command byte is
not in the code table UNKNOWN_REQUEST at its last byte (R174 steps 1 and 2). A request taken empties the
request buffer, which is read from the spec (assumption log 9, DEDUCED), and replaces any reply held; its
answer waits READY with no byte sent, and the rest of the part stands as it was (R173, R174). -/
def Obligations.UnknownAndOverlongRequestsAreRefused : Prop :=
  ∀ (lk : Link) (b : Byte) (r : ReqBuf) (s : State),
    (s.link lk).select = .request → (s.link lk).request = some r →
    (r.len = none → 64 < b.toNat →
      exec (.unknownRequest lk b) s =
        .next (placeReply lk { result := .badLength, data := .empty } (takeRequest lk s))) ∧
    (codeTable.all (fun c => decide (c.byte ≠ r.cmd)) = true →
      (r.len = none ∧ b = 0 ∨ ∃ n, r.len = some n ∧ n.toNat ≤ 64 ∧ r.args.length + 1 = n.toNat) →
      exec (.unknownRequest lk b) s =
        .next (placeReply lk { result := .unknownRequest, data := .empty } (takeRequest lk s))) ∧
    ∀ p : Reply, placeReply lk p (takeRequest lk s) = s.setLink lk
      { select := .request
        request := none
        replyState := .ready
        reply := some { reply := p, sent := 0 }
        dout := 0xFF }

/-- The bytes of a select (R172, R173, R175). The first decides its kind, and is answered 0xFF as is every
byte of a request not yet taken; the length byte and the arguments join the request buffer; a select that
sends gives 0xFE when EMPTY and 0xFF when WORKING, and otherwise the frame's next byte: SENDING, and EMPTY
after its last. Released, a select drops a request not yet taken and a reply part-way sent, and keeps a
reply of which nothing was sent; that a part byte at the release begins the reply is the model's choice
(assumption log 11), and that a request is taken once its buffer is empty is read from the spec (assumption
log 9, DEDUCED). A reply frame begins with its result byte, whose codes are written out (R175, R176). -/
def Obligations.ASelectMovesItsBytesOneByOne : Prop :=
  ([.ok, .clamped, .unknownRequest, .badLength, .badArgument, .notPermitted, .localMode, .noSuchJob,
    .tableFull, .wrongState, .lineBusy, .drumBusy, .notStopped, .slipOwed, .curveBad, .routeBad,
    .nothing] : List Result).map Result.byte =
    [0x00, 0x01, 0x02, 0x03, 0x04, 0x05, 0x06, 0x07, 0x08, 0x09, 0x0A, 0x0B, 0x0C, 0x0D, 0x0E, 0x0F, 0x10] ∧
  ∀ (dt : Nat) (lk : Link) (b : Byte) (s : State),
    let t := elapse dt s
    let l := t.link lk
    let sends := l.select = .read ∨ (l.select = .request ∧ l.request = none)
    (l.select = .none → exec (.selectStart dt lk b) s = .next (t.setLink lk
      (if l.replyState = .working ∨ b = 0xFF then { l with select := .read, dout := 0xFF }
       else { l with
         select := .request, request := some { cmd := b, len := none, args := [] }, dout := 0xFF }))) ∧
    (∀ r, l.select = .request → l.request = some r →
      (r.len = none → b ≠ 0 → b.toNat ≤ 64 → exec (.byteClock dt lk b) s =
        .next (t.setLink lk { l with request := some { r with len := some b }, dout := 0xFF })) ∧
      (∀ n, r.len = some n → r.args.length + 1 < n.toNat → exec (.byteClock dt lk b) s =
        .next (t.setLink lk { l with request := some { r with args := r.args ++ [b] }, dout := 0xFF }))) ∧
    (sends → l.replyState = .empty →
      exec (.byteClock dt lk b) s = .next (t.setLink lk { l with dout := 0xFE })) ∧
    (sends → l.replyState = .working →
      exec (.byteClock dt lk b) s = .next (t.setLink lk { l with dout := 0xFF })) ∧
    (∀ p x, sends → (l.replyState = .ready ∨ l.replyState = .sending) → l.reply = some p →
      p.reply.frame[p.sent]? = some x →
      (p.sent + 1 < p.reply.frame.length → exec (.byteClock dt lk b) s = .next (t.setLink lk
        { l with replyState := .sending, reply := some { p with sent := p.sent + 1 }, dout := x })) ∧
      (p.sent + 1 = p.reply.frame.length → exec (.replyRead dt lk) s = .next (t.setLink lk
        { l with replyState := .empty, reply := none, dout := x }))) ∧
    (∀ part, l.select ≠ .none → exec (.selectRelease dt lk part) s = .next (t.setLink lk
      (if l.replyState = .sending ∨ (part = true ∧ sends ∧ l.replyState = .ready) then
        { l with select := .none, request := none, replyState := .empty, reply := none }
       else { l with select := .none, request := none }))) ∧
    ∀ r, (Reply.mk r .empty).frame = [r.byte, 0] ∧
      ∀ bs, (Reply.mk r (.bytes bs)).frame = [r.byte, BitVec.ofNat 8 bs.length] ++ bs

/-- A cause event latches its cause on the links the table of R180 routes it to, where the link's enable for
it is set, and ATTN follows R181 at once; on the other links it changes nothing. -/
def Obligations.CauseEventsLatchEnabledCauses : Prop :=
  (∀ (s : State) (c : Cause) (desk panel : Bool), s.cause c desk panel = { s with
    deskAttn := if desk then s.deskAttn.latch c else s.deskAttn
    panelAttn := if panel then s.panelAttn.latch c else s.panelAttn }) ∧
  (∀ (a : Attn) (c : Cause), a.latch c =
    if a.enables &&& c.bit = 0 then a
    else { a with
      latches := a.latches ||| c.bit
      line := !a.globalMask && decide ((a.latches ||| c.bit) &&& ~~~a.masks ≠ 0) }) ∧
  ([.job, .queue, .line, .drum, .slip, .printer, .fault] : List Cause).map Cause.bit =
    [1, 2, 4, 8, 16, 32, 64] ∧
  ∀ (s : State) (owner : Link),
    s.causeJob owner = s.cause .job (owner == .desk) true ∧ s.causeQueue = s.cause .queue true true ∧
    s.causeLine = s.cause .line true true ∧ s.causeDrum = s.cause .drum true true ∧
    s.causeSlip owner = s.cause .slip true (owner == .panel) ∧
    s.causePrinter = s.cause .printer true true ∧ s.causeFault = s.cause .fault true true

/-- Reading attention, writing it, and setting the modes (R182 to R185). READ_ATTN answers the link's
latches, enables, masks and global mask, both modes and the leg-end flag, then clears the latches of its
own link and drops its ATTN, and on the panel link clears the leg-end flag. SET_ATTN writes all three
settings of its own link together and applies ATTN afresh. SET_MODES gives both modes their values, and
attended mode turned off clears the leg-end flag. The clearing of a set flag prompts the arbiter. -/
def Obligations.AttentionReadAndWritten : Prop :=
  (∀ (lk : Link) (b : Byte) (s : State), Taken codeReadAttn lk b [] s →
    let t := (takeRequest lk s).setAttn lk { s.attn lk with latches := 0, line := false }
    exec (.readAttn lk b) s = .next (placeReply lk
      { result := .ok
        data := .bytes [(s.attn lk).latches.setWidth 8, (s.attn lk).enables.setWidth 8,
          (s.attn lk).masks.setWidth 8, if (s.attn lk).globalMask then 1 else 0,
          if s.modes.localMode then 1 else 0, if s.modes.attended then 1 else 0,
          if s.modes.legEnd then 1 else 0] }
      (if lk = .panel ∧ s.modes.legEnd = true then
        prompt { t with modes := { s.modes with legEnd := false } }
       else t))) ∧
  (∀ (lk : Link) (b e m g : Byte) (s : State), Taken codeSetAttn lk b [e, m, g] s →
    exec (.setAttn lk b) s = .next
      (if 128 ≤ e.toNat ∨ 128 ≤ m.toNat ∨ 1 < g.toNat then
        placeReply lk { result := .badArgument, data := .empty } (takeRequest lk s)
       else placeReply lk { result := .ok, data := .empty } ((takeRequest lk s).setAttn lk
        { latches := (s.attn lk).latches
          enables := e.setWidth 7
          masks := m.setWidth 7
          globalMask := g == 1
          line := decide (g = 0 ∧ (s.attn lk).latches &&& ~~~(m.setWidth 7) ≠ 0) }))) ∧
  ∀ (lk : Link) (b x y : Byte) (s : State), Taken codeSetModes lk b [x, y] s →
    exec (.setModes lk b) s = .next
      (if 1 < x.toNat ∨ 1 < y.toNat then
        placeReply lk { result := .badArgument, data := .empty } (takeRequest lk s)
       else
        let t := takeRequest lk s
        placeReply lk { result := .ok, data := .empty }
          (if y = 0 ∧ s.modes.legEnd = true then
            prompt { t with modes := { localMode := x == 1, attended := false, legEnd := false } }
           else { t with
             modes := { localMode := x == 1, attended := y == 1, legEnd := s.modes.legEnd } }))

/-! ### Jobs, legs and the mount queue -/

/-- Every request that names a job is checked in the order of R3: the number, the entry, and the owner
where the request is limited to the master's own jobs. -/
def Obligations.RequestsNamingAJobAreCheckedInOrder : Prop :=
  ∀ (i : Instr) (c : Code) (lk : Link) (b j : Byte) (args : List Byte) (s : State),
    i.request? = some (c, lk, b) → Taken c lk b (j :: args) s →
    c ∈ [codeAddLeg, codeCommitJob, codeCancelJob, codeClearJob, codeSetPriority, codeMount, codeUnmount,
      codeSkipLeg, codeReadLeg] →
    (15 < j.toNat →
      exec i s = .next (placeReply lk { result := .badArgument, data := .empty } (takeRequest lk s))) ∧
    (j.toNat ≤ 15 → s.job? j.toNat = none →
      exec i s = .next (placeReply lk { result := .noSuchJob, data := .empty } (takeRequest lk s))) ∧
    ∀ x, s.job? j.toNat = some x → x.owner ≠ lk →
      (c = codeAddLeg ∨ c = codeCommitJob ∨ ((c = codeCancelJob ∨ c = codeClearJob) ∧ lk = .desk)) →
      exec i s = .next (placeReply lk { result := .notPermitted, data := .empty } (takeRequest lk s))

/-- A route passes the check of R28 exactly when some dialable route has its bytes, and it is then that
route; a stored route also has a label of 1 to 12 printable characters and an expected code of 1 to 8
digits or none. The routes of ADD_LEG and TALK are read by their kind byte, and refused BAD_ARGUMENT when
it is absent (which no frame brings), when it is not 0 or 1, when a directory route is not one index of 0 to 23, or when an explicit
route lacks its mode or its rate (R5, R176); that the kind byte 0 alone is refused so is the model's reading
(assumption log 21). -/
def Obligations.RouteCheckPassesExactlyTheDialableRoutes : Prop :=
  (∀ (m r : Byte) (syms : List Byte) (d : DialSpec), dialCheck m r syms = some d ↔
    dialBytes d = m :: r :: syms ∧ dialRight d) ∧
  (∀ (f : RouteFrame) (x : RouteRec), storedRoute f = some x ↔
    dialBytes x.dial = f.mode :: f.rate :: f.syms ∧ dialRight x.dial ∧
    x.label = f.label ∧ 1 ≤ f.label.length ∧ f.label.length ≤ 12 ∧
    (∀ ch ∈ f.label, 32 ≤ ch.toNat ∧ ch.toNat ≤ 126) ∧
    ((x.code = none ∧ f.code = []) ∨ ∃ e, x.code = some e ∧ digitsText e = f.code ∧
      1 ≤ e.length ∧ e.length ≤ 8)) ∧
  (∀ (bs : List Byte) (n : Nat), parseRoute bs = .ok (.directory n) ↔
    ∃ i : Byte, bs = [0, i] ∧ i.toNat = n ∧ n ≤ 23) ∧
  (∀ (bs : List Byte) (d : DialSpec), parseRoute bs = .ok (.explicit d) ↔
    bs = 1 :: dialBytes d ∧ dialRight d) ∧
  (∀ bs : List Byte, parseRoute bs = .error .routeBad ↔
    ∃ m r syms, bs = 1 :: m :: r :: syms ∧ ∀ d : DialSpec, dialRight d → dialBytes d ≠ m :: r :: syms) ∧
  (∀ bs : List Byte, parseRoute bs = .error .badArgument ↔
    bs = [] ∨ (∃ k rest, bs = k :: rest ∧ 1 < k.toNat) ∨
    (∃ rest, bs = 0 :: rest ∧ ∀ i : Byte, rest = [i] → 23 < i.toNat) ∨
    ∃ rest, bs = 1 :: rest ∧ rest.length < 2) ∧
  ∀ (bs : List Byte) (r : Result), parseRoute bs = .error r → r = .badArgument ∨ r = .routeBad

/-- OPEN_JOB makes the lowest-numbered FREE entry a LOADING job of the link it came on, stamped now, with
no legs, and sends its JOB cause event; with no FREE entry it is refused TABLE_FULL, and with an argument
out of its range BAD_ARGUMENT (R4). The reply's byte, the job number, is the model's reading (assumption
log 6). -/
def Obligations.OpenJobFillsTheLowestFreeEntry : Prop :=
  ∀ (lk : Link) (b p v s1 s0 t1 t0 r : Byte) (slug : List Byte) (s : State),
    Taken codeOpenJob lk b (p :: v :: s1 :: s0 :: t1 :: t0 :: r :: slug) s →
    let samples := 256 * s1.toNat + s0.toNat
    let lines := 256 * t1.toNat + t0.toNat
    let good (speed : Rpm) := (v.toNat, speed) ∈ [(60, Rpm.rpm60), (90, Rpm.rpm90), (120, Rpm.rpm120)] ∧
      p.toNat ≤ 3 ∧ slug.length ≤ 24 ∧ (∀ ch ∈ slug, 32 ≤ ch.toNat ∧ ch.toNat ≤ 126) ∧
      256 ≤ samples ∧ samples ≤ 2048 ∧ 64 ∣ samples ∧ 16 ≤ lines ∧ lines ≤ 4000 ∧ r.toNat ≤ 7
    ((¬ ∃ speed, good speed) → exec (.openJob lk b) s =
      .next (placeReply lk { result := .badArgument, data := .empty } (takeRequest lk s))) ∧
    ∀ speed, good speed →
      ((∀ i, i < 16 → s.job? i ≠ none) → exec (.openJob lk b) s =
        .next (placeReply lk { result := .tableFull, data := .empty } (takeRequest lk s))) ∧
      ∀ j, j < 16 → s.job? j = none → (∀ i, i < j → s.job? i ≠ none) →
        exec (.openJob lk b) s = .next (placeReply lk
          { result := .ok, data := .bytes [BitVec.ofNat 8 j] }
          (((takeRequest lk s).setJob j (some
            { state := .loading, owner := lk, priority := p.toNat
              slug := if slug = [] then none else some slug
              speed := speed, samples := samples, lineCount := lines, retries := r.toNat
              commitNumber := none, openTime := s.stamp, commitTime := none, mountTime := none
              cancelPending := false, legs := [] })).causeJob lk))

/-- ADD_LEG on a LOADING job of the link's own with fewer than 4 legs appends a leg with the creation values
of R2; else it is refused with its route's own result, WRONG_STATE or TABLE_FULL, in this order (R5). The
reply's byte, the leg index, is the model's reading (assumption log 6). -/
def Obligations.AddLegAppendsAPendingLeg : Prop :=
  ∀ (lk : Link) (b j : Byte) (route : List Byte) (s : State) (x : Job),
    Taken codeAddLeg lk b (j :: route) s → s.job? j.toNat = some x → x.owner = lk →
    (∀ r, parseRoute route = .error r →
      exec (.addLeg lk b) s = .next (placeReply lk { result := r, data := .empty } (takeRequest lk s))) ∧
    ∀ rt, parseRoute route = .ok rt → exec (.addLeg lk b) s = .next
      (if x.state ≠ .loading then
        placeReply lk { result := .wrongState, data := .empty } (takeRequest lk s)
       else if 4 ≤ x.legs.length then
        placeReply lk { result := .tableFull, data := .empty } (takeRequest lk s)
       else placeReply lk { result := .ok, data := .bytes [BitVec.ofNat 8 x.legs.length] }
        ((takeRequest lk s).setJob j.toNat (some { x with legs := x.legs ++
          [{ route := rt, state := .pending, attempts := 0, linesSent := 0, notBefore := none
             lastReason := none, firstAttempt := none, endTime := none, answerback := none
             garbled := false
             notes := { short := 0, fill := 0, slip := 0, lamp := 0, bridge := 0 }
             slipOwed := false }] })))

/-- COMMIT_JOB gives a LOADING job with legs the commit counter's value and the time, makes it QUEUED behind
the entries that stay ahead of it, and advances the counter modulo 65536 (R6, R7, R25). The reply's two
bytes, the commit number, are the model's reading (assumption log 6). -/
def Obligations.CommitJobQueuesByPriorityAndNumber : Prop :=
  ∀ (lk : Link) (b j : Byte) (s : State) (x : Job),
    Taken codeCommitJob lk b [j] s → s.job? j.toNat = some x → x.owner = lk →
    (x.state ≠ .loading → exec (.commitJob lk b) s =
      .next (placeReply lk { result := .wrongState, data := .empty } (takeRequest lk s))) ∧
    (x.state = .loading → x.legs = [] → exec (.commitJob lk b) s =
      .next (placeReply lk { result := .badArgument, data := .empty } (takeRequest lk s))) ∧
    (x.state = .loading → x.legs ≠ [] → j.toNat ∉ s.mountQueue.entries →
      exec (.commitJob lk b) s = .next (placeReply lk
        { result := .ok
          data := .bytes [BitVec.ofNat 8 (s.commitCounter / 256), BitVec.ofNat 8 s.commitCounter] }
        (queueBecomes (placedIn s j.toNat x.priority s.commitCounter s.mountQueue.entries)
          ((({ takeRequest lk s with commitCounter := (s.commitCounter + 1) % 65536 } : State).setJob
            j.toNat (some { x with
              state := .queued, commitNumber := some s.commitCounter
              commitTime := some s.stamp })).causeJob x.owner))))

/-- CANCEL_JOB of a job with no ACTIVE leg (R19): every waiting leg becomes CANCELLED with its end time
stamped, the other legs stay, the job becomes CANCELLED and leaves the queue if it was QUEUED; refused
WRONG_STATE for a job the link may not cancel in its state. With a leg ACTIVE the panel's CANCEL_JOB sets
cancel pending, makes every waiting leg CANCELLED and asks the line unit to abort the call (R20). The cause
events are JOB for the job and for each cancelled leg, SLIP for a record made, and QUEUE when the head of the
queue becomes another (R25, R155). That the job's
end also prompts the arbiter is the model's reading (assumption log 19). The model's choices are that a job
which a loop loss ended is refused as R19 has it (assumption log 46), that a job cancelled while LOADING keeps
its commit number absent (assumption log 48), and that several attempted legs are handed to the slip unit in
rising leg index (assumption log 40). -/
def Obligations.CancelJobEndsTheJobOrAsksForAnAbort : Prop :=
  (∀ (lk : Link) (b j : Byte) (s : State) (x : Job),
    Taken codeCancelJob lk b [j] s → s.job? j.toNat = some x → (lk = .desk → x.owner = .desk) →
    let may := match lk with
      | .desk => x.state = .loading ∨ x.state = .queued
      | .panel => ¬ endedJob x.state
    (¬ may → exec (.cancelJob lk b) s =
      .next (placeReply lk { result := .wrongState, data := .empty } (takeRequest lk s))) ∧
    (may → x.state = .mounted → x.cancelPending = true → exec (.cancelJob lk b) s =
      .next (placeReply lk { result := .ok, data := .empty } (takeRequest lk s))) ∧
    (may → (x.state = .mounted → x.cancelPending = false) → (∀ g ∈ x.legs, g.state ≠ .active) →
      ∃ u, exec (.cancelJob lk b) s = .next (placeReply lk { result := .ok, data := .empty }
          (if x.state = .loading then u else prompt u)) ∧
        onlyJob j.toNat (takeRequest lk s) u ∧ slipsHanded (cancelledSlips j.toNat x) s u ∧
        u.mountQueue = { s.mountQueue with
          entries := if x.state = .queued then s.mountQueue.entries.erase j.toNat
            else s.mountQueue.entries } ∧
        attnAs (jobCauses x.owner true
          (decide (cancelledSlips j.toNat x ≠ [] ∧ s.slips.queue.length < 8))
          (decide (u.mountQueue.entries.head? ≠ s.mountQueue.entries.head?)) s) u ∧
        ∃ y, u.job? j.toNat = some y ∧ y = { x with state := .cancelled, legs := y.legs } ∧
          y.legs.length = x.legs.length ∧
          ∀ (l : Nat) (g : Leg), x.legs[l]? = some g → ∃ owed, y.legs[l]? = some
            (if g.state = .pending ∨ g.state = .retryWait then legEndedAs g .cancelled s.stamp owed
             else g))) ∧
  ∀ (b j : Byte) (s : State) (x : Job),
    Taken codeCancelJob .panel b [j] s → s.job? j.toNat = some x → x.state = .mounted →
    x.cancelPending = false → (∃ g ∈ x.legs, g.state = .active) →
    ∃ u, exec (.cancelJob .panel b) s =
        .next (placeReply .panel { result := .ok, data := .empty } (abortCall u)) ∧
      onlyJob j.toNat (takeRequest .panel s) u ∧ slipsHanded (cancelledSlips j.toNat x) s u ∧
      u.mountQueue = s.mountQueue ∧
      attnAs (jobCauses x.owner (decide (∃ g ∈ x.legs, g.state = .pending ∨ g.state = .retryWait))
        (decide (cancelledSlips j.toNat x ≠ [] ∧ s.slips.queue.length < 8)) false s) u ∧
      ∃ y, u.job? j.toNat = some y ∧ y = { x with cancelPending := true, legs := y.legs } ∧
        y.legs.length = x.legs.length ∧
        ∀ (l : Nat) (g : Leg), x.legs[l]? = some g → ∃ owed, y.legs[l]? = some
          (if g.state = .pending ∨ g.state = .retryWait then legEndedAs g .cancelled s.stamp owed
           else g)

/-- CLEAR_JOB frees the entry of a terminal job that owes no slip, with its JOB cause event (R23). A
SET_PRIORITY on a job that is not terminal sets the field, and moves a QUEUED job to the place its new
priority gives; the old priority changes nothing (R22). -/
def Obligations.ClearJobAndSetPriorityChangeOneEntry : Prop :=
  (∀ (lk : Link) (b j : Byte) (s : State) (x : Job),
    Taken codeClearJob lk b [j] s → s.job? j.toNat = some x → (lk = .desk → x.owner = .desk) →
    (¬ endedJob x.state → exec (.clearJob lk b) s =
      .next (placeReply lk { result := .wrongState, data := .empty } (takeRequest lk s))) ∧
    (endedJob x.state → (∃ g ∈ x.legs, g.slipOwed = true) → exec (.clearJob lk b) s =
      .next (placeReply lk { result := .slipOwed, data := .empty } (takeRequest lk s))) ∧
    (endedJob x.state → (∀ g ∈ x.legs, g.slipOwed = false) → exec (.clearJob lk b) s =
      .next (placeReply lk { result := .ok, data := .empty }
        (((takeRequest lk s).setJob j.toNat none).causeJob x.owner)))) ∧
  ∀ (lk : Link) (b j p : Byte) (s : State) (x : Job),
    Taken codeSetPriority lk b [j, p] s → s.job? j.toNat = some x →
    s.mountQueue.entries.Nodup →
    (3 < p.toNat → exec (.setPriority lk b) s =
      .next (placeReply lk { result := .badArgument, data := .empty } (takeRequest lk s))) ∧
    (p.toNat ≤ 3 → endedJob x.state → exec (.setPriority lk b) s =
      .next (placeReply lk { result := .wrongState, data := .empty } (takeRequest lk s))) ∧
    (p.toNat ≤ 3 → ¬ endedJob x.state → exec (.setPriority lk b) s =
      .next (placeReply lk { result := .ok, data := .empty }
        (let t := (takeRequest lk s).setJob j.toNat (some { x with priority := p.toNat })
         if p.toNat = x.priority then takeRequest lk s
         else if x.state = .queued then
          queueBecomes (placedIn s j.toNat p.toNat (x.commitNumber.getD 0)
            (s.mountQueue.entries.erase j.toNat)) t
         else t)))

/-- MOUNT takes a QUEUED job out of the queue, makes it MOUNTED, stamps its mount time and prompts the
arbiter; it asks for a STOPPED drum with its cover closed, and for no job MOUNTED (R10). UNMOUNT of a job
with no ACTIVE leg puts it back in the queue with its old priority and number, its mount time removed and
the resume points of its legs that are not terminal lost (R11). -/
def Obligations.MountAndUnmountMoveAJobOutOfAndIntoTheQueue : Prop :=
  (∀ (lk : Link) (b j : Byte) (s : State) (x : Job),
    Taken codeMount lk b [j] s → s.job? j.toNat = some x →
    let free := ∀ i y, s.job? i = some y → y.state ≠ .mounted
    ((s.drum.state ≠ .stopped ∨ s.drum.coverOpen = true) → exec (.mount lk b) s =
      .next (placeReply lk { result := .notStopped, data := .empty } (takeRequest lk s))) ∧
    (s.drum.state = .stopped → s.drum.coverOpen = false → (¬ free ∨ x.state ≠ .queued) →
      exec (.mount lk b) s =
        .next (placeReply lk { result := .wrongState, data := .empty } (takeRequest lk s))) ∧
    (s.drum.state = .stopped → s.drum.coverOpen = false → free → x.state = .queued →
      exec (.mount lk b) s = .next (placeReply lk { result := .ok, data := .empty }
        (prompt ((queueBecomes (s.mountQueue.entries.erase j.toNat) ((takeRequest lk s).setJob j.toNat
          (some { x with state := .mounted, mountTime := some s.stamp }))).causeJob x.owner))))) ∧
  ∀ (lk : Link) (b j : Byte) (s : State) (x : Job),
    Taken codeUnmount lk b [j] s → s.job? j.toNat = some x →
    (x.state ≠ .mounted → exec (.unmount lk b) s =
      .next (placeReply lk { result := .wrongState, data := .empty } (takeRequest lk s))) ∧
    (x.state = .mounted → (∃ g ∈ x.legs, g.state = .active) → exec (.unmount lk b) s =
      .next (placeReply lk { result := .lineBusy, data := .empty } (takeRequest lk s))) ∧
    (x.state = .mounted → (∀ g ∈ x.legs, g.state ≠ .active) → j.toNat ∉ s.mountQueue.entries →
      exec (.unmount lk b) s = .next (placeReply lk { result := .ok, data := .empty }
        (queueBecomes
          (placedIn s j.toNat x.priority (x.commitNumber.getD 0) s.mountQueue.entries)
          (((takeRequest lk s).setJob j.toNat (some { x with
            state := .queued, mountTime := none
            legs := x.legs.map fun g =>
              if g.state = .pending ∨ g.state = .retryWait then { g with linesSent := 0 } else g
            })).causeJob x.owner))))

/-- SKIP_LEG of a waiting leg of a QUEUED or MOUNTED job makes it SKIPPED with its end time stamped, with a
JOB cause event, and a SLIP cause event if a record is made (R25, R155), and the job end test follows, whose
end prompts the arbiter (R18, R21). HOLD_QUEUE holds the queue with reason
OPERATOR; RELEASE_QUEUE clears a hold and prompts the arbiter, and changes nothing when there is none
(R9, R25). -/
def Obligations.SkipLegAndTheQueueHold : Prop :=
  (∀ (lk : Link) (b j l : Byte) (s : State) (x : Job),
    Taken codeSkipLeg lk b [j, l] s → s.job? j.toNat = some x →
    (x.legs.length ≤ l.toNat → exec (.skipLeg lk b) s =
      .next (placeReply lk { result := .badArgument, data := .empty } (takeRequest lk s))) ∧
    ∀ g, x.legs[l.toNat]? = some g →
      (((x.state ≠ .queued ∧ x.state ≠ .mounted) ∨
          (g.state ≠ .active ∧ g.state ≠ .pending ∧ g.state ≠ .retryWait)) →
        exec (.skipLeg lk b) s =
          .next (placeReply lk { result := .wrongState, data := .empty } (takeRequest lk s))) ∧
      ((x.state = .queued ∨ x.state = .mounted) → g.state = .active → exec (.skipLeg lk b) s =
        .next (placeReply lk { result := .lineBusy, data := .empty } (takeRequest lk s))) ∧
      ((x.state = .queued ∨ x.state = .mounted) → (g.state = .pending ∨ g.state = .retryWait) →
        ∃ u owed, onlyJob j.toNat (takeRequest lk s) u ∧ u.mountQueue = s.mountQueue ∧
          slipsHanded (if g.attempts = 0 then [] else [(j.toNat, l.toNat)]) s u ∧
          attnAs (jobCauses x.owner true (decide (1 ≤ g.attempts ∧ s.slips.queue.length < 8)) false s) u ∧
          u.job? j.toNat = some { x with
            legs := x.legs.set l.toNat (legEndedAs g .skipped s.stamp owed) } ∧
          exec (.skipLeg lk b) s = .next (placeReply lk { result := .ok, data := .empty }
            (if x.legs.eraseIdx l.toNat |>.all (fun h => h.state.terminal) then
              prompt (jobEndTest j.toNat u) else u)))) ∧
  (∀ (lk : Link) (b : Byte) (s : State), Taken codeHoldQueue lk b [] s →
    exec (.holdQueue lk b) s = .next (placeReply lk { result := .ok, data := .empty }
      ({ takeRequest lk s with
        mountQueue := { s.mountQueue with hold := some .operator } } : State).causeQueue)) ∧
  ∀ (lk : Link) (b : Byte) (s : State), Taken codeReleaseQueue lk b [] s →
    exec (.releaseQueue lk b) s = .next (placeReply lk { result := .ok, data := .empty }
      (if s.mountQueue.hold = none then takeRequest lk s
       else prompt ({ takeRequest lk s with
        mountQueue := { s.mountQueue with hold := none } } : State).causeQueue))

/-- A leg that ends has its state and end time set and its not-before time removed, with a JOB cause event;
attempted at least once it gets a slip, or is owed one when the slip queue is full (R16, R25). A QUEUED or
MOUNTED job whose legs have all ended becomes what R18 gives, with a JOB cause event, and leaves the queue
if it was QUEUED; another job does not end. While a call runs, a progress event for its ACTIVE leg counts one
line sent, or raises the one note it names, which stays at 65535; for a leg no longer ACTIVE it changes nothing
(R14). -/
def Obligations.LegsAndJobsEndAsTheyStand : Prop :=
  (∀ (s : State) (j l : Nat) (x : Job) (g : Leg),
    s.line.active = some (j, l) → s.job? j = some x → x.legs[l]? = some g → g.state = .active →
    let legBecomes (h : Leg) : State := s.setJob j (some { x with legs := x.legs.set l h })
    let noted (n : Notes) : State := legBecomes { g with notes := n }
    lineSentEvent s = legBecomes { g with linesSent := g.linesSent + 1 } ∧
    noteEvent .short s = noted { g.notes with short := min 65535 (g.notes.short + 1) } ∧
    noteEvent .fill s = noted { g.notes with fill := min 65535 (g.notes.fill + 1) } ∧
    noteEvent .slip s = noted { g.notes with slip := min 65535 (g.notes.slip + 1) } ∧
    noteEvent .lamp s = noted { g.notes with lamp := min 65535 (g.notes.lamp + 1) } ∧
    noteEvent .bridge s = noted { g.notes with bridge := min 65535 (g.notes.bridge + 1) }) ∧
  (∀ s : State, (∀ j l g, s.line.active = some (j, l) → s.leg? j l = some g → g.state ≠ .active) →
    lineSentEvent s = s ∧ ∀ k, noteEvent k s = s) ∧
  (∀ (s : State) (j l : Nat) (x : Job) (g : Leg) (st : LegState),
    s.job? j = some x → x.legs[l]? = some g →
    let t := (s.setJob j (some { x with
      legs := x.legs.set l (legEndedAs g st s.stamp g.slipOwed) })).causeJob x.owner
    legTerminal j l st s =
      if g.attempts = 0 then t
      else if s.slips.queue.length < 8 then createSlip j l t
      else { t.setJob j (some { x with legs := x.legs.set l (legEndedAs g st s.stamp true) }) with
        slips := { s.slips with owed := s.slips.owed ++ [(j, l)] } }) ∧
  ∀ (s : State) (j : Nat) (x : Job) (st : JobState), s.job? j = some x →
    ((x.state = .queued ∨ x.state = .mounted) → (∀ g ∈ x.legs, g.state.terminal = true) →
      jobEndsAs x st →
      jobEndTest j s =
        let t := (s.setJob j (some { x with state := st })).causeJob x.owner
        if x.state = .queued then queueBecomes (s.mountQueue.entries.erase j) t else t) ∧
    (((x.state ≠ .queued ∧ x.state ≠ .mounted) ∨ ∃ g ∈ x.legs, g.state.terminal = false) →
      jobEndTest j s = s)

/-! ### Reading, routes, slips, settings and the clock -/

/-- The reading requests answer what the state holds and change nothing: READ_QUEUE (R8), READ_ROUTE (R31),
READ_SLIP_STATE (R167), READ_SETTING (R192) and IDENTIFY (R178), each from either link and in local mode as
well. How the fields of READ_QUEUE, READ_ROUTE and READ_SLIP_STATE lie in reply bytes is free (assumption
log 5). -/
def Obligations.ReadingRequestsAnswerTheStateAndChangeNothing : Prop :=
  (∀ (lk : Link) (b : Byte) (s : State), Arrives codeReadQueue lk b [] s →
    exec (.readQueue lk b) s = .next (placeReply lk
      { result := .ok, data := .queue s.mountQueue.hold s.mountQueue.entries s.mounted? }
      (takeRequest lk s)) ∧
    (s.mounted? = none ↔ ∀ j x, s.job? j = some x → x.state ≠ .mounted) ∧
    ∀ j, s.mounted? = some j → ∃ x, s.job? j = some x ∧ x.state = .mounted) ∧
  (∀ (lk : Link) (b i : Byte) (s : State), Arrives codeReadRoute lk b [i] s →
    exec (.readRoute lk b) s = .next (placeReply lk
      (if h : i.toNat < 24 then
        { result := .ok
          data := match s.routes[i.toNat] with
            | none => .routeEmpty
            | some r => .route r }
       else { result := .badArgument, data := .empty }) (takeRequest lk s))) ∧
  (∀ (lk : Link) (b : Byte) (s : State), Arrives codeReadSlipState lk b [] s →
    exec (.readSlipState lk b) s = .next (placeReply lk
      { result := .ok
        data := .slipState
          { records := s.slips.queue.map fun (r : SlipRec) =>
              { number := r.number, job := r.job, leg := r.leg, owner := r.owner
                printed := r.printed, collected := r.collected }
            owed := s.slips.owed, nextNumber := s.slips.nextNumber
            collection := s.slips.collection, reprint := s.slips.reprint
            copyNumber := s.slips.copy.map fun (r : SlipRec) => r.number
            printer := s.slips.printer, printing := s.slips.printing } } (takeRequest lk s))) ∧
  (∀ (lk : Link) (b n : Byte) (s : State), Arrives codeReadSetting lk b [n] s →
    exec (.readSetting lk b) s = .next (placeReply lk
      (if n.toNat = 0 ∨ 29 < n.toNat then { result := .badArgument, data := .empty }
       else if n.toNat = 1 then { result := .ok, data := .bytes (digitsText s.settings.stationCode) }
       else { result := .ok, data := .bytes (be2 (s.settings.number n.toNat)) })
      (takeRequest lk s))) ∧
  ∀ (lk : Link) (b : Byte) (s : State), Arrives codeIdentify lk b [] s →
    exec (.identify lk b) s = .next (placeReply lk
      { result := .ok
        data := .bytes [0x4E, 0x44, 0x57, 0x58, 1, 0, match lk with | .desk => 0 | .panel => 1] }
      (takeRequest lk s))

/-- READ_JOB, READ_LEG, READ_CURVE, READ_CLOCK, READ_DRUM and READ_LINE answer what the state holds, from
either link and in local mode as well, and change nothing (R24, R193, R195, R65, R81, R150, R36, R42, R103,
R119). How the fields of READ_JOB, READ_LEG, READ_DRUM and READ_LINE lie in reply bytes is free (assumption log
5). READ_LEG shows a not-before time as its stamp, without the model's own mark of the wrap (assumption log 41). That a
FREE slot shows 0 levels written is the model's choice (assumption log 47). -/
def Obligations.RecordsAreReadAsTheyStand : Prop :=
  (∀ (lk : Link) (b j : Byte) (s : State), Arrives codeReadJob lk b [j] s →
    (15 < j.toNat → exec (.readJob lk b) s =
      .next (placeReply lk { result := .badArgument, data := .empty } (takeRequest lk s))) ∧
    (j.toNat ≤ 15 → s.job? j.toNat = none → exec (.readJob lk b) s =
      .next (placeReply lk { result := .ok, data := .jobFree } (takeRequest lk s))) ∧
    ∀ x, s.job? j.toNat = some x → exec (.readJob lk b) s = .next (placeReply lk
      { result := .ok
        data := .job
          { state := x.state, owner := x.owner, priority := x.priority, slug := x.slug
            speed := x.speed, samples := x.samples, lineCount := x.lineCount, retries := x.retries
            commitNumber := x.commitNumber, openTime := x.openTime, commitTime := x.commitTime
            mountTime := x.mountTime, cancelPending := x.cancelPending, legCount := x.legs.length
            place := if x.state = .queued ∧ j.toNat ∈ s.mountQueue.entries then
                some (s.mountQueue.entries.idxOf j.toNat + 1)
              else none } } (takeRequest lk s))) ∧
  (∀ (lk : Link) (b j l : Byte) (s : State) (x : Job),
    Arrives codeReadLeg lk b [j, l] s → s.job? j.toNat = some x →
    exec (.readLeg lk b) s = .next (placeReply lk
      (match x.legs[l.toNat]? with
        | none => { result := .badArgument, data := .empty }
        | some g => { result := .ok, data := .leg l.toNat { g with
          notBefore := g.notBefore.map fun due => { time := due.time, acrossWrap := false } } })
      (takeRequest lk s))) ∧
  (∀ (lk : Link) (b : Byte) (s : State), Arrives codeReadCurve lk b [] s →
    exec (.readCurve lk b) s = .next (placeReply lk
      { result := .ok, data := .bytes (s.curve.toList.map (BitVec.ofNat 8)) } (takeRequest lk s))) ∧
  (∀ (lk : Link) (b : Byte) (s : State), Arrives codeReadClock lk b [] s →
    exec (.readClock lk b) s = .next (placeReply lk
      { result := .ok
        data := .bytes [BitVec.ofNat 8 (s.clock.day / 256), BitVec.ofNat 8 s.clock.day,
          BitVec.ofNat 8 (s.clock.second / 65536), BitVec.ofNat 8 (s.clock.second / 256),
          BitVec.ofNat 8 s.clock.second] } (takeRequest lk s))) ∧
  (∀ (lk : Link) (b : Byte) (s : State), Arrives codeReadDrum lk b [] s →
    exec (.readDrum lk b) s = .next (placeReply lk
      { result := .ok
        data := .drum
          { drum := s.drum
            tolerance := s.drum.target.map fun r =>
              pNom r * [5, 10, 20, 50].getD s.settings.lockClass 50 / 10000
            nominal := s.drum.target.map pNom
            timer := s.posTimer
            head := s.head } } (takeRequest lk s))) ∧
  ∀ (lk : Link) (b : Byte) (s : State), Arrives codeReadLine lk b [] s →
    ∃ v : LineView, exec (.readLine lk b) s =
        .next (placeReply lk { result := .ok, data := .line v } (takeRequest lk s)) ∧
      v = { v with
        state := s.line.state, hook := s.line.hook, relay := s.line.relay, kind := s.line.kind
        active := s.line.active, jobSpeed := s.line.jobSpeed, jobS := s.line.jobS, jobT := s.line.jobT
        prepared := s.line.prepared, pictureReached := s.line.pictureReached
        closing := s.line.closing, talkAfter := s.line.talkAfter
        pendingTalk := s.line.pendingTalk.map fun p => p.route.isSome
        detector := s.line.detector, answerback := s.line.answerback, monitor := s.line.monitor
        timer := s.line.timer, lastEnding := s.line.lastEnding
        dialSource := s.dialBuf.map fun d => d.source
        codeHeld := decide (∃ d, s.dialBuf = some d ∧ d.code ≠ none)
        dialing := if s.line.state = .dial then
            some (s.dialer.position, (s.dialBuf.map fun d => d.dial.string.length).getD 0)
          else none
        marking := if s.markGen.step = .idle then none
          else some (s.markGen.completed, s.markGen.symbols.length) } ∧
      v.scanner = {
        state := s.scan.state, lamp := s.scan.lamp, jobS := s.scan.jobS, jobT := s.scan.jobT
        jobSpeed := s.scan.jobSpeed, resumeLine := s.scan.resumeLine, headReady := s.scan.headReady
        inTransmission := s.scan.inTransmission, dark := s.scan.dark, white := s.scan.white
        lastWhite := s.scan.lastWhite, lampLow := s.scan.lampLow, warmRevs := s.scan.warmRevs
        measuring := match s.scan.measuring with
          | .none => .none
          | .waiting => .waiting
          | .running _ n => .running n
        tracking := match s.scan.tracking with
          | .none => .none
          | .waiting => .waiting
          | .running _ n => .running n
        report := s.scan.report, filling := s.scan.filling.map fun f => (f.line, f.written) } ∧
      (v.ring = s.ring.toList.map fun x => match x with
        | .free => { state := .free, line := none, written := 0 }
        | .filling n ls => { state := .filling, line := some n, written := ls.length }
        | .full n ls => { state := .full, line := some n, written := ls.length }
        | .sending n ls => { state := .sending, line := some n, written := ls.length }) ∧
      v.modulator = { mode := s.modu.mode, freq := s.modu.freq, increment := s.modu.increment
                      sendingSlot := s.modu.sendingSlot, lead := s.modu.lead
                      phasingCount := s.modu.phasingCount, phasingTarget := s.modu.phasingTarget
                      linesCopy := s.modu.linesCopy, lineCount := s.modu.lineCount }

/-- WRITE_ROUTE replaces the record at its index whole by the route given, ROUTE_BAD or BAD_ARGUMENT where
the route or the index does not pass; ERASE_ROUTE empties it (R29, R30, R176). -/
def Obligations.RoutesAreReplacedWholeAndErased : Prop :=
  (∀ (lk : Link) (b : Byte) (args : List Byte) (s : State), Taken codeWriteRoute lk b args s →
    (∀ (f : RouteFrame) (x : RouteRec),
      args = [f.index, f.mode, f.rate, BitVec.ofNat 8 f.syms.length] ++ f.syms ++
        [BitVec.ofNat 8 f.label.length] ++ f.label ++ [BitVec.ofNat 8 f.code.length] ++ f.code →
      (23 < f.index.toNat → exec (.writeRoute lk b) s =
        .next (placeReply lk { result := .badArgument, data := .empty } (takeRequest lk s))) ∧
      (f.index.toNat ≤ 23 → storedRoute f = none → exec (.writeRoute lk b) s =
        .next (placeReply lk { result := .routeBad, data := .empty } (takeRequest lk s))) ∧
      (f.index.toNat ≤ 23 → storedRoute f = some x → exec (.writeRoute lk b) s =
        .next (placeReply lk { result := .ok, data := .empty } { takeRequest lk s with
          routes := s.routes.setIfInBounds f.index.toNat (some x) }))) ∧
    ((¬ ∃ f : RouteFrame,
      args = [f.index, f.mode, f.rate, BitVec.ofNat 8 f.syms.length] ++ f.syms ++
        [BitVec.ofNat 8 f.label.length] ++ f.label ++ [BitVec.ofNat 8 f.code.length] ++ f.code) →
      exec (.writeRoute lk b) s =
        .next (placeReply lk { result := .badArgument, data := .empty } (takeRequest lk s)))) ∧
  ∀ (lk : Link) (b i : Byte) (s : State), Taken codeEraseRoute lk b [i] s →
    exec (.eraseRoute lk b) s = .next
      (if 23 < i.toNat then placeReply lk { result := .badArgument, data := .empty } (takeRequest lk s)
       else placeReply lk { result := .ok, data := .empty }
        { takeRequest lk s with routes := s.routes.setIfInBounds i.toNat none })

/-- COLLECT_SLIP hands the desk the oldest record not yet collected and sets its flag; printed already, it
leaves the queue and the oldest owed slip is made (R157, R165). That the record in the reply shows its
collected flag set already is the model's choice (assumption log 5). REPRINT_SLIP asks an idle printer for the
copy (R164). SET_COLLECTION sets the mode, and OFF removes every printed record, oldest first, each removal
followed by the creation of the oldest owed slip: the records left stand in their order, and behind them one
record, with the next number, for each owed leg taken (R155, R157, R158, R166). -/
def Obligations.SlipRequestsCollectReprintAndRemove : Prop :=
  (∀ (lk : Link) (b : Byte) (s : State), Taken codeCollectSlip lk b [] s →
    ((∀ r ∈ s.slips.queue, r.collected = true) → exec (.collectSlip lk b) s =
      .next (placeReply lk { result := .nothing, data := .empty } (takeRequest lk s))) ∧
    ∀ (older : List SlipRec) (r : SlipRec) (newer : List SlipRec),
      s.slips.queue = older ++ r :: newer → (∀ o ∈ older, o.collected = true) →
      r.collected = false → (s.slips.queue.map fun (o : SlipRec) => o.number).Nodup →
      exec (.collectSlip lk b) s = .next (placeReply lk
        { result := .ok, data := .slip { r with collected := true } }
        (if r.printed then
          createOwed { takeRequest lk s with slips := { s.slips with queue := older ++ newer } }
         else { takeRequest lk s with slips := { s.slips with
           queue := older ++ { r with collected := true } :: newer } }))) ∧
  (∀ (lk : Link) (b : Byte) (s : State), Taken codeReprintSlip lk b [] s →
    exec (.reprintSlip lk b) s = .next
      (if s.slips.copy = none then
        placeReply lk { result := .nothing, data := .empty } (takeRequest lk s)
       else placeReply lk { result := .ok, data := .empty }
        (if s.slips.reprint then takeRequest lk s
         else printerLook { takeRequest lk s with slips := { s.slips with reprint := true } }))) ∧
  ∀ (lk : Link) (b v : Byte) (s : State), Taken codeSetCollection lk b [v] s →
    (1 < v.toNat → exec (.setCollection lk b) s =
      .next (placeReply lk { result := .badArgument, data := .empty } (takeRequest lk s))) ∧
    (v = 1 → exec (.setCollection lk b) s = .next (placeReply lk { result := .ok, data := .empty }
      { takeRequest lk s with slips := { s.slips with collection := true } })) ∧
    (v = 0 → s.slips.collection = false → exec (.setCollection lk b) s =
      .next (placeReply lk { result := .ok, data := .empty } (takeRequest lk s))) ∧
    (v = 0 → s.slips.collection = true → s.slips.owed = [] →
      (s.slips.queue.map fun (o : SlipRec) => o.number).Nodup →
      exec (.setCollection lk b) s = .next (placeReply lk { result := .ok, data := .empty }
        { takeRequest lk s with slips := { s.slips with
          collection := false, queue := s.slips.queue.filter fun (r : SlipRec) => !r.printed } })) ∧
    (v = 0 → s.slips.collection = true → ∃ u, exec (.setCollection lk b) s =
        .next (placeReply lk { result := .ok, data := .empty } u) ∧
      u.slips.collection = false ∧
      u.slips.owed = s.slips.owed.drop (s.slips.queue.countP fun (r : SlipRec) => r.printed) ∧
      (SlipQueueRight s → (s.slips.queue.map fun (o : SlipRec) => o.number).Nodup →
        ∃ made : List SlipRec,
          u.slips.queue = (s.slips.queue.filter fun (r : SlipRec) => !r.printed) ++ made ∧
          (made.map fun (r : SlipRec) => (r.job, r.leg)) =
            s.slips.owed.take (s.slips.queue.countP fun (r : SlipRec) => r.printed) ∧
          (∀ (i : Nat) (r : SlipRec), made[i]? = some r →
            r.number = (s.slips.nextNumber - 1 + i) % 9999 + 1 ∧ r.printed = false ∧ r.collected = false) ∧
          u.slips.nextNumber = (s.slips.nextNumber - 1 + made.length) % 9999 + 1))

/-- WRITE_SETTING checks its number, its form and the call fields in that order, brings a number into its
range and onto its step, refuses what breaks the spacings of R190, stores it whole and answers the value as
stored, CLAMPED when it was brought (R188 to R191). The table of R188 is written out: each number's setting
number, range, step and field, and beside it DRUM_IDLE, MAKE_BREAK and POSITION_SOURCE with their codes. -/
def Obligations.SettingsAreBroughtIntoRangeAndStored : Prop :=
  (∀ (n least most grain : Nat) (read : Settings → Nat) (write : Settings → Nat → Settings),
    (n, least, most, grain, read, write) ∈ (
      [(2, 1000, 2000, 1, (·.blackHz), fun g v => { g with blackHz := v }),
       (3, 1800, 2800, 1, (·.whiteHz), fun g v => { g with whiteHz := v }),
       (4, 800, 1400, 1, (·.bridgeHz), fun g v => { g with bridgeHz := v }),
       (5, 800, 1400, 1, (·.stopHz), fun g v => { g with stopHz := v }),
       (6, 900, 2100, 1, (·.readyHz), fun g v => { g with readyHz := v }),
       (7, 1, 10, 1, (·.stopTime), fun g v => { g with stopTime := v }),
       (8, 10, 60, 1, (·.phasingRevs), fun g v => { g with phasingRevs := v }),
       (9, 5, 30, 1, (·.resumeRevs), fun g v => { g with resumeRevs := v }),
       (10, 15, 120, 1, (·.answerTimeout), fun g v => { g with answerTimeout := v }),
       (11, 10, 60, 1, (·.prepareLimit), fun g v => { g with prepareLimit := v }),
       (12, 5, 60, 1, (·.bridgeLimit), fun g v => { g with bridgeLimit := v }),
       (13, 5, 30, 1, (·.answerbackWindow), fun g v => { g with answerbackWindow := v }),
       (14, 30, 900, 1, (·.redialInterval), fun g v => { g with redialInterval := v }),
       (16, 1, 255, 1, (·.drumGain), fun g v => { g with drumGain := v }),
       (17, 0, 3, 1, (·.lockClass), fun g v => { g with lockClass := v }),
       (18, 0, 1023, 1, (·.startDuty60), fun g v => { g with startDuty60 := v }),
       (19, 0, 1023, 1, (·.startDuty90), fun g v => { g with startDuty90 := v }),
       (20, 0, 1023, 1, (·.startDuty120), fun g v => { g with startDuty120 := v }),
       (21, 256, 2048, 1, (·.lampMin), fun g v => { g with lampMin := v }),
       (22, 50, 200, 1, (·.toneOn), fun g v => { g with toneOn := v }),
       (23, 50, 200, 1, (·.toneOff), fun g v => { g with toneOff := v }),
       (25, 100, 1500, 100, (·.interdigit), fun g v => { g with interdigit := v }),
       (26, 1, 15, 1, (·.pauseTime), fun g v => { g with pauseTime := v }),
       (27, 100, 1500, 100, (·.flashTime), fun g v => { g with flashTime := v }),
       (28, 1, 10, 1, (·.guardTime), fun g v => { g with guardTime := v })] :
        List (Nat × Nat × Nat × Nat × (Settings → Nat) × (Settings → Nat → Settings))) →
    settingKind? n = some (.number least most grain) ∧ ∀ (g : Settings) (v : Nat),
      g.number n = read g ∧ g.store v n = write g v) ∧
  (∀ n least most grain, settingKind? n = some (.number least most grain) →
    2 ≤ n ∧ n ≤ 28 ∧ n ≠ 15 ∧ n ≠ 24) ∧
  (∀ g : Settings, g.number 15 = g.drumIdle ∧
    g.number 24 = (match g.makeBreak with | .mb4060 => 0 | .mb3367 => 1) ∧
    g.number 29 = (match g.positionSource with | .timer => 0 | .encoder => 1)) ∧
  (∀ (lk : Link) (b n : Byte) (val : List Byte) (s : State), Taken codeWriteSetting lk b (n :: val) s →
    ((n.toNat = 0 ∨ 29 < n.toNat ∨ (n.toNat ≠ 1 ∧ val.length ≠ 2)) → exec (.writeSetting lk b) s =
      .next (placeReply lk { result := .badArgument, data := .empty } (takeRequest lk s))) ∧
    (n = 1 →
      ((¬ ∃ ds, 1 ≤ ds.length ∧ ds.length ≤ 8 ∧ digitsText ds = val) → exec (.writeSetting lk b) s =
        .next (placeReply lk { result := .badArgument, data := .empty } (takeRequest lk s))) ∧
      ∀ ds, 1 ≤ ds.length → ds.length ≤ 8 → digitsText ds = val → exec (.writeSetting lk b) s = .next
        (if s.legActive ∨ s.line.state = .talk then
          placeReply lk { result := .lineBusy, data := .empty } (takeRequest lk s)
         else placeReply lk { result := .ok, data := .bytes val }
          { takeRequest lk s with settings := { s.settings with stationCode := ds } }))) ∧
  (∀ (lk : Link) (b n hi lo : Byte) (s : State) (least most grain : Nat),
    Taken codeWriteSetting lk b [n, hi, lo] s →
    settingKind? n.toNat = some (.number least most grain) →
    let v := 256 * hi.toNat + lo.toNat
    let kept := (max least (min most v)) / grain * grain
    let g := s.settings.store kept n.toNat
    let far := (n.toNat ∈ [2, 3] → g.blackHz + 300 ≤ g.whiteHz) ∧
      (n.toNat ∈ [4, 5] → g.bridgeHz + 100 ≤ g.stopHz ∨ g.stopHz + 100 ≤ g.bridgeHz)
    ((n.toNat ∉ [14, 28] ∧ (s.legActive = true ∨ s.line.state = .talk)) →
      exec (.writeSetting lk b) s =
        .next (placeReply lk { result := .lineBusy, data := .empty } (takeRequest lk s))) ∧
    ((n.toNat ∈ [14, 28] ∨ (s.legActive = false ∧ s.line.state ≠ .talk)) →
      (¬ far → exec (.writeSetting lk b) s =
        .next (placeReply lk { result := .badArgument, data := .empty } (takeRequest lk s))) ∧
      (far → exec (.writeSetting lk b) s = .next (placeReply lk
        { result := if kept = v then .ok else .clamped, data := .bytes (be2 kept) }
        { takeRequest lk s with settings := g })))) ∧
  (∀ (lk : Link) (b hi lo : Byte) (s : State), Taken codeWriteSetting lk b [15, hi, lo] s →
    let v := 256 * hi.toNat + lo.toNat
    let kept := if v = 0 then 0 else max 10 (min 600 v)
    let t := { takeRequest lk s with settings := { s.settings with drumIdle := kept } }
    exec (.writeSetting lk b) s = .next (placeReply lk
      { result := if kept = v then .ok else .clamped, data := .bytes (be2 kept) }
      (if idleStopDue t then drumBraking t else t))) ∧
  ∀ (lk : Link) (b n hi lo : Byte) (s : State), Taken codeWriteSetting lk b [n, hi, lo] s →
    n = 24 ∨ n = 29 →
    let v := 256 * hi.toNat + lo.toNat
    exec (.writeSetting lk b) s = .next
      (if 1 < v then placeReply lk { result := .badArgument, data := .empty } (takeRequest lk s)
       else if s.legActive ∨ s.line.state = .talk then
        placeReply lk { result := .lineBusy, data := .empty } (takeRequest lk s)
       else placeReply lk { result := .ok, data := .bytes [0, lo] } { takeRequest lk s with
        settings :=
          if n = 24 then { s.settings with makeBreak := if v = 0 then .mb4060 else .mb3367 }
          else { s.settings with positionSource := if v = 0 then .timer else .encoder } })

/-- WRITE_CURVE replaces the whole curve by 17 points that do not fall, refused while a leg is ACTIVE or the
line in TALK (R193). SET_CLOCK sets day, second and a cycle count of 0 (R195), and at the end of each second
the clock advances (R194); either prompts the arbiter when a mounted job's RETRY_WAIT leg is reached (R17;
that it does so at each comparison is the model's choice: assumption log 30). A not-before time set across the
wrap of day 65535 is not reached until the clock itself wraps (R17, R194); that the model keeps a mark for it,
which the wrap alone clears, is its choice (assumption log 41), and so is that CLOCK_SECOND before a second has
fallen due changes nothing but time (assumption log 3). -/
def Obligations.CurveAndClockAreSetAndSecondsPass : Prop :=
  (∀ (lk : Link) (b : Byte) (args : List Byte) (s : State), Taken codeWriteCurve lk b args s →
    (¬ (args.map BitVec.toNat).Pairwise (· ≤ ·) → exec (.writeCurve lk b) s =
      .next (placeReply lk { result := .curveBad, data := .empty } (takeRequest lk s))) ∧
    ((args.map BitVec.toNat).Pairwise (· ≤ ·) → (s.legActive = true ∨ s.line.state = .talk) →
      exec (.writeCurve lk b) s =
        .next (placeReply lk { result := .lineBusy, data := .empty } (takeRequest lk s))) ∧
    ((args.map BitVec.toNat).Pairwise (· ≤ ·) → s.legActive = false → s.line.state ≠ .talk →
      ∃ c : Vector Nat 17, c.toList = args.map BitVec.toNat ∧ exec (.writeCurve lk b) s =
        .next (placeReply lk { result := .ok, data := .empty } { takeRequest lk s with curve := c }))) ∧
  (∀ (lk : Link) (b d1 d0 s2 s1 s0 : Byte) (s : State),
    Taken codeSetClock lk b [d1, d0, s2, s1, s0] s →
    let day := 256 * d1.toNat + d0.toNat
    let second := 65536 * s2.toNat + 256 * s1.toNat + s0.toNat
    let t := { takeRequest lk s with
      clock := { day := day, second := second, cycles := 0 }
      aux := { s.aux with crystalFrac := 0, secondsDue := 0 } }
    exec (.setClock lk b) s = .next
      (if 86399 < second then
        placeReply lk { result := .badArgument, data := .empty } (takeRequest lk s)
       else placeReply lk { result := .ok, data := .empty } (if retryReached t then prompt t else t))) ∧
  (∀ (dt : Nat) (s : State),
    let t := elapse dt s
    let wraps := 65535 ≤ t.clock.day ∧ 86399 ≤ t.clock.second
    let u := { t with
      clock := { t.clock with
        day := if t.clock.second < 86399 then t.clock.day else (t.clock.day + 1) % 65536
        second := if t.clock.second < 86399 then t.clock.second + 1 else 0 }
      aux := { t.aux with secondsDue := t.aux.secondsDue - 1 }
      jobs := if wraps then t.jobs.map fun e => e.map fun x => { x with legs := x.legs.map fun g =>
          if g.state = .retryWait then { g with
            notBefore := g.notBefore.map fun due => { time := due.time, acrossWrap := false } }
          else g }
        else t.jobs }
    exec (.clockSecond dt) s =
      .next (if t.aux.secondsDue = 0 then t else if retryReached u then prompt u else u)) ∧
  ∀ s : State, retryReached s = true ↔ ∃ j x g due, s.mounted? = some j ∧ s.job? j = some x ∧
    g ∈ x.legs ∧ g.state = .retryWait ∧ g.notBefore = some due ∧ due.acrossWrap = false ∧
    (due.time.day < s.clock.day ∨
      (due.time.day = s.clock.day ∧ due.time.second ≤ s.clock.second))

/-! ### The line: talk, leg starts, calls and their ends -/

/-- A talk that is granted: call kind TALK, its route copy in the dial buffer, no talk pending any more, and
the line seizes, its hook closed and its 300 ms window timed (R123, R125). -/
def Sys2Proof.talkSeizes (copy : Option DialBuf) (s : State) : State :=
  (lineBecomes .seize { s with
    line := { s.line with kind := some .talk, pendingTalk := none }
    dialBuf := copy }).startLimit .seizeWindow 300000

/-- A talk that is released: the dialer stopped, the modulator SILENT, call kind none, the loop monitor
stopped, the ending recorded; the line enters GUARD with GUARD_TIME timed, and the blocks of a call are
emptied (R36, R145, R148, R149). -/
def Sys2Proof.talkReleased (e : TalkEnding) (s : State) : State :=
  callGone ((lineBecomes .guard { s with
    dialer := { s.dialer with state := .idle, breaks := 0, left := 0 }
    modu := s.modu.silence
    line := { s.line with
      kind := none, monitor := none, lastEnding := some (.talk e s.stamp) } }).startLimit .guardTime
      (1000000 * s.settings.guardTime))

/-- A route of TALK as it is copied: none when none is given, the SET record of a directory index, or the
explicit route itself (R34, R35). -/
def Sys2Proof.talkCopies (s : State) (args : List Byte) (copy : Option DialBuf) : Prop :=
  (args = [] ∧ copy = none) ∨
  (∃ i x, parseRoute args = .ok (.directory i) ∧ s.routes[i]? = some (some x) ∧
    copy = some { source := .directory i, dial := x.dial, code := x.code }) ∨
  ∃ d, parseRoute args = .ok (.explicit d) ∧ copy = some { source := .explicit, dial := d, code := none }

/-- TALK, after the checks of its route, by the line state (R35, R147). -/
def Obligations.TalkIsGrantedHeldOrRefusedByTheLineState : Prop :=
  ∀ (lk : Link) (b : Byte) (args : List Byte) (s : State), Taken codeTalk lk b args s →
    (∀ r, args ≠ [] → parseRoute args = .error r → exec (.talk lk b) s =
      .next (placeReply lk { result := r, data := .empty } (takeRequest lk s))) ∧
    (∀ i : Nat, args ≠ [] → parseRoute args = .ok (.directory i) → s.routes[i]? = some none →
      exec (.talk lk b) s =
        .next (placeReply lk { result := .routeBad, data := .empty } (takeRequest lk s))) ∧
    ∀ copy, talkCopies s args copy →
      (s.line.state = .idle → exec (.talk lk b) s =
        .next (placeReply lk { result := .ok, data := .empty } (talkSeizes copy (takeRequest lk s)))) ∧
      (s.line.state = .guard → s.line.pendingTalk = none → exec (.talk lk b) s =
        .next (placeReply lk { result := .ok, data := .empty } { takeRequest lk s with
          line := { s.line with pendingTalk := some { route := copy } } })) ∧
      ((s.line.state = .stop ∨ s.line.state = .answerback) → copy = none → s.line.talkAfter = false →
        exec (.talk lk b) s = .next (placeReply lk { result := .ok, data := .empty }
          { takeRequest lk s with line := { s.line with talkAfter := true } })) ∧
      ((s.line.state = .guard ∧ s.line.pendingTalk ≠ none) ∨
        ((s.line.state = .stop ∨ s.line.state = .answerback) ∧
          (copy ≠ none ∨ s.line.talkAfter = true)) ∨
        s.line.state ∉ [.idle, .guard, .stop, .answerback] →
        exec (.talk lk b) s =
          .next (placeReply lk { result := .lineBusy, data := .empty } (takeRequest lk s)))

/-- END_TALK by the line state (R149). -/
def Obligations.EndTalkReleasesWithdrawsOrIsRefused : Prop :=
  ∀ (lk : Link) (b : Byte) (s : State), Taken codeEndTalk lk b [] s →
    ((s.line.state = .talk ∨
        ((s.line.state = .seize ∨ s.line.state = .dial) ∧ s.line.kind = some .talk)) →
      exec (.endTalk lk b) s = .next (placeReply lk { result := .ok, data := .empty }
        (talkReleased .endTalk (takeRequest lk s)))) ∧
    (s.line.state = .guard → s.line.pendingTalk ≠ none → exec (.endTalk lk b) s =
      .next (placeReply lk { result := .ok, data := .empty } { takeRequest lk s with
        line := { s.line with pendingTalk := none } })) ∧
    ((s.line.state = .stop ∨ s.line.state = .answerback) → s.line.talkAfter = true →
      exec (.endTalk lk b) s = .next (placeReply lk { result := .ok, data := .empty }
        { takeRequest lk s with line := { s.line with talkAfter := false } })) ∧
    (((s.line.state = .seize ∨ s.line.state = .dial) ∧ s.line.kind ≠ some .talk) ∨
      (s.line.state = .guard ∧ s.line.pendingTalk = none) ∨
      ((s.line.state = .stop ∨ s.line.state = .answerback) ∧ s.line.talkAfter = false) ∨
      s.line.state ∉ [.talk, .seize, .dial, .guard, .stop, .answerback] →
      exec (.endTalk lk b) s =
        .next (placeReply lk { result := .wrongState, data := .empty } (takeRequest lk s)))

/-- A leg of a job may start: it is PENDING, or RETRY_WAIT with its not-before time reached, which lies across
no wrap of the clock still to come (R12, R17, R194; the mark of the wrap: assumption log 41). -/
def Sys2Proof.mayStart (now : Stamp) (g : Leg) : Prop :=
  g.state = .pending ∨ (g.state = .retryWait ∧ ∃ due, g.notBefore = some due ∧ due.acrossWrap = false ∧
    (due.time.day < now.day ∨ (due.time.day = now.day ∧ due.time.second ≤ now.second)))

/-- The line is IDLE with no talk pending, the queue not held, no leg end to be acknowledged, and job j
MOUNTED with leg l its first that may start, no leg ACTIVE and no cancel pending (R12, R123). -/
def Sys2Proof.legIsNext (s : State) (j l : Nat) (x : Job) (g : Leg) : Prop :=
  s.line.state = .idle ∧ s.line.pendingTalk = none ∧ s.mountQueue.hold = none ∧
  ¬ (s.modes.attended = true ∧ s.modes.legEnd = true) ∧
  s.mounted? = some j ∧ s.job? j = some x ∧ x.legs[l]? = some g ∧ mayStart s.stamp g ∧
  (∀ (k : Nat) (h : Leg), k < l → x.legs[k]? = some h → ¬ mayStart s.stamp h) ∧
  x.cancelPending = false ∧ ∀ h ∈ x.legs, h.state ≠ .active

/-- The drum with no demand: duty 0, target, demand and idle time none, counts 0, the brake on but in
STOPPED, the braking time from 0 in BRAKING alone (R43, R55, R60, R63). -/
def Sys2Proof.drumRests (st : DrumState) (cause : Option FaultCause) (d : Drum) : Drum :=
  { d with
    state := st, target := none, demand := none, duty := 0, brake := st != .stopped, lockCount := 0
    slipRevs := 0, goodCount := 0, faultCause := cause, idleTime := none, spinupTime := none
    brakingTime := if st = .braking then some 0 else none }

/-- The drum at full drive toward its target: duty 1023, brake off, counts 0, the spin-up time from 0, and
target and demand as they stand (R47). -/
def Sys2Proof.drumSpinsUp (d : Drum) : Drum :=
  { d with
    state := .spinup, duty := 1023, brake := false, lockCount := 0, slipRevs := 0, goodCount := 0
    spinupTime := some 0, brakingTime := none }

/-- The LOST event with the cover closed: the report to the scanner and then to the line unit, the DRUM cause
event, and SPINUP with target and demand kept (R54). -/
def Sys2Proof.lostLock (s : State) : State :=
  let t := (reportLost s).causeDrum
  { t with drum := drumSpinsUp t.drum }

/-- The state once leg l of job j has seized the line: the leg ACTIVE with one more attempt, the call's fields
of the line, the snapshot in the dial buffer, SEIZE with its 300 ms window (R12, R13, R124, R125). -/
def Sys2Proof.legSeizes (j l : Nat) (x : Job) (g : Leg) (copy : DialBuf) (s : State) : State :=
  (lineBecomes .seize { s with
    jobs := (s.setJob j (some { x with legs := x.legs.set l { g with
      state := .active, notBefore := none, attempts := g.attempts + 1
      firstAttempt := g.firstAttempt.or (some s.stamp) } })).jobs
    line := { s.line with
      kind := some .leg, active := some (j, l), jobSpeed := some x.speed, jobS := some x.samples
      jobT := some x.lineCount }
    dialBuf := some copy }).startLimit .seizeWindow 300000

/-- The state once the position timer is loaded for a job and the scanner prepares from a line: RUNNING with
no position, WAIT_DRUM with the lamp off, and the head asked for that line (R69, R86). -/
def Sys2Proof.picturePrepares (x : Job) (resume : Nat) (s : State) : State :=
  positioningRequest resume { s with
    posTimer :=
      { running := true, samples := some x.samples, gap := some (x.samples / 8)
        positions := some (x.samples + x.samples / 8), speed := some x.speed
        source := some s.settings.positionSource, heldPeriod := s.posTimer.heldPeriod
        interval := none, counter := none, lastRev := none }
    scan :=
      { state := .waitDrum, lamp := false, jobS := some x.samples, jobT := some x.lineCount
        jobSpeed := some x.speed, resumeLine := some resume, headReady := false
        inTransmission := false, dark := s.scan.dark, white := s.scan.white
        lastWhite := s.scan.lastWhite, lampLow := false, warmRevs := 0, measuring := .none
        tracking := .none, report := .none, filling := none }
    aux := { s.aux with sinceIndex := 0, spanEnded := false } }

/-- What a prompt of the arbiter grants, in the order of R123: nothing unless the line is IDLE; a pending
talk, whatever else waits; nothing while the queue is held, a leg end is not acknowledged, or no job is
MOUNTED or none of its legs may start. A leg that starts with a good snapshot becomes ACTIVE with one more
attempt and seizes the line with the snapshot; the drum is given the job's speed under JOB demand, the position
timer is loaded and the scanner prepares from the leg's lines sent (R12, R13, R69, R86, R124). A drum at rest
with its cover closed spins up; one in SPINUP, or tracking this speed already, runs on; one tracking another
speed goes to LOCKING, and loses its lock at once if the new index timeout has passed (R47, R53, R56). A drum
in FAULT, or at rest with its cover open, enters FAULT, braked, with the queue held before the report, and the
call ends DRUM with the machine-fault mark (R56, R63, R197). That the last revolution is cleared is the
model's choice (assumption log 13), and so is an index timeout that has just been reached and not passed
(assumption log 16). -/
def Obligations.ArbiterGrantsTheLineInOrder : Prop :=
  (∀ s : State, s.line.state ≠ .idle → prompt s = s) ∧
  (∀ (s : State) (p : PendingTalk), s.line.state = .idle → s.line.pendingTalk = some p →
    prompt s = talkSeizes p.route s) ∧
  (∀ s : State, s.line.state = .idle → s.line.pendingTalk = none →
    (s.mountQueue.hold ≠ none ∨ (s.modes.attended = true ∧ s.modes.legEnd = true) ∨ s.mounted? = none ∨
      ∃ j x, s.mounted? = some j ∧ s.job? j = some x ∧ ∀ g ∈ x.legs, ¬ mayStart s.stamp g) →
    prompt s = s) ∧
  ∀ (s : State) (j l : Nat) (x : Job) (g : Leg) (copy : DialBuf), legIsNext s j l x g →
    ((∃ d, g.route = .explicit d ∧ copy = { source := .explicit, dial := d, code := none }) ∨
      ∃ i r, g.route = .directory i ∧ s.routes[i]? = some (some r) ∧
        copy = { source := .directory i, dial := r.dial, code := r.code }) →
    let t := legSeizes j l x g copy s
    let d := { s.drum with demand := some .job, idleTime := none, target := some x.speed }
    let starts (u : State) : Prop := prompt s = picturePrepares x g.linesSent u
    let rests := s.drum.state = .stopped ∨ s.drum.state = .braking
    let tracks := s.drum.state ∈ [.locking, .locked, .slip]
    (rests → s.drum.coverOpen = false → starts { t with drum := drumSpinsUp d }) ∧
    (s.drum.state = .spinup ∨ (tracks ∧ s.drum.target = some x.speed) → starts { t with drum := d }) ∧
    (tracks → s.drum.target ≠ some x.speed →
      let u := { t with drum := { d with state := .locking, lockCount := 0, spinupTime := none } }
      starts (if s.drum.indexTime ≤ 2 * pNom x.speed then u else lostLock u)) ∧
    ((rests ∧ s.drum.coverOpen = true) ∨ s.drum.state = .fault →
      let cause := if s.drum.state = .fault then s.drum.faultCause else some .coverOpen
      let faulty := { t with
        drum := drumRests .fault cause s.drum
        mountQueue := { t.mountQueue with hold := some .drumFault } }.causeQueue
      prompt s = callEnd (.reason .drum true) false
        (picturePrepares x g.linesSent (scanLost faulty).causeFault))

/-- A leg whose directory entry is EMPTY at its start ends FAILED with NO_ROUTE and no attempt: the line
stays IDLE with no call, the ending is recorded, the leg-end report is sent, and the arbiter looks again
(R12, R15, R124). A job holds at most 4 legs (R2). -/
def Obligations.ALegWithNoRouteFailsAndTheArbiterLooksAgain : Prop :=
  ∀ (s : State) (j l i : Nat) (x : Job) (g : Leg), OneMountedOneActive s → legIsNext s j l x g →
    x.legs.length ≤ 4 →
    g.route = .directory i → s.routes[i]? = some none →
    ∃ u, prompt s = prompt u ∧ u.line.state = .idle ∧ u.line.kind = none ∧ u.line.active = none ∧
      u.line.jobSpeed = none ∧ u.line.jobS = none ∧ u.line.jobT = none ∧ u.dialBuf = none ∧
      u.line.lastEnding = some (.leg j l (.reason .noRoute false) s.stamp) ∧
      u.modes = { s.modes with legEnd := s.modes.legEnd || s.modes.attended } ∧
      ∃ y owed, u.job? j = some y ∧ y.legs = x.legs.set l
        (legEndedAs { g with lastReason := some .noRoute } .failed s.stamp owed)

/-- What a leg becomes at the end of its call (R15). The mark of a not-before time set across the wrap of day
65535 is the model's (R17, R194; assumption log 41). -/
def Sys2Proof.legResult (s : State) (x : Job) (g : Leg) (res : LegResult) (h : Leg) : Prop :=
  match res with
  | .delivered o ab gb => ∃ owed, h = legEndedAs { g with answerback := ab, garbled := gb }
      (match o with
        | .confirmed => .confirmed
        | .unconfirmed => .unconfirmed
        | .wrongStation => .wrongStation) s.stamp owed
  | .cancelled => ∃ owed, h = legEndedAs g .cancelled s.stamp owed
  | .reason r mf =>
    let k := { g with lastReason := some r }
    if r = .noRoute then ∃ owed, h = legEndedAs k .failed s.stamp owed
    else if x.cancelPending then ∃ owed, h = legEndedAs k .cancelled s.stamp owed
    else if g.attempts < x.retries + 1 then
      h = { k with
        state := .retryWait
        notBefore := some (if mf then { time := s.stamp, acrossWrap := false }
          else
            let day := s.clock.day + (s.clock.second + s.settings.redialInterval) / 86400
            { time :=
                { day := day % 65536, second := (s.clock.second + s.settings.redialInterval) % 86400 }
              acrossWrap := decide (65536 ≤ day) }) }
    else ∃ owed, h = legEndedAs k .failed s.stamp owed

/-- A leg's call ends with one result (R15, R144): the leg takes what R15 gives for it, the result is
recorded, the leg-end flag is set in attended mode, the idle time starts under JOB demand; the dialer and
the mark stop, the modulator is SILENT with its call's fields cleared, the ring is empty, the scanner IDLE,
the position timer unloaded and the dial buffer empty. The line goes to GUARD with GUARD_TIME timed, or with
talk-after and no loop loss to TALK, where the loop monitor runs on (assumption log 12). -/
def Obligations.CallEndsByItsResult : Prop :=
  ∀ (s : State) (res : LegResult) (loopLoss : Bool) (j l : Nat) (x : Job) (g : Leg),
    s.line.active = some (j, l) → s.job? j = some x → x.legs[l]? = some g → g.state = .active →
    let t := callEnd res loopLoss s
    let talk := s.line.talkAfter && !loopLoss
    t = { s with
      jobs := t.jobs, mountQueue := t.mountQueue, slips := t.slips, modes := t.modes, drum := t.drum
      dialer := t.dialer, markGen := t.markGen, modu := t.modu, line := t.line, ring := t.ring
      scan := t.scan, posTimer := t.posTimer, dialBuf := none, aux := t.aux
      deskAttn := t.deskAttn, panelAttn := t.panelAttn } ∧
    (∃ y h, t.job? j = some y ∧ y.legs = x.legs.set l h ∧ legResult s x g res h) ∧
    t.line = { s.line with
      state := if talk then .talk else .guard
      hook := talk, relay := talk, detector := .off
      timer := if talk then none
        else some { limit := .guardTime, left := 1000000 * s.settings.guardTime }
      kind := if talk then some .talk else none
      active := none, jobSpeed := none, jobS := none, jobT := none, prepared := false
      pictureReached := false, closing := none, talkAfter := false
      monitor := if talk then s.line.monitor else none
      lastEnding := some (.leg j l res s.stamp) } ∧
    t.modes = { s.modes with legEnd := s.modes.legEnd || s.modes.attended } ∧
    t.drum = { s.drum with
      idleTime := if s.drum.demand = some .job then some 0 else s.drum.idleTime } ∧
    t.dialer = { s.dialer with state := .idle, breaks := 0, left := 0 } ∧
    t.markGen = { s.markGen with step := .idle, symbols := [], completed := 0, left := 0 } ∧
    t.modu = { s.modu with
      mode := .silent, freq := none, dac := 128, sendingSlot := none, lead := false
      phasingCount := 0, phasingTarget := none, linesCopy := none, lineCount := none } ∧
    t.ring = Vector.replicate 4 .free ∧
    t.scan = { Scanner.reset with
      dark := s.scan.dark, white := s.scan.white, lastWhite := s.scan.lastWhite } ∧
    t.posTimer = { PosTimer.reset with
      heldPeriod := s.posTimer.heldPeriod, lastRev := s.posTimer.lastRev }

/-- A limit of the state timer is being timed and has run out. -/
def Sys2Proof.limitRunsOut (l : Limit) (s : State) : Prop := s.line.timer = some { limit := l, left := 0 }

/-- Up to the transmission (R125, R127, R130 to R134, R148): SEIZE_WINDOW_END reads the loop and goes on to
DIAL, to TALK, to the LINE_DEAD ending or to a NO_LOOP release; a ready event of two seconds' tone within 25
Hz joins with a prepared scanner or waits for it; ANSWER_TIMEOUT ends NO_ANSWER and PREPARE_LIMIT NOT_READY;
GUARD_TIME's end makes the line IDLE and prompts the arbiter (R145); LOOP_SENSE_CHANGE is followed by the pin
and by a running monitor. The scanner's PREPARED report is recorded, or in PREPARE_WAIT joins; a withdrawn one is
forgotten. The ready event is R128's: a tone within 25 Hz of READY_HZ as read, 2 s without a break since the
detector's mode was set; that READY_EVENT carries the tone and its time is the model's reading (assumption log
22). That an event which is not due changes nothing but time is the model's choice (assumption log 3). -/
def Obligations.CallEventsUpToTheTransmission : Prop :=
  (∀ (dt : Nat) (loop : Bool) (s : State), limitRunsOut .seizeWindow (elapse dt s) →
    let t := elapse dt s
    let u := { t with pins := { t.pins with loop := loop } }
    let dial := { lineBecomes .dial u with dialer := { u.dialer with position := 0 } }
    let speech := modSilent (lineBecomes .talk u)
    exec (.seizeWindowEnd dt loop) s = .next
      (if t.line.kind = some .talk then
        if loop = false then talkReleased .noLoop u
        else if t.dialBuf ≠ none then dialNext dial
        else { speech with line := { speech.line with monitor := some 0 }, dialBuf := none }
       else if loop then dialNext dial
       else callEnd (.reason .lineDead false) false u)) ∧
  (∀ (dt freq held : Nat) (s : State),
    let t := elapse dt s
    t.line.detector = .ready → freq ≤ t.aux.readyHz + 25 → t.aux.readyHz ≤ freq + 25 →
    2000000 ≤ held → 2000000 ≤ t.aux.detTime →
    exec (.readyEvent dt freq held) s = .next
      (if t.line.prepared then
        startMark (lineBecomes .mark (scanTransmission { t with
          modu := { t.modu with linesCopy := some (activeLinesSent t), lineCount := t.line.jobT } }))
       else (lineBecomes .prepareWait t).startLimit .prepareLimit
        (1000000 * t.settings.prepareLimit))) ∧
  (∀ (dt freq held : Nat) (s : State),
    let t := elapse dt s
    (t.line.detector ≠ .ready ∨ t.aux.readyHz + 25 < freq ∨ freq + 25 < t.aux.readyHz ∨ held < 2000000 ∨
      t.aux.detTime < 2000000) → exec (.readyEvent dt freq held) s = .next t) ∧
  (∀ s : State,
    (s.line.kind = some .leg → s.line.state ∈ [.seize, .dial, .awaitReady] →
      linePrepared s = { s with line := { s.line with prepared := true } }) ∧
    (s.line.kind = some .leg → s.line.state = .prepareWait → linePrepared s =
      startMark (lineBecomes .mark (scanTransmission { s with
        modu := { s.modu with linesCopy := some (activeLinesSent s), lineCount := s.line.jobT } }))) ∧
    ((s.line.kind ≠ some .leg ∨ s.line.state ∉ [.seize, .dial, .awaitReady, .prepareWait]) →
      linePrepared s = s) ∧
    lineWithdrawn s = { s with line := { s.line with prepared := false } } ∧
    ∀ j l g, s.line.active = some (j, l) → s.leg? j l = some g → activeLinesSent s = g.linesSent) ∧
  (∀ (dt : Nat) (s : State),
    let t := elapse dt s
    (limitRunsOut .answerTimeout t → exec (.answerTimeoutExpiry dt) s =
      .next (callEnd (.reason .noAnswer false) false t)) ∧
    (limitRunsOut .prepareLimit t → exec (.prepareLimitExpiry dt) s =
      .next (callEnd (.reason .notReady false) false t)) ∧
    (limitRunsOut .guardTime t → exec (.guardTimeExpiry dt) s = .next (prompt (lineBecomes .idle t))) ∧
    ∀ present, exec (.loopSenseChange dt present) s = .next { t with
      pins := { t.pins with loop := present }
      line := { t.line with
        monitor := if present then t.line.monitor.map fun _ => 0 else t.line.monitor } }) ∧
  ∀ (dt : Nat) (s : State), (∀ l, ¬ limitRunsOut l (elapse dt s)) →
    (∀ loop, exec (.seizeWindowEnd dt loop) s = .next (elapse dt s)) ∧
    exec (.answerTimeoutExpiry dt) s = .next (elapse dt s) ∧
    exec (.prepareLimitExpiry dt) s = .next (elapse dt s) ∧
    exec (.guardTimeExpiry dt) s = .next (elapse dt s)

/-- The ring once the scanner has given up the line it fills, in a state that fills one: the slot is FREE, its
levels discarded (R98, R106). -/
def Sys2Proof.slotGivenUp (s : State) : Vector Slot 4 :=
  match s.scan.filling with
  | some f =>
    if s.scan.state = .prepared ∨ s.scan.state = .capturing then s.ring.setIfInBounds f.slot .free
    else s.ring
  | none => s.ring

/-- A slot once the modulator has given up the line it sends: SENDING goes back to FULL with its line and its
levels, and every other slot stays (R106, R116). -/
def Sys2Proof.slotHeld : Slot → Slot
  | .sending n ls => .full n ls
  | .free => .free
  | .filling n ls => .filling n ls
  | .full n ls => .full n ls

/-- A closing and an abort (R140, R146): the line state stays, a slot being filled is FREE again and one being
sent goes back FULL, unsent (R98, R116), a mark
stops, the stop tone sounds and the scanner halts while STOP_TIME is timed; an abort before the transmission
ends the call CANCELLED at once, and in a closing, STOP or ANSWERBACK it changes nothing. -/
def Obligations.ClosingsAndAbortsByTheLineState : Prop :=
  (∀ (s : State) (c : Closing),
    let t := beginClosing c s
    t = { s with line := t.line, modu := t.modu, markGen := t.markGen, ring := t.ring, scan := t.scan } ∧
    t.line = { s.line with
      closing := some c
      timer := some { limit := .stopTime, left := 1000000 * s.settings.stopTime } } ∧
    t.modu = { s.modu with
      mode := .stop, freq := some s.settings.stopHz
      increment := (s.settings.stopHz * 65536 + 9600) / 19200, sendingSlot := none } ∧
    t.markGen = { s.markGen with step := .idle, symbols := [], completed := 0, left := 0 } ∧
    t.ring = (slotGivenUp s).map slotHeld ∧
    (t.scan = if s.scan.state = .prepared ∨ s.scan.state = .capturing then
        { s.scan with state := .halted, tracking := .none, filling := none }
      else s.scan)) ∧
  ∀ s : State,
    (s.line.state ∈ [.seize, .dial, .awaitReady, .prepareWait] →
      abortCall s = callEnd .cancelled false s) ∧
    (s.line.state ∈ [.mark, .phasing, .picture, .bridge] → s.line.closing = none →
      abortCall s = beginClosing .abort s) ∧
    ((s.line.state ∈ [.idle, .guard, .stop, .answerback, .talk] ∨
      (s.line.state ∈ [.mark, .phasing, .picture, .bridge] ∧ s.line.closing ≠ none)) → abortCall s = s)

/-- From the transmission to the end (R127, R139 to R143): BRIDGE_LIMIT begins its closing; STOP_TIME's end
ends a closing with its result, and leads from STOP to ANSWERBACK; a symbol joins the answerback, and a #
parses it, a thirteenth symbol garbles it; the window's end with nothing heard ends UNCONFIRMED and otherwise
runs the deadline, which garbles; a loop lost for 400 ms ends the call by its state. A symbol is R129's: a pair
of the keypad of R38, whose twelve pairs of tones are written out, both tones for 40 ms without a break since the
detector's mode was set, and parted from the symbol before by 40 ms with no pair, for which there has been time
since that symbol was taken: a pair held on gives no second symbol. That SYMBOL_DETECTED carries the two tones,
exactly those of a key, and their times is the model's reading (assumption log 22). That an event which is not due changes nothing but time is the
model's choice (assumption log 3). -/
def Obligations.CallEventsFromTheTransmissionOn : Prop :=
  (∀ (k : KeySym) (rowHz colHz : Nat), (rowTone k = rowHz ∧ colTone k = colHz) ↔ (k, rowHz, colHz) ∈ (
      [(.digit 1, 697, 1209), (.digit 2, 697, 1336), (.digit 3, 697, 1477), (.digit 4, 770, 1209),
       (.digit 5, 770, 1336), (.digit 6, 770, 1477), (.digit 7, 852, 1209), (.digit 8, 852, 1336),
       (.digit 9, 852, 1477), (.star, 941, 1209), (.digit 0, 941, 1336), (.hash, 941, 1477)] :
        List (KeySym × Nat × Nat))) ∧
  ∀ (dt : Nat) (s : State),
    let t := elapse dt s
    (limitRunsOut .bridgeLimit t → exec (.bridgeLimitExpiry dt) s = .next (beginClosing .bridgeLimit t)) ∧
    (limitRunsOut .stopTime t →
      (t.line.closing = some .abort →
        exec (.stopTimeExpiry dt) s = .next (callEnd .cancelled false t)) ∧
      (t.line.closing = some .bridgeLimit →
        exec (.stopTimeExpiry dt) s = .next (callEnd (.reason .drum false) false t)) ∧
      (t.line.closing = some .drumFault →
        exec (.stopTimeExpiry dt) s = .next (callEnd (.reason .drum true) false t)) ∧
      (t.line.closing = none → t.line.state = .stop → exec (.stopTimeExpiry dt) s =
        .next ((lineBecomes .answerback { t with
          modu := t.modu.silence, line := { t.line with answerback := [] } }).startLimit
          .answerbackWindow (1000000 * t.settings.answerbackWindow)))) ∧
    (∀ rowHz colHz held gap k, rowTone k = rowHz → colTone k = colHz → t.line.detector = .digits →
      40000 ≤ held → 40000 ≤ t.aux.detTime →
      (∀ since, t.aux.sinceSymbol = some since → 40000 ≤ gap ∧ held + 40000 ≤ since) →
      let u := { t with aux := { t.aux with sinceSymbol := some 0 } }
      let heard := t.line.answerback ++ [k]
      let v := { u with line := { u.line with answerback := heard } }
      exec (.symbolDetected dt rowHz colHz held gap) s = .next
        (if 12 ≤ t.line.answerback.length then callEnd (.delivered .unconfirmed none true) false u
         else if k = .hash then
          callEnd (answerbackResult (t.dialBuf.bind fun d => d.code) heard) false v
         else v)) ∧
    (∀ rowHz colHz held gap, ((∀ k, rowTone k ≠ rowHz ∨ colTone k ≠ colHz) ∨ t.line.detector ≠ .digits ∨
        held < 40000 ∨ t.aux.detTime < 40000 ∨
        ∃ since, t.aux.sinceSymbol = some since ∧ (gap < 40000 ∨ since < held + 40000)) →
      exec (.symbolDetected dt rowHz colHz held gap) s = .next t) ∧
    (limitRunsOut .answerbackWindow t → exec (.answerbackWindowExpiry dt) s = .next
      (if t.line.answerback = [] then callEnd (.delivered .unconfirmed none false) false t
       else t.startLimit .answerbackDeadline 10000000)) ∧
    (limitRunsOut .answerbackDeadline t → exec (.answerbackDeadline dt) s =
      .next (callEnd (.delivered .unconfirmed none true) false t)) ∧
    ((∀ l, ¬ limitRunsOut l t) →
      exec (.bridgeLimitExpiry dt) s = .next t ∧ exec (.stopTimeExpiry dt) s = .next t ∧
      exec (.answerbackWindowExpiry dt) s = .next t ∧ exec (.answerbackDeadline dt) s = .next t) ∧
    ((∀ absent, t.line.monitor = some absent → absent < 400000) → exec (.loopLost dt) s = .next t) ∧
    (∀ absent, t.line.monitor = some absent → 400000 ≤ absent → exec (.loopLost dt) s = .next
      (if t.line.state = .talk then talkReleased .loopLost t
       else if t.line.state = .stop ∨ t.line.state = .answerback then
        callEnd (.delivered .unconfirmed none false) true t
       else match t.line.closing with
        | none => callEnd (.reason .dropped false) true t
        | some .abort => callEnd .cancelled true t
        | some .bridgeLimit => callEnd (.reason .drum false) true t
        | some .drumFault => callEnd (.reason .drum true) true t)) ∧
    ∀ (expected : Option (List (Fin 10))) (code : List (Fin 10)) (grade : Fin 10) (ks : List KeySym),
      (1 ≤ code.length → code.length ≤ 8 →
        ks = code.map KeySym.digit ++ [.star, .digit grade, .hash] →
        answerbackResult expected ks = .delivered
          (if expected = none ∨ expected = some code then .confirmed else .wrongStation)
          (some { code := code, grade := grade }) false) ∧
      ((∀ (c : List (Fin 10)) (d : Fin 10), 1 ≤ c.length → c.length ≤ 8 →
          ks ≠ c.map KeySym.digit ++ [.star, .digit d, .hash]) →
        answerbackResult expected ks = .delivered .unconfirmed none true)

/-! ### The drum -/

/-- DRUM_RUN and DRUM_STOP by their checks and the drum state (R57, R58). A target that puts the index
timeout below the time already passed loses the lock at once (R53); that a time equal to it does not is the
model's choice (assumption log 16). -/
def Obligations.DrumRunAndDrumStopByTheDrumState : Prop :=
  (∀ s : State, s.legActive = true ↔ ∃ j l, legIsActive s j l) ∧
  (∀ (lk : Link) (b v : Byte) (s : State), Taken codeDrumRun lk b [v] s →
    let t := takeRequest lk s
    let refused (r : Result) := placeReply lk { result := r, data := .empty } t
    let ok (u : State) := placeReply lk { result := .ok, data := .empty } u
    (v.toNat ∉ [60, 90, 120] → exec (.drumRun lk b) s = .next (refused .badArgument)) ∧
    ∀ r : Rpm, (v.toNat, r) ∈ [(60, Rpm.rpm60), (90, .rpm90), (120, .rpm120)] →
      let d := { s.drum with demand := some .manual, idleTime := none, target := some r }
      let tracks := s.drum.state ∈ [.locking, .locked, .slip]
      (s.legActive = true → exec (.drumRun lk b) s = .next (refused .drumBusy)) ∧
      (s.legActive = false → s.drum.state = .fault →
        exec (.drumRun lk b) s = .next (refused .wrongState)) ∧
      (s.legActive = false → s.drum.state ≠ .fault → s.drum.coverOpen = true →
        exec (.drumRun lk b) s = .next (refused .notStopped)) ∧
      (s.legActive = false → s.drum.coverOpen = false →
        (s.drum.state = .stopped ∨ s.drum.state = .braking →
          exec (.drumRun lk b) s = .next (ok { t with drum := drumSpinsUp d })) ∧
        (s.drum.state = .spinup ∨ (tracks ∧ s.drum.target = some r) →
          exec (.drumRun lk b) s = .next (ok { t with drum := d })) ∧
        (tracks → s.drum.target ≠ some r →
          let u := { t with drum := { d with state := .locking, lockCount := 0, spinupTime := none } }
          exec (.drumRun lk b) s =
            .next (ok (if s.drum.indexTime ≤ 2 * pNom r then u else lostLock u))))) ∧
  ∀ (lk : Link) (b : Byte) (s : State), Taken codeDrumStop lk b [] s →
    let t := takeRequest lk s
    let ok (u : State) := placeReply lk { result := .ok, data := .empty } u
    let braked := { t with drum := drumRests .braking none s.drum }
    (s.legActive = true →
      exec (.drumStop lk b) s = .next (placeReply lk { result := .drumBusy, data := .empty } t)) ∧
    (s.legActive = false →
      exec (.drumStop lk b) s = .next (ok
        (if s.drum.state = .stopped ∨ s.drum.state = .braking then t
         else if s.drum.state = .fault ∧ 2000000 ≤ s.drum.indexTime then
          { t with drum := drumRests .stopped none s.drum }.causeDrum
         else braked)))

/-- An index at the drum controller (R45 to R47, R49 to R52, R60, R61, R63). It is counted and measured in
every state; then a stopped drum is braked, a braking drum begins its stillness time afresh, and with a
measured period P a drum in SPINUP at 1.1 P_nom or less enters LOCKING at its start duty, while LOCKING,
LOCKED and SLIP take the error e = P - P_nom and move the duty by floor(e × DRUM_GAIN / 4096), clamped to 0
to 1023: eight revolutions in tolerance lock, one beyond twice the tolerance slips, four good ones in SLIP
lock again, and the sixteenth there loses the lock. P_nom is 1,000,000 µs at 60 rpm, 666,667 at 90 and
500,000 at 120, and the tolerance's factor 5, 10, 20 or 50 by LOCK_CLASS (R46). That a count of 0 µs gives no
period is the model's choice (assumption log 17). -/
def Obligations.AnIndexMeasuresCorrectsAndTestsTheDrum : Prop :=
  (pNom .rpm60 = 1000000 ∧ pNom .rpm90 = 666667 ∧ pNom .rpm120 = 500000 ∧
    [0, 1, 2, 3].map lockFactor = [5, 10, 20, 50]) ∧
  ∀ s : State,
    let held := s.drum.indexHeld = true ∧ s.aux.indexOver = false ∧ 0 < s.drum.indexTime
    let counted (p : Option Nat) : State := { s with
      drum := { s.drum with period := p, indexTime := 0, indexHeld := true }
      aux := { s.aux with indexOver := false } }
    let set (t : State) (d : Drum) : State := { t with drum := d }
    (∀ t, (held → t = counted (some s.drum.indexTime)) → (¬ held → t = counted s.drum.period) →
      (s.drum.state = .stopped → drumIndex s = set t (drumRests .braking none t.drum)) ∧
      (s.drum.state = .braking → drumIndex s = set t { t.drum with brakingTime := some 0 }) ∧
      (s.drum.state = .fault → drumIndex s = t)) ∧
    (¬ held → s.drum.state ∉ [.stopped, .braking] → drumIndex s = counted s.drum.period) ∧
    ∀ r : Rpm, held → s.drum.target = some r →
      let p := s.drum.indexTime
      let t := counted (some p)
      let e : Int := (p : Int) - pNom r
      let tol := pNom r * lockFactor s.settings.lockClass / 10000
      let duty := (max 0 (min 1023 ((s.drum.duty : Int) + e * s.settings.drumGain / 4096))).toNat
      let d := { t.drum with lastError := some e, duty := duty }
      (s.drum.state = .spinup → drumIndex s =
        if p ≤ pNom r * 11 / 10 then
          set t { t.drum with
            state := .locking, lockCount := 0, spinupTime := none
            duty := match r with
              | .rpm60 => s.settings.startDuty60
              | .rpm90 => s.settings.startDuty90
              | .rpm120 => s.settings.startDuty120 }
        else t) ∧
      (s.drum.state = .locking → drumIndex s =
        if tol < e.natAbs then set t { d with lockCount := 0 }
        else if s.drum.lockCount = 7 then reportLocked r (set t { d with lockCount := 8, state := .locked })
        else set t { d with lockCount := s.drum.lockCount + 1 }) ∧
      (s.drum.state = .locked → drumIndex s =
        if e.natAbs ≤ 2 * tol then set t d
        else set t { d with state := .slip, slipRevs := 0, goodCount := 0 }) ∧
      (s.drum.state = .slip →
        let good := if e.natAbs ≤ tol then s.drum.goodCount + 1 else 0
        let k := { d with slipRevs := s.drum.slipRevs + 1, goodCount := good }
        let u := set (lineSlipRev (set t { d with slipRevs := s.drum.slipRevs + 1 })) k
        drumIndex s =
          if good = 4 then reportLocked r (set u { k with state := .locked })
          else if s.drum.slipRevs = 15 then lostLock u
          else u)

/-- What the drum's reports do (R64, R87, R91, R92, R133, R137 to R139): LOCKED is taken by a scanner that
waits for the drum with its head ready, by one that holds its PREPARED report, and by a line in BRIDGE at its
job speed; LOST returns preparation to its start and withdraws a report sent, and bridges a line in MARK,
PHASING or PICTURE; FAULT is a LOST to the scanner, ends a call before MARK, and begins a closing in its
transmission; a slip revolution is noted on the active leg in PICTURE alone, with no closing (R137); and the
scanner's LAMP report ends a leg's call before MARK with LAMP and the machine-fault mark (R133). On its return to WAIT_DRUM from a later state the scanner tests its two conditions (R87); that the
test comes once the drum has left its lock, where it finds none, is the model's reading of R54, R87 and R92
(assumption log 15). -/
def Obligations.DrumReportsMeetTheScannerAndTheLine : Prop :=
  ∀ (s : State) (r : Rpm),
    reportLocked r s = lineLocked r (scanLocked r s) ∧ reportLost s = lineLost (scanLost s) ∧
    reportFault s = lineFault (scanRetested s (scanLost s)) ∧ drumLost s = lostLock s ∧
    (∀ u : State, scanRetested s u = if s.scan.state = .waitDrum then u else scanWaitTest u) ∧
    (s.scan.state = .waitDrum → s.scan.headReady = true → s.scan.jobSpeed = some r →
      s.drum.state = .locked → s.drum.target = some r → scanLocked r s = { s with scan := { s.scan with
        state := .dark, lamp := false, measuring := .waiting } }) ∧
    (s.scan.state = .prepared → s.scan.report = .held → s.scan.jobSpeed = some r →
      scanLocked r s = linePrepared { s with scan := { s.scan with report := .sent } }) ∧
    (s.scan.state ∉ [.waitDrum, .prepared] ∨ (s.scan.state = .waitDrum ∧ s.scan.headReady = false) ∨
      (s.scan.state = .prepared ∧ s.scan.report ≠ .held) → scanLocked r s = s) ∧
    (s.scan.state ∈ [.dark, .warm, .whiteRef] ∨
        (s.scan.state = .prepared ∧ s.scan.inTransmission = false) →
      scanLost s = { s with
        scan := { s.scan with
          state := .waitDrum, lamp := false, measuring := .none, tracking := .none, warmRevs := 0
          report := .none }
        line := if s.scan.report = .sent then { s.line with prepared := false } else s.line }) ∧
    (s.scan.state ∈ [.idle, .waitDrum, .capturing, .halted] ∨
        (s.scan.state = .prepared ∧ s.scan.inTransmission = true) → scanLost s = s) ∧
    (s.line.state = .bridge → s.line.closing = none → s.line.jobSpeed = some r →
      lineLocked r s = startMark (lineBecomes .mark (scanResume s))) ∧
    (s.line.state ≠ .bridge ∨ s.line.closing ≠ none ∨ s.line.jobSpeed ≠ some r → lineLocked r s = s) ∧
    (s.line.state ∈ [.mark, .phasing, .picture] → s.line.closing = none →
      lineLost s = (lineBecomes .bridge (noteEvent .bridge (bridgeMode (scanHalt s)))).startLimit
        .bridgeLimit (1000000 * s.settings.bridgeLimit)) ∧
    (s.line.state ∉ [.mark, .phasing, .picture] ∨ s.line.closing ≠ none → lineLost s = s) ∧
    (s.line.kind = some .leg → s.line.state ∈ [.seize, .dial, .awaitReady, .prepareWait] →
      lineFault s = callEnd (.reason .drum true) false s) ∧
    (s.line.kind = some .leg → s.line.state ∈ [.mark, .phasing, .picture, .bridge] →
      s.line.closing = none → lineFault s = beginClosing .drumFault s) ∧
    (s.line.kind ≠ some .leg ∨ s.line.closing ≠ none ∧ s.line.state ∈ [.mark, .phasing, .picture, .bridge] ∨
      s.line.state ∈ [.idle, .guard, .stop, .answerback, .talk] → lineFault s = s) ∧
    (s.line.state = .picture → s.line.closing = none → lineSlipRev s = noteEvent .slip s) ∧
    (s.line.state ≠ .picture ∨ s.line.closing ≠ none → lineSlipRev s = s) ∧
    (s.line.kind = some .leg → s.line.state ∈ [.seize, .dial, .awaitReady, .prepareWait] →
      lineLamp s = callEnd (.reason .lamp true) false s) ∧
    (s.line.kind ≠ some .leg ∨ s.line.state ∉ [.seize, .dial, .awaitReady, .prepareWait] → lineLamp s = s)

/-- The drum's timed events and its cover (R48, R53, R54, R59, R60, R62, R63): the index timeout loses the
lock; a spin-up of 20 s faults the drum, braked, the queue held before the report, a FAULT cause sent; a drum
braked and still for 2 s stops; an idle time at DRUM_IDLE brakes a drum under JOB demand; a cover that opens
brakes a running drum, with the LOST report and the DRUM cause where it was past SPINUP; a cover that closes
changes its own field alone. Come before its time an event changes nothing (assumption log 3). -/
def Obligations.TimedDrumEventsLoseFaultBrakeAndStop : Prop :=
  ∀ (dt : Nat) (s : State),
    let t := elapse dt s
    let set (u : State) (d : Drum) : State := { u with drum := d }
    let tracks := t.drum.state ∈ [.locking, .locked, .slip]
    (∀ r, tracks → t.drum.target = some r → exec (.indexTimeout dt) s =
      .next (if 2 * pNom r ≤ t.drum.indexTime then lostLock t else t)) ∧
    (∀ u, t.drum.state = .spinup → t.drum.spinupTime = some u → exec (.spinupLimitExpiry dt) s = .next
      (if u < 20000000 then t
       else (reportFault { set t (drumRests .fault (some .spinupLimit) t.drum) with
         mountQueue := { t.mountQueue with hold := some .drumFault } }.causeQueue).causeFault)) ∧
    (∀ u, t.drum.state = .braking → t.drum.brakingTime = some u → exec (.brakingStillness dt) s = .next
      (if u < 2000000 then t else (set t (drumRests .stopped none t.drum)).causeDrum)) ∧
    (∀ u, t.drum.state ∈ [.spinup, .locking, .locked, .slip] → t.drum.demand = some .job →
      t.drum.idleTime = some u → exec (.idleStop dt) s = .next
      (if t.settings.drumIdle = 0 ∨ u < t.settings.drumIdle then t
       else set t (drumRests .braking none t.drum))) ∧
    (t.drum.coverOpen = false →
      let opened := { t.drum with coverOpen := true }
      (tracks → exec (.coverOpen dt) s =
        let u := (reportLost (set t opened)).causeDrum
        .next ((set u (drumRests .braking none u.drum)).causeFault)) ∧
      (t.drum.state = .spinup → exec (.coverOpen dt) s =
        .next ((set t (drumRests .braking none opened)).causeFault)) ∧
      (t.drum.state ∈ [.stopped, .braking, .fault] → exec (.coverOpen dt) s = .next (set t opened))) ∧
    exec (.coverClose dt) s = .next (set t { t.drum with coverOpen := false })

/-! ### The revolution: positions, head, scanner, modulator -/

/-- A position begins: the counter takes its number, the photocell is read, and the scanner and then the
modulator take it (R71, R85, R112). -/
def Sys2Proof.positionBegins (k sample : Nat) (s : State) : State :=
  modPosition k (scanSample k sample { s with
    posTimer := { s.posTimer with counter := some k }, pins := { s.pins with photocell := sample } })

/-- The span ends: the report goes to the scanner and then to the modulator, once in a revolution (R71,
R72). -/
def Sys2Proof.spanEnds (s : State) : State :=
  modSpanEnd (scanSpanEnd { s with aux := { s.aux with spanEnded := true } })

/-- The index at a timer in RUNNING, with the period the drum reports: with source ENCODER a span not yet
ended ends first; the last revolution is what the counter reached, the counter 0, and the interval
floor(P_prev × 16 / N), at least 1 (R70 to R74). -/
def Sys2Proof.revolutionBegins (period : Option Nat) (s : State) : State :=
  let h := { s with posTimer := { s.posTimer with heldPeriod := period.or s.posTimer.heldPeriod } }
  let n := s.posTimer.positions.getD 0
  let u := if s.posTimer.source = some .encoder ∧ (∃ k, s.posTimer.counter = some k ∧ k + 1 = n) ∧
      s.aux.spanEnded = false then spanEnds h else h
  { u with
    posTimer := { u.posTimer with
      lastRev := match u.posTimer.counter with
        | none => u.posTimer.lastRev
        | some k => some (if k + 1 = u.posTimer.positions.getD 0 then .complete else .short k)
      counter := some 0
      interval := some (max 1 (u.posTimer.heldPeriod.getD ((u.posTimer.speed.map pNom).getD 0) * 16 /
        u.posTimer.positions.getD 0)) }
    aux := { u.aux with sinceIndex := 0, spanEnded := false } }

/-- INDEX and the positions it starts (R45, R64, R70 to R74, R113, R135). An index reaches the timer with the
period the drum reports for it, in IDLE to be held alone; in RUNNING the revolution begins, the scanner, the
modulator and position 0 follow, and then the line unit. The drum controller takes its step before or after
them. That a block which enters its state at the index waits for the next, and the order among the blocks,
are the model's choice (assumption log 4); that a DARK which the index's own span-end report ends counts this
index as its first warm revolution is too (assumption log 43), and so is that POSITION_START and SPAN_END before
their time change nothing but time (assumption log 3), and that an index count of 0 µs gives no period (assumption
log 17). With source TIMER position k begins k intervals after the index
and the span ends after N of them; with source ENCODER each pulse begins the next position, the first past
N-1 ends the span, and later ones do nothing. -/
def Obligations.AnIndexAndItsPositionsReachTheBlocks : Prop :=
  (∀ (dt sample : Nat) (s : State),
    let t := elapse dt s
    let period := reportedPeriod t
    let taken (scan : Bool) (u : State) : State :=
      if u.posTimer.running = false then
        { u with posTimer := { u.posTimer with heldPeriod := period.or u.posTimer.heldPeriod } }
      else
        let v := revolutionBegins period u
        let w := modRevolution (if scan then scanIndex v else v)
        positionBegins 0 sample (if t.modu.mode = .phasing ∧ w.modu.mode = .phasing then modPhasingIndex w else w)
    exec (.index dt sample false) s = .next (drumIndex (lineIndex (taken true t))) ∧
    exec (.index dt sample true) s =
      .next (lineIndex (taken ((drumIndex t).scan.state == t.scan.state) (drumIndex t)))) ∧
  (∀ (s : State) (p : Nat), reportedPeriod s = some p ↔
    (s.drum.indexHeld = true ∧ s.aux.indexOver = false ∧ 0 < s.drum.indexTime) ∧
    ∃ r, s.drum.target = some r ∧
      ((s.drum.state ∈ [.locking, .locked, .slip] ∧ p = s.drum.indexTime) ∨
        (s.drum.state = .spinup ∧ s.drum.indexTime ≤ pNom r * 11 / 10 ∧ p = pNom r))) ∧
  (∀ (dt sample k : Nat) (s : State),
    let t := elapse dt s
    let n := t.posTimer.positions.getD 0
    let i := t.posTimer.interval.getD 1
    t.posTimer.running = true → t.posTimer.counter = some k →
    (t.posTimer.source = some .timer →
      exec (.positionStart dt sample) s = .next
        (if k + 1 < n ∧ (k + 1) * i ≤ t.aux.sinceIndex then positionBegins (k + 1) sample t else t) ∧
      exec (.spanEnd dt) s = .next
        (if k + 1 = n ∧ t.aux.spanEnded = false ∧ n * i ≤ t.aux.sinceIndex then spanEnds t else t) ∧
      exec (.encoderPulse dt sample) s = .next t) ∧
    (t.posTimer.source = some .encoder →
      exec (.encoderPulse dt sample) s = .next
        (if k + 1 < n then positionBegins (k + 1) sample t
         else if t.aux.spanEnded then t else spanEnds t) ∧
      exec (.positionStart dt sample) s = .next t ∧ exec (.spanEnd dt) s = .next t)) ∧
  ∀ (dt sample : Nat) (s : State),
    ((elapse dt s).posTimer.running = false ∨ (elapse dt s).posTimer.counter = none) →
    exec (.positionStart dt sample) s = .next (elapse dt s) ∧
    exec (.spanEnd dt) s = .next (elapse dt s) ∧
    exec (.encoderPulse dt sample) s = .next (elapse dt s)

/-- One step pulse of the head: HD_DIR, HD_STEP, and the step time from 0. -/
def Sys2Proof.stepsHead (forward : Bool) (s : State) : State :=
  { s with
    pins := { s.pins with hdForward := forward, hdSteps := s.pins.hdSteps + 1 }
    aux := { s.aux with headTime := 0 } }

/-- The head has homed: H 0 and valid, OK, and on toward its target (R77). -/
def Sys2Proof.headHomed (s : State) : State :=
  let t := { s with head := { s.head with line := 0, valid := true, lastHoming := some .ok } }
  match s.head.target with
  | none => { t with head := { t.head with motion := .idle } }
  | some 0 => scanPositioned 0 { t with head := { t.head with motion := .idle, target := none } }
  | some (_ + 1) =>
    { t with head := { t.head with motion := .moving }, aux := { t.aux with headTime := 0 } }

/-- The head's steps and its positioning requests (R77 to R80). Each step comes 2.5 ms after the one before;
in HOMING the switch closed after a step ends the homing and 4100 steps without it fail; in MOVING H rises by
1 and the target reached is reported to the scanner; a scan step raises H at once and is given at once from
IDLE and owed in STEP. That the first step comes 2.5 ms after the motion's entry is the model's choice
(assumption log 29). So are: that the commands of the head bring the level of HD_HOME, which a homing reads as it
begins, and change nothing else when no step of theirs is due (assumption log 3, 23); that a homing begun after a
failed one goes on reading FAILED (R79) and any other reads absent (R77; assumption log 39); and that a request in
STEP stands as the target until the step ends (assumption log 33). -/
def Obligations.TheHeadHomesMovesAndSteps : Prop :=
  (∀ (dt : Nat) (home : Bool) (s : State),
    let t := elapse dt s
    let seen := { t with pins := { t.pins with home := home } }
    let back := stepsHead false seen
    let stepped := { back with aux := { back.aux with homingSteps := t.aux.homingSteps + 1 } }
    let fwd := stepsHead true seen
    let moved := { fwd with head := { fwd.head with line := t.head.line + 1 } }
    (2500 ≤ t.aux.headTime →
      (t.head.motion = .homing → t.aux.homingSteps < 4100 → exec (.headStep dt home) s =
        .next (if home then headHomed stepped else stepped)) ∧
      (t.head.motion = .moving → exec (.headStep dt home) s = .next
        (if t.head.target = some (t.head.line + 1) then
          scanPositioned (t.head.line + 1)
            { moved with head := { moved.head with motion := .idle, target := none } }
         else moved)) ∧
      (t.head.motion = .step → exec (.scanStepEnd dt home) s = .next
        (if 0 < t.head.owed then
          stepsHead true { seen with head := { t.head with owed := t.head.owed - 1 } }
         else
          let rest := { seen with head := { t.head with motion := .idle } }
          match t.head.target with
          | some p => positioningRequest p rest
          | none => rest))) ∧
    (t.head.motion = .homing → 4100 ≤ t.aux.homingSteps → exec (.homingFailure dt) s =
      .next { t with head := { t.head with
        motion := .idle, target := none, lastHoming := some .failed } }.causeFault) ∧
    ((t.aux.headTime < 2500 ∨ t.head.motion = .idle ∨ t.head.motion = .step ∨
      (t.head.motion = .homing ∧ 4100 ≤ t.aux.homingSteps)) → exec (.headStep dt home) s = .next seen) ∧
    ((t.aux.headTime < 2500 ∨ t.head.motion ≠ .step) → exec (.scanStepEnd dt home) s = .next seen) ∧
    ((t.head.motion ≠ .homing ∨ t.aux.homingSteps < 4100) → exec (.homingFailure dt) s = .next t)) ∧
  (∀ (s : State) (p : Nat),
    let aimed := { s with head := { s.head with target := some p } }
    let begun := { aimed with
      head := { aimed.head with
        motion := .homing, valid := false
        lastHoming := if s.head.lastHoming = some .failed then some .failed else none }
      aux := { aimed.aux with headTime := 0, homingSteps := 0 } }
    let homes := if s.pins.home then headHomed begun else begun
    let there := scanPositioned s.head.line
      { s with head := { s.head with motion := .idle, target := none } }
    (s.head.motion = .idle → positioningRequest p s =
      if s.head.valid = true ∧ s.head.line = p then there
      else if s.head.valid = true ∧ s.head.line < p then
        { aimed with head := { aimed.head with motion := .moving }, aux := { s.aux with headTime := 0 } }
      else homes) ∧
    (s.head.motion = .moving → positioningRequest p s =
      if p = s.head.line then there else if p < s.head.line then homes else aimed) ∧
    (s.head.motion = .homing ∨ s.head.motion = .step → positioningRequest p s = aimed)) ∧
  ∀ s : State,
    let raised := { s with head := { s.head with line := s.head.line + 1 } }
    (s.head.motion = .idle → scanStep s =
      stepsHead true { raised with head := { raised.head with motion := .step } }) ∧
    (s.head.motion = .step → scanStep s =
      { raised with head := { raised.head with owed := s.head.owed + 1 } })

/-- What a position, a span end and an index are to the scanner (R85, R88 to R90, R93, R94, R99 to R101). Its
samples are summed over the span in DARK and over the clamp band in WHITE_REF, PREPARED and CAPTURING, and
written as levels over the span in CAPTURING; the dark value, the white reference, its tracking and the low
lamp follow from the sums; a line is begun at position G with H below T, the head valid and a slot FREE, is
handed over complete at its S-th level with a scan step, and is completed short by an index. The head's positioned
report for the resume line makes the head ready in WAIT_DRUM, and with the drum LOCKED at the job speed DARK begins
(R87). The line unit's reports act by the state (R97): transmission begun, picture begun, halt, which gives up the
line being filled and leaves W untracked (R98), resume, which tracks W from the next index (R93), and picture
finished (R102). -/
def Obligations.TheScannerMeasuresAndCaptures : Prop :=
  (∀ s : State,
    let set (c : Scanner) : State := { s with scan := c }
    (s.scan.state ∈ [.prepared, .capturing] → scanHalt s = { s with
      ring := slotGivenUp s
      scan := { s.scan with state := .halted, tracking := .none, filling := none } }) ∧
    (s.scan.state ∉ [.prepared, .capturing] → scanHalt s = s) ∧
    scanResume s = (if s.scan.state = .halted then
      set { s.scan with state := .prepared, tracking := .waiting } else s) ∧
    scanTransmission s = (if s.scan.state = .prepared then
      set { s.scan with inTransmission := true } else s) ∧
    scanPicture s = (if s.scan.state = .prepared then set { s.scan with state := .capturing } else s) ∧
    (s.scan.state ≠ .capturing → scanFinished s = s) ∧
    (s.scan.state = .capturing → scanFinished s = { s with
      ring := slotGivenUp s
      scan := { Scanner.reset with
        dark := s.scan.dark, white := s.scan.white, lastWhite := s.scan.lastWhite } }) ∧
    (∀ p, s.scan.state = .waitDrum → s.scan.resumeLine = some p →
      scanPositioned p s = scanWaitTest (set { s.scan with headReady := true })) ∧
    (∀ p, s.scan.state ≠ .waitDrum ∨ s.scan.resumeLine ≠ some p → scanPositioned p s = s) ∧
    (s.scan.state = .waitDrum → s.scan.headReady = true → s.drum.state = .locked →
      s.drum.target ≠ none → s.drum.target = s.scan.jobSpeed →
      scanWaitTest s = set { s.scan with state := .dark, lamp := false, measuring := .waiting }) ∧
    (s.scan.state ≠ .waitDrum ∨ s.scan.headReady = false ∨ s.drum.state ≠ .locked ∨
      s.drum.target ≠ s.scan.jobSpeed → scanWaitTest s = s)) ∧
  (∀ (s : State) (k r n : Nat), s.scan.jobS = some n →
    let g := n / 8
    let band := g / 4 ≤ k ∧ k < 3 * g / 4
    let last := k = 3 * g / 4 - 1
    let set (c : Scanner) : State := { s with scan := c }
    (s.scan.state ∈ [.idle, .waitDrum, .warm, .halted] → scanSample k r s = s) ∧
    (∀ sum m, s.scan.state = .dark → s.scan.measuring = .running sum m → scanSample k r s =
      if g ≤ k ∧ k < n + g then set { s.scan with measuring := .running (sum + r) (m + 1) } else s) ∧
    (∀ sum m, s.scan.state = .whiteRef → s.scan.measuring = .running sum m → band →
      let w := (sum + r) / (n / 16)
      let read := { s.scan with lastWhite := some w, measuring := .none }
      let ready := { read with white := w, state := .prepared, lamp := true, tracking := .waiting }
      (¬ last → scanSample k r s = set { s.scan with measuring := .running (sum + r) (m + 1) }) ∧
      (last → s.scan.dark + s.settings.lampMin ≤ w → scanSample k r s =
        if s.drum.state = .locked ∧ s.drum.target ≠ none ∧ s.drum.target = s.scan.jobSpeed then
          linePrepared (set { ready with report := .sent })
        else set { ready with report := .held }) ∧
      (last → w < s.scan.dark + s.settings.lampMin → scanSample k r s =
        (lineLamp (holdQueue .lampLow (scanIdle (set read)))).causeFault)) ∧
    (∀ sum m, s.scan.state = .prepared ∨ s.scan.state = .capturing →
      s.scan.tracking = .running sum m → band →
      let w := (sum + r) / (n / 16)
      let read := { s.scan with tracking := .running (sum + r) (m + 1), lastWhite := some w }
      let low := noteEvent .lamp (set read)
      (¬ last → scanSample k r s = set { s.scan with tracking := .running (sum + r) (m + 1) }) ∧
      (last → s.scan.dark + s.settings.lampMin ≤ w → scanSample k r s = set { read with
        white := ((s.scan.white : Int) + Int.tdiv ((w : Int) - s.scan.white) 8).toNat
        lampLow := false }) ∧
      (last → w < s.scan.dark + s.settings.lampMin → scanSample k r s =
        if s.scan.lampLow then low
        else { low with scan := { read with lampLow := true } }.causeFault)) ∧
    (∀ i : Nat, s.scan.state = .capturing → ¬ band → 1 < n → k = g → s.scan.filling = none →
      s.head.valid = true → s.head.line < s.scan.jobT.getD 0 →
      s.ring[i]? = some Slot.free → (∀ j : Nat, j < i → s.ring[j]? ≠ some Slot.free) →
      scanSample k r s = { s with
        ring := s.ring.setIfInBounds i
          (.filling s.head.line [levelOf s.curve s.scan.dark s.scan.white r])
        scan := { s.scan with filling := some { slot := i, line := s.head.line, written := 1 } } }) ∧
    (s.scan.state = .capturing → ¬ band → g ≤ k → s.scan.filling = none →
      (k ≠ g ∨ s.head.valid = false ∨ s.scan.jobT.getD 0 ≤ s.head.line ∨
        ∀ i : Nat, s.ring[i]? ≠ some Slot.free) → scanSample k r s = s) ∧
    ∀ f line ls, s.scan.state = .capturing → ¬ band → g ≤ k → k < n + g → s.scan.filling = some f →
      s.ring[f.slot]? = some (.filling line ls) →
      let levels := ls ++ [levelOf s.curve s.scan.dark s.scan.white r]
      scanSample k r s =
        if f.written + 1 < n then
          { s with
            ring := s.ring.setIfInBounds f.slot (.filling f.line levels)
            scan := { s.scan with filling := some { f with written := f.written + 1 } } }
        else scanStep { s with
          ring := s.ring.setIfInBounds f.slot (.full f.line levels)
          scan := { s.scan with filling := none } }) ∧
  ∀ s : State,
    let n := s.scan.jobS.getD 0
    let set (c : Scanner) : State := { s with scan := c }
    let dark (total : Nat) := set { s.scan with
      dark := min 1023 (total / n), measuring := .none, warmRevs := 0, lamp := true, state := .warm }
    (∀ sum m, s.scan.state = .dark → s.scan.measuring = .running sum m →
      (0 < m → scanSpanEnd s = dark (sum + s.pins.photocell * (n - m)) ∧
        scanIndex s = dark (sum + s.pins.photocell * (n - m))) ∧
      (m = 0 → scanIndex s = set { s.scan with measuring := .running 0 0 })) ∧
    (s.scan.state ≠ .dark → scanSpanEnd s = s) ∧
    (s.scan.state = .dark → s.scan.measuring = .waiting →
      scanIndex s = set { s.scan with measuring := .running 0 0 }) ∧
    (s.scan.state = .warm → scanIndex s =
      if s.scan.warmRevs < 2 then set { s.scan with warmRevs := s.scan.warmRevs + 1 }
      else set { s.scan with state := .whiteRef, measuring := .running 0 0 }) ∧
    (s.scan.state = .whiteRef → scanIndex s = set { s.scan with measuring := .running 0 0 }) ∧
    (s.scan.state = .prepared ∨ (s.scan.state = .capturing ∧ s.scan.filling = none) →
      scanIndex s = set { s.scan with tracking := .running 0 0 }) ∧
    (s.scan.state ∈ [.idle, .waitDrum, .halted] → scanIndex s = s) ∧
    ∀ f line ls, s.scan.state = .capturing → s.scan.filling = some f →
      s.ring[f.slot]? = some (.filling line ls) →
      scanIndex s =
        let t := noteEvent .short (scanStep { s with
          ring := s.ring.setIfInBounds f.slot
            (.full f.line (ls ++ List.replicate (n - ls.length) (ls.getLastD 0)))
          scan := { s.scan with filling := none } })
        { t with scan := { t.scan with tracking := .running 0 0 } }

/-- A tone of a frequency, with the increment of stage 5 (R110, R111). -/
def Sys2Proof.sounds (f : Nat) (s : State) : State :=
  { s with modu := { s.modu with freq := some f, increment := (f * 65536 + 9600) / 19200 } }

/-- What the positions and the indices are to the modulator (R105, R110, R112 to R115, R136, R137). Black in
the gap and after the span end, white in the span of phasing; in PICTURE the span begins with the lead line,
the FULL slot of the lowest line number, or a fill line that is noted, and each position of a line sent sounds
the tone of its level; the send ends at the span end or the index, the slot is FREE, the copy and the leg's
lines sent rise, and at T the picture is complete; the phasing target reached begins the picture with the
lead line. The line unit enters PHASING at an index in MARK after mark complete, with the drum LOCKED at the job
speed and no closing, and changes nothing at any other (R135); the phasing and picture complete reports act in
PHASING and in PICTURE alone, with no closing. That an index ends a send whose span end has not come, the revolution being whole or not, is the
model's choice (assumption log 14). The bridge and the stop sound their tones, stop a mark and give up the slot
being sent, uncounted, and the bridge clears lead (R106, R116, R118); that every bridge discards the phasing count
and target, not one from PHASING alone (R113), is the model's choice (assumption log 42). -/
def Obligations.TheModulatorFollowsTheRevolution : Prop :=
  (∀ s : State,
    let quiet : MarkGen := { s.markGen with step := .idle, symbols := [], completed := 0, left := 0 }
    bridgeMode s = { s with
      ring := s.ring.map slotHeld
      markGen := quiet
      modu := { s.modu with
        mode := .bridge, freq := some s.settings.bridgeHz
        increment := (s.settings.bridgeHz * 65536 + 9600) / 19200, sendingSlot := none, lead := false
        phasingCount := 0, phasingTarget := none } } ∧
    stopMode s = { s with
      ring := s.ring.map slotHeld
      markGen := quiet
      modu := { s.modu with
        mode := .stop, freq := some s.settings.stopHz
        increment := (s.settings.stopHz * 65536 + 9600) / 19200, sendingSlot := none } }) ∧
  (∀ (s : State) (k g : Nat), s.posTimer.gap = some g →
    (s.modu.mode = .phasing → modPosition k s =
      sounds (if k < g then s.settings.blackHz else s.settings.whiteHz) s) ∧
    (s.modu.mode = .picture → k < g → modPosition k s = sounds s.settings.blackHz s) ∧
    (s.modu.mode ∉ [.phasing, .picture] → modPosition k s = s) ∧
    (∀ (i line : Nat) (ls : List Nat) (l : Nat), s.modu.mode = .picture → g < k →
      s.modu.sendingSlot = some i → s.ring[i]? = some (.sending line ls) → ls[k - g]? = some l →
      modPosition k s =
        sounds (levelFreq s.settings.blackHz s.settings.whiteHz l) s) ∧
    (s.modu.mode = .picture → g < k → s.modu.sendingSlot = none →
      modPosition k s = sounds s.settings.whiteHz s) ∧
    (s.modu.mode = .picture → k = g → s.modu.lead = true → s.modu.sendingSlot = none →
      modPosition k s = sounds s.settings.whiteHz s) ∧
    (∀ (i line : Nat) (ls : List Nat) (l : Nat), s.modu.mode = .picture → k = g → s.modu.lead = false →
      s.modu.linesCopy.getD 0 < s.modu.lineCount.getD 0 → s.ring[i]? = some (.full line ls) →
      (∀ (j m : Nat) (ms : List Nat), s.ring[j]? = some (Slot.full m ms) → j ≠ i → line < m) → ls[0]? = some l →
      modPosition k s = sounds (levelFreq s.settings.blackHz s.settings.whiteHz l) { s with
        ring := s.ring.setIfInBounds i (.sending line ls)
        modu := { s.modu with sendingSlot := some i } }) ∧
    (s.modu.mode = .picture → k = g → s.modu.lead = false → s.modu.sendingSlot = none →
      s.modu.linesCopy.getD 0 < s.modu.lineCount.getD 0 → (∀ (i m : Nat) (ms : List Nat), s.ring[i]? ≠ some (Slot.full m ms)) →
      modPosition k s = sounds s.settings.whiteHz (noteEvent .fill s))) ∧
  (∀ s : State,
    let black := sounds s.settings.blackHz s
    let ended := { s with modu := { s.modu with lead := false } }
    (s.modu.mode = .phasing → modSpanEnd s = black) ∧
    (s.modu.mode = .picture → modSpanEnd s = endSend (sounds s.settings.blackHz ended) ∧
      modRevolution s = endSend ended) ∧
    (s.modu.mode ∉ [.phasing, .picture] → modSpanEnd s = s) ∧ (s.modu.mode ≠ .picture → modRevolution s = s) ∧
    (s.modu.sendingSlot = none → endSend s = s) ∧
    ∀ i, s.modu.sendingSlot = some i →
      let n := s.modu.linesCopy.getD 0 + 1
      let t := lineSentEvent { s with
        ring := s.ring.setIfInBounds i .free
        modu := { s.modu with sendingSlot := none, linesCopy := some n } }
      endSend s = if s.modu.lineCount = some n then linePictureComplete t else t) ∧
  (∀ s : State,
    let n := s.modu.phasingCount + 1
    modPhasingIndex s =
      if s.modu.phasingTarget = some n then
        linePhasingComplete { s with modu := { s.modu with
          phasingCount := n, mode := .picture, lead := true, freq := some s.settings.blackHz
          increment := (s.settings.blackHz * 65536 + 9600) / 19200 } }
      else { s with modu := { s.modu with phasingCount := n } }) ∧
  ∀ s : State,
    (s.line.state = .phasing → s.line.closing = none →
      let t := lineBecomes .picture s
      linePhasingComplete s = scanPicture { t with line := { t.line with pictureReached := true } }) ∧
    (s.line.state ≠ .phasing ∨ s.line.closing ≠ none → linePhasingComplete s = s) ∧
    (s.line.state = .picture → s.line.closing = none → linePictureComplete s =
      (scanFinished (stopMode (lineBecomes .stop s))).startLimit .stopTime (1000000 * s.settings.stopTime)) ∧
    (s.line.state ≠ .picture ∨ s.line.closing ≠ none → linePictureComplete s = s) ∧
    (s.line.state ≠ .mark ∨ s.line.closing ≠ none ∨ s.modu.mode ≠ .blackHold ∨ s.drum.state ≠ .locked ∨
      s.drum.target = none ∨ s.drum.target ≠ s.line.jobSpeed → lineIndex s = s) ∧
    (s.line.state = .mark → s.line.closing = none → s.modu.mode = .blackHold → s.drum.state = .locked →
      s.drum.target ≠ none → s.drum.target = s.line.jobSpeed →
      lineIndex s =
        let t := lineBecomes .phasing s
        { t with modu := { t.modu with
          mode := .phasing, freq := some s.settings.blackHz
          increment := (s.settings.blackHz * 65536 + 9600) / 19200, phasingCount := 0
          phasingTarget := some
            (if s.line.pictureReached then s.settings.resumeRevs else s.settings.phasingRevs) } })

/-- Levels, tones and the duty lie between their ends (R49, R95, R96, R110). With the white reference above
the dark value and a tone curve that rises, every level lies between T[0] and T[16], is T[0] at or below the
dark value and T[16] at or above the white reference, and never falls as the sample rises; every tone lies
between BLACK_HZ and WHITE_HZ, at level 0 and 255 exactly the one and the other, and never falls as the level
rises; a corrected duty lies in 0 to 1023. -/
def Obligations.LevelsTonesAndDutyLieBetweenTheirEnds : Prop :=
  (∀ (curve : Vector Nat 17) (d w r q : Nat), curve.toList.Pairwise (· ≤ ·) → d < w → r ≤ q →
    curve[0] ≤ levelOf curve d w r ∧ levelOf curve d w r ≤ levelOf curve d w q ∧ levelOf curve d w q ≤ curve[16] ∧
    (r ≤ d → levelOf curve d w r = curve[0]) ∧ (w ≤ q → levelOf curve d w q = curve[16]) ∧
    ∀ x i f, x = min (r - d) (w - d) * 1024 / (w - d) → i = min 15 (x / 64) → f = x - 64 * i →
      f ≤ 64 ∧ levelOf curve d w r =
        curve.toList.getD i 0 + ((curve.toList.getD (i + 1) 0 - curve.toList.getD i 0) * f + 32) / 64) ∧
  (∀ black white l m : Nat, black ≤ white → l ≤ m → m ≤ 255 →
    black ≤ levelFreq black white l ∧ levelFreq black white l ≤ levelFreq black white m ∧
    levelFreq black white m ≤ white ∧ levelFreq black white 0 = black ∧
    levelFreq black white 255 = white ∧
    levelFreq black white l = black + ((white - black) * l + 127) / 255) ∧
  (∀ f : Nat, f ≤ 2800 → phaseStep f = (f * 65536 + 9600) / 19200 ∧ phaseStep f ≤ 9557) ∧
  ∀ (u : Nat) (e : Int) (gain : Nat),
    correctedDuty u e gain ≤ 1023 ∧
    (0 ≤ (u : Int) + e * gain / 4096 → (u : Int) + e * gain / 4096 ≤ 1023 →
      (correctedDuty u e gain : Int) = u + e * gain / 4096)

/-! ### The dialer, the mark, the tones, the printer and the lamps -/

/-- The dialer in a step of so many µs. -/
def Sys2Proof.dialerIn (st : DialerState) (us : Nat) (s : State) : State :=
  { s with dialer := { s.dialer with state := st, left := us } }

/-- A keypad pair sounds: PAIR, both accumulators from 0, the increments of the row and the column tone
(R117). -/
def Sys2Proof.pairSounds (k : KeySym) (s : State) : State :=
  { s with
    modu := { s.modu with mode := .pair, freq := none }
    markGen := { s.markGen with
      rowAcc := 0, colAcc := 0, rowInc := phaseStep (rowTone k), colInc := phaseStep (colTone k) } }

/-- The dialer's steps (R37 to R41). Each step that has run out goes on: TONE_ON to TONE_OFF, silent; BREAK to
MAKE with one break less, MAKE to the next break or to the inter-digit pause; the end of TONE_OFF, of
INTERDIGIT, of PAUSE and of FLASH completes the symbol. The position then rises by 1 and the next symbol
begins by its kind and the dial mode; after the last, dial complete leads a leg's call to AWAIT_READY, with
ANSWER_TIMEOUT, the detector in READY with READY_HZ read now and the loop monitor from 0 (R126, R127, R128), and a
talk call to TALK, with the monitor from 0 and the dial buffer emptied (R36, R148). Each step's setting is read as
the step begins (R42). That a step that has not run out is left alone by its command is the model's choice
(assumption log 3). -/
def Obligations.TheDialerTakesItsSymbolsInTurn : Prop :=
  (∀ (dt : Nat) (s : State) (b : DialBuf),
    let t := elapse dt s
    let brk := [(PulseRate.pps10, MakeBreak.mb4060, 60), (.pps10, .mb3367, 67), (.pps20, .mb4060, 30),
      (.pps20, .mb3367, 33)]
    let next := dialNext { t with dialer := { t.dialer with position := t.dialer.position + 1 } }
    t.dialBuf = some b →
    (t.dialer.left = 0 →
      (t.dialer.state = .toneOn → exec (.toneOnEnd dt) s = .next
        (dialerIn .toneOff (1000 * t.settings.toneOff) { t with modu := t.modu.silence })) ∧
      (t.dialer.state = .toneOff → exec (.toneOffEnd dt) s = .next next) ∧
      (∀ ms, t.dialer.state = .breaking → (b.dial.rate, t.settings.makeBreak, ms) ∈ brk →
        exec (.breakEnd dt) s = .next
          (dialerIn .making (1000 * ((if b.dial.rate = .pps10 then 100 else 50) - ms))
            { t with dialer := { t.dialer with breaks := t.dialer.breaks - 1 } })) ∧
      (∀ ms, t.dialer.state = .making → (b.dial.rate, t.settings.makeBreak, ms) ∈ brk →
        exec (.makeEnd dt) s = .next
          (if t.dialer.breaks = 0 then dialerIn .interdigit (1000 * t.settings.interdigit) t
           else dialerIn .breaking (1000 * ms) t)) ∧
      (t.dialer.state = .interdigit → exec (.interdigitEnd dt) s = .next next) ∧
      (t.dialer.state = .pause → exec (.pauseEnd dt) s = .next next) ∧
      (t.dialer.state = .flash → exec (.flashEnd dt) s = .next next)) ∧
    (t.dialer.left ≠ 0 →
      exec (.toneOnEnd dt) s = .next t ∧ exec (.toneOffEnd dt) s = .next t ∧
      exec (.breakEnd dt) s = .next t ∧ exec (.makeEnd dt) s = .next t ∧
      exec (.interdigitEnd dt) s = .next t ∧ exec (.pauseEnd dt) s = .next t ∧
      exec (.flashEnd dt) s = .next t)) ∧
  ∀ (s : State) (b : DialBuf) (x : DialSym), s.dialBuf = some b →
    let rest := { s with dialer := { s.dialer with state := .idle, breaks := 0, left := 0 } }
    (b.dial.string[s.dialer.position]? = some x →
      (∀ d, x = .digit d → b.dial.mode = .tone →
        dialNext s = dialerIn .toneOn (1000 * s.settings.toneOn) (pairSounds (.digit d) s)) ∧
      (x = .star → dialNext s = dialerIn .toneOn (1000 * s.settings.toneOn) (pairSounds .star s)) ∧
      (x = .hash → dialNext s = dialerIn .toneOn (1000 * s.settings.toneOn) (pairSounds .hash s)) ∧
      (∀ d ms, x = .digit d → b.dial.mode = .pulse →
        (b.dial.rate, s.settings.makeBreak, ms) ∈ [(PulseRate.pps10, MakeBreak.mb4060, 60),
          (.pps10, .mb3367, 67), (.pps20, .mb4060, 30), (.pps20, .mb3367, 33)] →
        dialNext s = dialerIn .breaking (1000 * ms)
          { s with dialer := { s.dialer with breaks := if d = 0 then 10 else d.val } }) ∧
      (x = .pause → dialNext s = dialerIn .pause (1000000 * s.settings.pauseTime) s) ∧
      (x = .flash → dialNext s = dialerIn .flash (1000 * s.settings.flashTime) s)) ∧
    (b.dial.string.length ≤ s.dialer.position →
      (s.line.kind = some .talk → dialNext s =
        let t := modSilent (lineBecomes .talk rest)
        { t with line := { t.line with monitor := some 0 }, dialBuf := none }) ∧
      (s.line.kind ≠ some .talk → dialNext s =
        let t := (modSilent (lineBecomes .awaitReady rest)).startLimit .answerTimeout
          (1000000 * s.settings.answerTimeout)
        { t with
          line := { t.line with monitor := some 0 }
          aux := { t.aux with readyHz := s.settings.readyHz } }))

/-- The mark and the line DAC (R109, R117, R118). A mark is *, the station code, *, the lines sent as four
digits, #, each symbol a pair for TONE_ON ms and then silence for TONE_OFF ms; after the silence of the last
the generator is idle and the modulator holds black. An update that has fallen due advances the phase
accumulator by the increment, or in PAIR both pair accumulators, modulo 65536, and gives the DAC the sine
entry of its top 8 bits, or half the sum of the two; in SILENT it changes nothing. The table's first quarter is
written out, each entry 128 plus 127 × sin(2π × k / 256) rounded to the nearest, and the rest mirrors it. The
count of updates that fall due is the model's (assumption log 32), and so is that MARK_STEP_END with time left
changes nothing but time (assumption log 3). -/
def Obligations.TheMarkIsSentAndTheDacUpdated : Prop :=
  (sineTable.take 65 =
      [128, 131, 134, 137, 140, 144, 147, 150, 153, 156, 159, 162, 165, 168, 171, 174, 177, 179, 182, 185, 188, 191,
      193, 196, 199, 201, 204, 206, 209, 211, 213, 216, 218, 220, 222, 224, 226, 228, 230, 232, 234, 235, 237, 239,
      240, 241, 243, 244, 245, 246, 248, 249, 250, 250, 251, 252, 253, 253, 254, 254, 254, 255, 255, 255, 255] ∧
    sineTable.length = 256 ∧
    (∀ k, k ≤ 64 → sineTable.getD (128 - k) 0 = sineTable.getD k 0) ∧
    ∀ k, k < 128 → sineTable.getD (128 + k) 0 + sineTable.getD k 0 = 256) ∧
  (∀ s : State, startMark s =
    let n := s.modu.linesCopy.getD 0
    let symbols := [KeySym.star] ++ s.settings.stationCode.map KeySym.digit ++ [.star] ++
      [.digit (Fin.ofNat 10 (n / 1000)), .digit (Fin.ofNat 10 (n / 100)), .digit (Fin.ofNat 10 (n / 10)),
       .digit (Fin.ofNat 10 n)] ++ [.hash]
    let t := pairSounds .star s
    { t with markGen := { t.markGen with
      symbols := symbols, completed := 0, step := .tone, left := 1000 * s.settings.toneOn } }) ∧
  (∀ (dt : Nat) (s : State),
    let t := elapse dt s
    let n := t.markGen.completed + 1
    (t.markGen.left ≠ 0 ∨ t.markGen.step = .idle → exec (.markStepEnd dt) s = .next t) ∧
    (t.markGen.left = 0 → t.markGen.step = .tone → exec (.markStepEnd dt) s = .next { t with
      modu := t.modu.silence
      markGen := { t.markGen with step := .silence, left := 1000 * t.settings.toneOff } }) ∧
    (∀ k, t.markGen.left = 0 → t.markGen.step = .silence → t.markGen.symbols[n]? = some k →
      exec (.markStepEnd dt) s = .next
        (let u := pairSounds k t
         { u with markGen := { u.markGen with
           completed := n, step := .tone, left := 1000 * t.settings.toneOn } })) ∧
    (t.markGen.left = 0 → t.markGen.step = .silence → t.markGen.symbols.length ≤ n →
      exec (.markStepEnd dt) s = .next { t with
        markGen := { t.markGen with step := .idle, symbols := [], completed := 0, left := 0 }
        modu := { t.modu with
          mode := .blackHold, freq := some t.settings.blackHz
          increment := (t.settings.blackHz * 65536 + 9600) / 19200 } })) ∧
  ∀ (dt : Nat) (s : State),
    let t := elapse dt s
    let u := { t with aux := { t.aux with tonesDue := t.aux.tonesDue - 1 } }
    let acc := t.modu.acc + BitVec.ofNat 16 t.modu.increment
    let row := t.markGen.rowAcc + BitVec.ofNat 16 t.markGen.rowInc
    let col := t.markGen.colAcc + BitVec.ofNat 16 t.markGen.colInc
    let sine (a : BitVec 16) := sineTable.getD (a.toNat / 256) 128
    (t.aux.tonesDue = 0 → exec (.phaseUpdate dt) s = .next t) ∧
    (0 < t.aux.tonesDue →
      (t.modu.mode = .silent → exec (.phaseUpdate dt) s = .next u) ∧
      (t.modu.mode = .pair → exec (.phaseUpdate dt) s = .next { u with
        markGen := { t.markGen with rowAcc := row, colAcc := col }
        modu := { t.modu with dac := (sine row + sine col) / 2 } }) ∧
      (t.modu.mode ∉ [.silent, .pair] → exec (.phaseUpdate dt) s = .next { u with
        modu := { t.modu with acc := acc, dac := sine acc } }))

/-- The printer begins a slip: line 1, no character sent, the restart mark clear (R160). -/
def Sys2Proof.slipBegins (i : PrintItem) (s : State) : State :=
  { s with
    slips := { s.slips with
      printer := .printing
      printing := some { item := i, line := 1, chars := 0, restarted := false } }
    aux := { s.aux with charTime := 0, paperChecked := false } }

/-- A text as the codes of its characters (R159). -/
def Sys2Proof.ascii (t : String) : List Byte := t.toList.map fun c => BitVec.ofNat 8 c.toNat

/-- A number as so many decimal digits, leading zeros kept. -/
def Sys2Proof.digits (width n : Nat) : List Byte :=
  (List.range width).map fun i => BitVec.ofNat 8 (48 + n / 10 ^ (width - 1 - i) % 10)

/-- A number in decimal without leading zeros. -/
def Sys2Proof.plainNumber (n : Nat) (t : List Byte) : Prop :=
  ∃ width, 1 ≤ width ∧ t = digits width n ∧ n < 10 ^ width ∧ (width = 1 ∨ 10 ^ (width - 1) ≤ n)

/-- A day as five digits, a space, and a second of day as HH:MM:SS (R169). -/
def Sys2Proof.stampText (t : Stamp) : List Byte :=
  digits 5 t.day ++ ascii " " ++ digits 2 (t.second / 3600) ++ ascii ":" ++
    digits 2 (t.second / 60 % 60) ++ ascii ":" ++ digits 2 (t.second % 60)

/-- Slips and their printing (R153 to R164, R169). A slip is printed as its nine lines, each in the layout of
R169, and names its destination as R33 forms it: the dial string of an explicit route, a directory record's
label, or the word ROUTE and the index of an EMPTY one. A leg handed over gets its record with the next number,
which runs from 9999 to 1, and a SLIP cause, or is owed while the queue holds 8; an idle printer takes the copy when
a reprint is asked for, else the oldest unprinted record. A character is strobed once the paper has been seen
and BUSY is low; without paper the printer waits, and BUSY high for 10 s faults it, each with a PRINTER cause;
paper, or BUSY low, starts the slip again from line 1, marked restarted if a character had been sent. That
PAPER_OUT is read once for each character is the model's reading of R159 (assumption log 24); that the 10 s are
timed from the strobe before or the slip's start (assumption log 35) and that BUSY_TIMEOUT before its time changes
nothing but time (assumption log 3) are the model's choices. -/
def Obligations.SlipsAreMadeAndPrintedCharacterByCharacter : Prop :=
  (∀ (r : SlipRec) (copy restarted : Bool),
    (∀ n ∈ [r.attempts, r.notes.short, r.notes.fill, r.notes.slip, r.notes.lamp, r.notes.bridge],
      n < 10000000000) →
    let slash := ascii "/"
    let code (ds : List (Fin 10)) : List Byte := ds.map fun d => BitVec.ofNat 8 (48 + d.val)
    slipLine r copy restarted 1 = ascii "WIREPHOTO RECEIPT " ++ digits 4 r.number ++
      (if copy then ascii " COPY" else if restarted then ascii " RESTARTED" else []) ∧
    slipLine r copy restarted 2 = ascii "START DAY " ++ stampText r.firstAttempt ∧
    slipLine r copy restarted 3 = r.slug.getD [] ∧
    slipLine r copy restarted 4 = ascii "TO " ++ r.routeText ∧
    (∃ a, plainNumber r.attempts a ∧
      slipLine r copy restarted 5 = ascii "LINES " ++ digits 4 r.linesSent ++ slash ++
        digits 4 r.lineCount ++ ascii " ATTEMPTS " ++ a) ∧
    slipLine r copy restarted 6 = ascii "RESULT " ++
      (match r.outcome with
        | .confirmed => ascii "CONFIRMED"
        | .unconfirmed => ascii "UNCONFIRMED"
        | .wrongStation => ascii "WRONG_STATION"
        | .failed => ascii "FAILED"
        | .cancelled => ascii "CANCELLED"
        | .skipped => ascii "SKIPPED"
        | .pending => []
        | .active => []
        | .retryWait => []) ++
      (match r.reason with
        | none => []
        | some .noAnswer => ascii " NO_ANSWER"
        | some .lineDead => ascii " LINE_DEAD"
        | some .dropped => ascii " DROPPED"
        | some .notReady => ascii " NOT_READY"
        | some .drum => ascii " DRUM"
        | some .lamp => ascii " LAMP"
        | some .noRoute => ascii " NO_ROUTE") ∧
    slipLine r copy restarted 7 =
      (match r.answerback with
        | some a => ascii "ANSWERBACK " ++ code a.code ++ ascii " GRADE " ++ code [a.grade]
        | none => if r.garbled then ascii "GARBLED" else ascii "NOT CONFIRMED") ∧
    (∃ a b c d e, plainNumber r.notes.short a ∧ plainNumber r.notes.fill b ∧ plainNumber r.notes.slip c ∧
      plainNumber r.notes.lamp d ∧ plainNumber r.notes.bridge e ∧
      slipLine r copy restarted 8 = ascii "N " ++ a ++ slash ++ b ++ slash ++ c ++ slash ++ d ++ slash ++ e) ∧
    slipLine r copy restarted 9 =
      ascii "STN " ++ code r.station ++ ascii " END " ++ stampText r.endTime) ∧
  (∀ s : State,
    (∀ d : DialSpec, routeText s (.explicit d) = d.string.map fun x => match x with
      | .digit k => BitVec.ofNat 8 (48 + k.val)
      | .star => 42
      | .hash => 35
      | .pause => 80
      | .flash => 70) ∧
    (∀ (i : Nat) (r : RouteRec), s.routes[i]? = some (some r) → routeText s (.directory i) = r.label) ∧
    ∀ i : Nat, s.routes[i]? = some none → routeText s (.directory i) = ascii "ROUTE " ++ digits 2 i) ∧
  (∀ (s : State) (j l : Nat) (x : Job) (g : Leg),
    s.job? j = some x → x.legs[l]? = some g → ∀ a e, g.firstAttempt = some a → g.endTime = some e →
    (8 ≤ s.slips.queue.length → handOver j l s =
      { s with slips := { s.slips with owed := s.slips.owed ++ [(j, l)] } }.setJob j
        (some { x with legs := x.legs.set l { g with slipOwed := true } })) ∧
    (s.slips.queue.length < 8 → handOver j l s = printerLook (({ s with slips := { s.slips with
      nextNumber := if s.slips.nextNumber = 9999 then 1 else s.slips.nextNumber + 1
      queue := s.slips.queue ++ [
        { number := s.slips.nextNumber, job := j, leg := l, owner := x.owner, slug := x.slug
          routeText := routeText s g.route, station := s.settings.stationCode, attempts := g.attempts
          linesSent := g.linesSent, lineCount := x.lineCount, firstAttempt := a, endTime := e
          outcome := g.state
          reason := if g.state = .confirmed ∨ g.state = .unconfirmed ∨ g.state = .wrongStation then none
            else g.lastReason
          answerback := g.answerback, garbled := g.garbled, notes := g.notes, printed := false
          collected := false }] } } : State).causeSlip x.owner))) ∧
  (∀ s : State,
    (s.slips.printer ≠ .idle → printerLook s = s) ∧
    (∀ r, s.slips.printer = .idle → s.slips.reprint = true → s.slips.copy = some r →
      printerLook s = slipBegins .copy { s with slips := { s.slips with reprint := false } }) ∧
    (s.slips.printer = .idle → (s.slips.reprint = false ∨ s.slips.copy = none) →
      (∀ (older : List SlipRec) (r : SlipRec) (newer : List SlipRec),
        s.slips.queue = older ++ r :: newer → (∀ o ∈ older, o.printed = true) → r.printed = false →
        printerLook s = slipBegins (.record r.number) s) ∧
      ((∀ r ∈ s.slips.queue, r.printed = true) → printerLook s = s))) ∧
  (∀ (dt : Nat) (paperOut busy : Bool) (s : State) (p : Printing) (r : SlipRec) (ch : Byte),
    let t := elapse dt s
    let seen := { t with pins := { t.pins with paperOut := paperOut, busy := busy } }
    let checked := { seen with aux := { t.aux with paperChecked := true } }
    let strobed := { seen with
      pins := { seen.pins with prData := some ch, strobes := t.pins.strobes + 1 }
      aux := { t.aux with charTime := 0, paperChecked := false } }
    let copying := decide (p.item = .copy)
    t.slips.printer = .printing → t.slips.printing = some p →
    (p.item = .copy ∧ t.slips.copy = some r ∨ ∃ older newer, t.slips.queue = older ++ r :: newer ∧
      p.item = .record r.number ∧ ∀ o ∈ older, o.number ≠ r.number) →
    (slipLine r copying p.restarted p.line ++ [10])[p.chars]? = some ch →
    exec (.printCharacter dt paperOut busy) s = .next
      (if paperOut = true ∧ t.aux.paperChecked = false then
        { seen with slips := { t.slips with printer := .paperWait } }.causePrinter
       else if busy = true then checked
       else if ch ≠ 10 then
        { strobed with slips := { t.slips with printing := some { p with chars := p.chars + 1 } } }
       else if p.line < 9 then
        { strobed with slips := { t.slips with
          printing := some { p with line := p.line + 1, chars := 0 } } }
       else slipEnd p strobed)) ∧
  ∀ (dt : Nat) (s : State),
    let t := elapse dt s
    let again (u : State) (p : Printing) : State := { u with
      slips := { t.slips with
        printer := .printing
        printing := some { p with
          line := 1, chars := 0, restarted := p.restarted || decide (1 < p.line ∨ 0 < p.chars) } }
      aux := { t.aux with charTime := 0, paperChecked := false } }
    let paper := { t with pins := { t.pins with paperOut := false } }
    let low := { t with pins := { t.pins with busy := false } }
    (∀ p, t.slips.printing = some p →
      exec (.paperOutClears dt) s =
        .next (if t.slips.printer = .paperWait then again paper p else paper) ∧
      exec (.busyLowInFault dt) s = .next (if t.slips.printer = .fault then again low p else low)) ∧
    exec (.busyTimeout dt) s = .next
      (if t.slips.printer = .printing ∧ 10000000 ≤ t.aux.charTime then
        ({ t with
          pins := { t.pins with busy := true }
          slips := { t.slips with printer := .fault } } : State).causePrinter
       else t)

/-- The end of a slip's printing (R157, R158, R161). A record printed is marked, its copy as it then stands
becomes the last-printed copy, and it leaves the queue when it has been collected or collection is OFF, the
oldest owed slip then taking its place; after a copy nothing in the queue changes. The printer is idle and
looks again. -/
def Obligations.APrintedSlipIsMarkedCopiedAndRemoved : Prop :=
  ∀ (s : State) (p : Printing),
    let idle (t : State) : State := { t with slips := { t.slips with printer := .idle, printing := none } }
    (p.item = .copy → slipEnd p s = printerLook (idle s)) ∧
    (∀ (older : List SlipRec) (r : SlipRec) (newer : List SlipRec),
      p.item = .record r.number → s.slips.queue = older ++ r :: newer →
      (s.slips.queue.map fun (o : SlipRec) => o.number).Nodup →
      let done := { r with printed := true }
      let kept (q : List SlipRec) : State :=
        { s with slips := { s.slips with queue := q, copy := some done } }
      slipEnd p s = printerLook (idle
        (if r.collected = true ∨ s.slips.collection = false then createOwed (kept (older ++ newer))
         else kept (older ++ done :: newer)))) ∧
    (s.slips.owed = [] → createOwed s = s) ∧
    ∀ (j l : Nat) (rest : List (Nat × Nat)), s.slips.owed = (j, l) :: rest →
      createOwed s = (createSlip j l { s with slips := { s.slips with owed := rest } }).modLeg j l
        fun g => { g with slipOwed := false }

/-- The lamp frame (R186): every 50 ms each lamp's condition as it stands becomes its bit, bit 0 the hook and
bit 15 the printer fault. The sixteen bits go out on LAMP_DATA, bit 15 first, one on each LAMP_CLK pulse, and one
LAMP_LATCH pulse puts them on the lamps. That the frame is one step is the model's choice (assumption log 44), and
so is that LAMP_FRAME before its 50 ms changes nothing but time, and one sent late leaves the time past them
(assumption log 3). -/
def Obligations.EachLampShowsItsConditionAsTheFrameBegins : Prop :=
  ∀ (dt : Nat) (paperOut : Bool) (s : State),
    let t := elapse dt s
    let lit : List Prop :=
      [ t.line.hook = true,
        t.dialer.state ≠ .idle,
        t.modu.mode = .phasing ∨ t.modu.mode = .picture,
        t.modu.mode = .bridge,
        t.line.state = .talk,
        t.drum.state = .locked,
        t.drum.state = .fault,
        t.scan.lampLow = true ∨ t.mountQueue.hold = some .lampLow,
        paperOut = true,
        t.mountQueue.hold ≠ none,
        t.modes.localMode = true,
        t.modes.attended = true ∧ t.modes.legEnd = true,
        t.slips.owed ≠ [],
        ∃ j x, t.job? j = some x ∧ x.state = .mounted,
        t.mountQueue.entries ≠ [] ∧ ∀ j x, t.job? j = some x → x.state ≠ .mounted,
        t.slips.printer = .fault ]
    (t.aux.lampTime < 50000 → exec (.lampFrame dt paperOut) s = .next t) ∧
    (50000 ≤ t.aux.lampTime → ∃ frame : BitVec 16,
      exec (.lampFrame dt paperOut) s = .next { t with
        aux := { t.aux with lampTime := t.aux.lampTime - 50000 }
        pins := { t.pins with
          paperOut := paperOut
          lampSent := (List.range 16).map fun i => frame.getLsbD (15 - i)
          lampClocks := t.pins.lampClocks + 16
          lampLatches := t.pins.lampLatches + 1
          lampBoard := frame } } ∧
      ∀ (n : Nat) (c : Prop), lit[n]? = some c → (frame.getLsbD n = true ↔ c))

/-! ### Resets -/

/-- MACHINE_RESET (R26, R27, R66, R68, R82, R103, R120, R151, R170, R179, R186 to R188, R193, R194): the jobs, the mount queue with its
hold and the commit counter are cleared; the timer, the scanner, the ring and the modulator return to their
power-on values; the drum is braked, or stopped where it was still; the head keeps its place where its count
is sure, a scan step with none owed going on to its end; a hook that was closed opens into GUARD; the owed list is emptied, the latches and the leg-end flag
cleared; the directory (R27), the settings (R188), the curve (R193), the clock (R194), the modes, the slip queue,
the printer and the links are kept, and the lamp frame's cadence runs on (R186), as does every other timer of the
model's own but the detector's. POWER_ON_RESET returns the whole part to its power-on state, State.reset as another
statement writes it out, with the cover and the input pins as they read (assumption log 7); that it keeps the
waiting commands is the model's choice (assumption log 25), and so is every value at reset that the spec does not
give: the mark generator's accumulators, increments and step time, the dialer's breaks and step time and the
output pins (assumption log 8), and the fields of aux (assumption log 38). -/
def Obligations.ResetsClearWhatTheSpecSaysAndKeepTheRest : Prop :=
  (∀ (lk : Link) (b : Byte) (s : State), Taken codeMachineReset lk b [] s → ∃ t,
    exec (.machineReset lk b) s = .next (placeReply lk { result := .ok, data := .empty } t) ∧
    t = { takeRequest lk s with
      jobs := Vector.replicate 16 none
      commitCounter := 0
      mountQueue := { entries := [], hold := none }
      drum := t.drum, posTimer := PosTimer.reset, head := t.head, scan := Scanner.reset
      ring := Vector.replicate 4 .free, modu := Modulator.reset, markGen := MarkGen.reset
      dialer := { s.dialer with state := .idle, breaks := 0, left := 0 }
      dialBuf := none, line := t.line
      slips := { s.slips with owed := [] }
      modes := { s.modes with legEnd := false }
      deskAttn := t.deskAttn, panelAttn := t.panelAttn
      aux := if s.line.state = .idle ∨ s.line.state = .guard then s.aux
        else { s.aux with detTime := 0, sinceSymbol := none } } ∧
    (∀ l : Link, t.attn l = { s.attn l with latches := 0, line := false }) ∧
    t.drum = (match s.drum.state with
      | .stopped => drumRests .stopped none s.drum
      | .braking => { drumRests .braking none s.drum with brakingTime := s.drum.brakingTime }
      | .fault =>
        if 2000000 ≤ s.drum.indexTime then drumRests .stopped none s.drum
        else drumRests .braking none s.drum
      | _ => drumRests .braking none s.drum) ∧
    t.head = { s.head with
      motion := if s.head.motion = .step ∧ s.head.owed = 0 then .step else .idle
      target := none, owed := 0
      valid := s.head.valid &&
        decide (s.head.motion = .idle ∨ (s.head.motion = .step ∧ s.head.owed = 0)) } ∧
    t.line =
      { LineRec.reset with
        state := if s.line.state = .idle then .idle else .guard
        timer := if s.line.state = .idle ∨ s.line.state = .guard then s.line.timer
          else some { limit := .guardTime, left := 1000000 * s.settings.guardTime } }) ∧
  ∀ (coverOpen home loop paperOut busy : Bool) (s : State),
    exec (.powerOnReset coverOpen home loop paperOut busy) s = .next { State.reset with
      pending := s.pending
      drum := { State.reset.drum with coverOpen := coverOpen }
      pins := { State.reset.pins with home := home, loop := loop, paperOut := paperOut, busy := busy } }
end

