-- ==== Sys2Proof/Laws/State.lean ====
section
/-! SUPPORT. What each named write of a field does to every field: one lemma per field per write. -/

namespace Sys2Proof.Machine

@[simp] theorem State.setPending_pending (s : State) (x : List Instr) : (s.setPending x).pending = x := rfl
@[simp] theorem State.setPending_jobs (s : State) (x : List Instr) : (s.setPending x).jobs = s.jobs := rfl
@[simp] theorem State.setPending_commitCounter (s : State) (x : List Instr) : (s.setPending x).commitCounter = s.commitCounter := rfl
@[simp] theorem State.setPending_mountQueue (s : State) (x : List Instr) : (s.setPending x).mountQueue = s.mountQueue := rfl
@[simp] theorem State.setPending_routes (s : State) (x : List Instr) : (s.setPending x).routes = s.routes := rfl
@[simp] theorem State.setPending_drum (s : State) (x : List Instr) : (s.setPending x).drum = s.drum := rfl
@[simp] theorem State.setPending_posTimer (s : State) (x : List Instr) : (s.setPending x).posTimer = s.posTimer := rfl
@[simp] theorem State.setPending_head (s : State) (x : List Instr) : (s.setPending x).head = s.head := rfl
@[simp] theorem State.setPending_scan (s : State) (x : List Instr) : (s.setPending x).scan = s.scan := rfl
@[simp] theorem State.setPending_ring (s : State) (x : List Instr) : (s.setPending x).ring = s.ring := rfl
@[simp] theorem State.setPending_modu (s : State) (x : List Instr) : (s.setPending x).modu = s.modu := rfl
@[simp] theorem State.setPending_markGen (s : State) (x : List Instr) : (s.setPending x).markGen = s.markGen := rfl
@[simp] theorem State.setPending_dialer (s : State) (x : List Instr) : (s.setPending x).dialer = s.dialer := rfl
@[simp] theorem State.setPending_dialBuf (s : State) (x : List Instr) : (s.setPending x).dialBuf = s.dialBuf := rfl
@[simp] theorem State.setPending_line (s : State) (x : List Instr) : (s.setPending x).line = s.line := rfl
@[simp] theorem State.setPending_slips (s : State) (x : List Instr) : (s.setPending x).slips = s.slips := rfl
@[simp] theorem State.setPending_deskLink (s : State) (x : List Instr) : (s.setPending x).deskLink = s.deskLink := rfl
@[simp] theorem State.setPending_panelLink (s : State) (x : List Instr) : (s.setPending x).panelLink = s.panelLink := rfl
@[simp] theorem State.setPending_deskAttn (s : State) (x : List Instr) : (s.setPending x).deskAttn = s.deskAttn := rfl
@[simp] theorem State.setPending_panelAttn (s : State) (x : List Instr) : (s.setPending x).panelAttn = s.panelAttn := rfl
@[simp] theorem State.setPending_modes (s : State) (x : List Instr) : (s.setPending x).modes = s.modes := rfl
@[simp] theorem State.setPending_settings (s : State) (x : List Instr) : (s.setPending x).settings = s.settings := rfl
@[simp] theorem State.setPending_curve (s : State) (x : List Instr) : (s.setPending x).curve = s.curve := rfl
@[simp] theorem State.setPending_clock (s : State) (x : List Instr) : (s.setPending x).clock = s.clock := rfl
@[simp] theorem State.setPending_pins (s : State) (x : List Instr) : (s.setPending x).pins = s.pins := rfl
@[simp] theorem State.setPending_aux (s : State) (x : List Instr) : (s.setPending x).aux = s.aux := rfl
@[simp] theorem State.setPending_setPending (s : State) (x y : List Instr) : (s.setPending x).setPending y = s.setPending y := rfl

@[simp] theorem State.setJobs_pending (s : State) (x : Vector (Option Job) 16) : (s.setJobs x).pending = s.pending := rfl
@[simp] theorem State.setJobs_jobs (s : State) (x : Vector (Option Job) 16) : (s.setJobs x).jobs = x := rfl
@[simp] theorem State.setJobs_commitCounter (s : State) (x : Vector (Option Job) 16) : (s.setJobs x).commitCounter = s.commitCounter := rfl
@[simp] theorem State.setJobs_mountQueue (s : State) (x : Vector (Option Job) 16) : (s.setJobs x).mountQueue = s.mountQueue := rfl
@[simp] theorem State.setJobs_routes (s : State) (x : Vector (Option Job) 16) : (s.setJobs x).routes = s.routes := rfl
@[simp] theorem State.setJobs_drum (s : State) (x : Vector (Option Job) 16) : (s.setJobs x).drum = s.drum := rfl
@[simp] theorem State.setJobs_posTimer (s : State) (x : Vector (Option Job) 16) : (s.setJobs x).posTimer = s.posTimer := rfl
@[simp] theorem State.setJobs_head (s : State) (x : Vector (Option Job) 16) : (s.setJobs x).head = s.head := rfl
@[simp] theorem State.setJobs_scan (s : State) (x : Vector (Option Job) 16) : (s.setJobs x).scan = s.scan := rfl
@[simp] theorem State.setJobs_ring (s : State) (x : Vector (Option Job) 16) : (s.setJobs x).ring = s.ring := rfl
@[simp] theorem State.setJobs_modu (s : State) (x : Vector (Option Job) 16) : (s.setJobs x).modu = s.modu := rfl
@[simp] theorem State.setJobs_markGen (s : State) (x : Vector (Option Job) 16) : (s.setJobs x).markGen = s.markGen := rfl
@[simp] theorem State.setJobs_dialer (s : State) (x : Vector (Option Job) 16) : (s.setJobs x).dialer = s.dialer := rfl
@[simp] theorem State.setJobs_dialBuf (s : State) (x : Vector (Option Job) 16) : (s.setJobs x).dialBuf = s.dialBuf := rfl
@[simp] theorem State.setJobs_line (s : State) (x : Vector (Option Job) 16) : (s.setJobs x).line = s.line := rfl
@[simp] theorem State.setJobs_slips (s : State) (x : Vector (Option Job) 16) : (s.setJobs x).slips = s.slips := rfl
@[simp] theorem State.setJobs_deskLink (s : State) (x : Vector (Option Job) 16) : (s.setJobs x).deskLink = s.deskLink := rfl
@[simp] theorem State.setJobs_panelLink (s : State) (x : Vector (Option Job) 16) : (s.setJobs x).panelLink = s.panelLink := rfl
@[simp] theorem State.setJobs_deskAttn (s : State) (x : Vector (Option Job) 16) : (s.setJobs x).deskAttn = s.deskAttn := rfl
@[simp] theorem State.setJobs_panelAttn (s : State) (x : Vector (Option Job) 16) : (s.setJobs x).panelAttn = s.panelAttn := rfl
@[simp] theorem State.setJobs_modes (s : State) (x : Vector (Option Job) 16) : (s.setJobs x).modes = s.modes := rfl
@[simp] theorem State.setJobs_settings (s : State) (x : Vector (Option Job) 16) : (s.setJobs x).settings = s.settings := rfl
@[simp] theorem State.setJobs_curve (s : State) (x : Vector (Option Job) 16) : (s.setJobs x).curve = s.curve := rfl
@[simp] theorem State.setJobs_clock (s : State) (x : Vector (Option Job) 16) : (s.setJobs x).clock = s.clock := rfl
@[simp] theorem State.setJobs_pins (s : State) (x : Vector (Option Job) 16) : (s.setJobs x).pins = s.pins := rfl
@[simp] theorem State.setJobs_aux (s : State) (x : Vector (Option Job) 16) : (s.setJobs x).aux = s.aux := rfl
@[simp] theorem State.setJobs_setJobs (s : State) (x y : Vector (Option Job) 16) : (s.setJobs x).setJobs y = s.setJobs y := rfl

@[simp] theorem State.setCommitCounter_pending (s : State) (x : Nat) : (s.setCommitCounter x).pending = s.pending := rfl
@[simp] theorem State.setCommitCounter_jobs (s : State) (x : Nat) : (s.setCommitCounter x).jobs = s.jobs := rfl
@[simp] theorem State.setCommitCounter_commitCounter (s : State) (x : Nat) : (s.setCommitCounter x).commitCounter = x := rfl
@[simp] theorem State.setCommitCounter_mountQueue (s : State) (x : Nat) : (s.setCommitCounter x).mountQueue = s.mountQueue := rfl
@[simp] theorem State.setCommitCounter_routes (s : State) (x : Nat) : (s.setCommitCounter x).routes = s.routes := rfl
@[simp] theorem State.setCommitCounter_drum (s : State) (x : Nat) : (s.setCommitCounter x).drum = s.drum := rfl
@[simp] theorem State.setCommitCounter_posTimer (s : State) (x : Nat) : (s.setCommitCounter x).posTimer = s.posTimer := rfl
@[simp] theorem State.setCommitCounter_head (s : State) (x : Nat) : (s.setCommitCounter x).head = s.head := rfl
@[simp] theorem State.setCommitCounter_scan (s : State) (x : Nat) : (s.setCommitCounter x).scan = s.scan := rfl
@[simp] theorem State.setCommitCounter_ring (s : State) (x : Nat) : (s.setCommitCounter x).ring = s.ring := rfl
@[simp] theorem State.setCommitCounter_modu (s : State) (x : Nat) : (s.setCommitCounter x).modu = s.modu := rfl
@[simp] theorem State.setCommitCounter_markGen (s : State) (x : Nat) : (s.setCommitCounter x).markGen = s.markGen := rfl
@[simp] theorem State.setCommitCounter_dialer (s : State) (x : Nat) : (s.setCommitCounter x).dialer = s.dialer := rfl
@[simp] theorem State.setCommitCounter_dialBuf (s : State) (x : Nat) : (s.setCommitCounter x).dialBuf = s.dialBuf := rfl
@[simp] theorem State.setCommitCounter_line (s : State) (x : Nat) : (s.setCommitCounter x).line = s.line := rfl
@[simp] theorem State.setCommitCounter_slips (s : State) (x : Nat) : (s.setCommitCounter x).slips = s.slips := rfl
@[simp] theorem State.setCommitCounter_deskLink (s : State) (x : Nat) : (s.setCommitCounter x).deskLink = s.deskLink := rfl
@[simp] theorem State.setCommitCounter_panelLink (s : State) (x : Nat) : (s.setCommitCounter x).panelLink = s.panelLink := rfl
@[simp] theorem State.setCommitCounter_deskAttn (s : State) (x : Nat) : (s.setCommitCounter x).deskAttn = s.deskAttn := rfl
@[simp] theorem State.setCommitCounter_panelAttn (s : State) (x : Nat) : (s.setCommitCounter x).panelAttn = s.panelAttn := rfl
@[simp] theorem State.setCommitCounter_modes (s : State) (x : Nat) : (s.setCommitCounter x).modes = s.modes := rfl
@[simp] theorem State.setCommitCounter_settings (s : State) (x : Nat) : (s.setCommitCounter x).settings = s.settings := rfl
@[simp] theorem State.setCommitCounter_curve (s : State) (x : Nat) : (s.setCommitCounter x).curve = s.curve := rfl
@[simp] theorem State.setCommitCounter_clock (s : State) (x : Nat) : (s.setCommitCounter x).clock = s.clock := rfl
@[simp] theorem State.setCommitCounter_pins (s : State) (x : Nat) : (s.setCommitCounter x).pins = s.pins := rfl
@[simp] theorem State.setCommitCounter_aux (s : State) (x : Nat) : (s.setCommitCounter x).aux = s.aux := rfl
@[simp] theorem State.setCommitCounter_setCommitCounter (s : State) (x y : Nat) : (s.setCommitCounter x).setCommitCounter y = s.setCommitCounter y := rfl

@[simp] theorem State.setMountQueue_pending (s : State) (x : MountQueue) : (s.setMountQueue x).pending = s.pending := rfl
@[simp] theorem State.setMountQueue_jobs (s : State) (x : MountQueue) : (s.setMountQueue x).jobs = s.jobs := rfl
@[simp] theorem State.setMountQueue_commitCounter (s : State) (x : MountQueue) : (s.setMountQueue x).commitCounter = s.commitCounter := rfl
@[simp] theorem State.setMountQueue_mountQueue (s : State) (x : MountQueue) : (s.setMountQueue x).mountQueue = x := rfl
@[simp] theorem State.setMountQueue_routes (s : State) (x : MountQueue) : (s.setMountQueue x).routes = s.routes := rfl
@[simp] theorem State.setMountQueue_drum (s : State) (x : MountQueue) : (s.setMountQueue x).drum = s.drum := rfl
@[simp] theorem State.setMountQueue_posTimer (s : State) (x : MountQueue) : (s.setMountQueue x).posTimer = s.posTimer := rfl
@[simp] theorem State.setMountQueue_head (s : State) (x : MountQueue) : (s.setMountQueue x).head = s.head := rfl
@[simp] theorem State.setMountQueue_scan (s : State) (x : MountQueue) : (s.setMountQueue x).scan = s.scan := rfl
@[simp] theorem State.setMountQueue_ring (s : State) (x : MountQueue) : (s.setMountQueue x).ring = s.ring := rfl
@[simp] theorem State.setMountQueue_modu (s : State) (x : MountQueue) : (s.setMountQueue x).modu = s.modu := rfl
@[simp] theorem State.setMountQueue_markGen (s : State) (x : MountQueue) : (s.setMountQueue x).markGen = s.markGen := rfl
@[simp] theorem State.setMountQueue_dialer (s : State) (x : MountQueue) : (s.setMountQueue x).dialer = s.dialer := rfl
@[simp] theorem State.setMountQueue_dialBuf (s : State) (x : MountQueue) : (s.setMountQueue x).dialBuf = s.dialBuf := rfl
@[simp] theorem State.setMountQueue_line (s : State) (x : MountQueue) : (s.setMountQueue x).line = s.line := rfl
@[simp] theorem State.setMountQueue_slips (s : State) (x : MountQueue) : (s.setMountQueue x).slips = s.slips := rfl
@[simp] theorem State.setMountQueue_deskLink (s : State) (x : MountQueue) : (s.setMountQueue x).deskLink = s.deskLink := rfl
@[simp] theorem State.setMountQueue_panelLink (s : State) (x : MountQueue) : (s.setMountQueue x).panelLink = s.panelLink := rfl
@[simp] theorem State.setMountQueue_deskAttn (s : State) (x : MountQueue) : (s.setMountQueue x).deskAttn = s.deskAttn := rfl
@[simp] theorem State.setMountQueue_panelAttn (s : State) (x : MountQueue) : (s.setMountQueue x).panelAttn = s.panelAttn := rfl
@[simp] theorem State.setMountQueue_modes (s : State) (x : MountQueue) : (s.setMountQueue x).modes = s.modes := rfl
@[simp] theorem State.setMountQueue_settings (s : State) (x : MountQueue) : (s.setMountQueue x).settings = s.settings := rfl
@[simp] theorem State.setMountQueue_curve (s : State) (x : MountQueue) : (s.setMountQueue x).curve = s.curve := rfl
@[simp] theorem State.setMountQueue_clock (s : State) (x : MountQueue) : (s.setMountQueue x).clock = s.clock := rfl
@[simp] theorem State.setMountQueue_pins (s : State) (x : MountQueue) : (s.setMountQueue x).pins = s.pins := rfl
@[simp] theorem State.setMountQueue_aux (s : State) (x : MountQueue) : (s.setMountQueue x).aux = s.aux := rfl
@[simp] theorem State.setMountQueue_setMountQueue (s : State) (x y : MountQueue) : (s.setMountQueue x).setMountQueue y = s.setMountQueue y := rfl

@[simp] theorem State.setRoutes_pending (s : State) (x : Vector (Option RouteRec) 24) : (s.setRoutes x).pending = s.pending := rfl
@[simp] theorem State.setRoutes_jobs (s : State) (x : Vector (Option RouteRec) 24) : (s.setRoutes x).jobs = s.jobs := rfl
@[simp] theorem State.setRoutes_commitCounter (s : State) (x : Vector (Option RouteRec) 24) : (s.setRoutes x).commitCounter = s.commitCounter := rfl
@[simp] theorem State.setRoutes_mountQueue (s : State) (x : Vector (Option RouteRec) 24) : (s.setRoutes x).mountQueue = s.mountQueue := rfl
@[simp] theorem State.setRoutes_routes (s : State) (x : Vector (Option RouteRec) 24) : (s.setRoutes x).routes = x := rfl
@[simp] theorem State.setRoutes_drum (s : State) (x : Vector (Option RouteRec) 24) : (s.setRoutes x).drum = s.drum := rfl
@[simp] theorem State.setRoutes_posTimer (s : State) (x : Vector (Option RouteRec) 24) : (s.setRoutes x).posTimer = s.posTimer := rfl
@[simp] theorem State.setRoutes_head (s : State) (x : Vector (Option RouteRec) 24) : (s.setRoutes x).head = s.head := rfl
@[simp] theorem State.setRoutes_scan (s : State) (x : Vector (Option RouteRec) 24) : (s.setRoutes x).scan = s.scan := rfl
@[simp] theorem State.setRoutes_ring (s : State) (x : Vector (Option RouteRec) 24) : (s.setRoutes x).ring = s.ring := rfl
@[simp] theorem State.setRoutes_modu (s : State) (x : Vector (Option RouteRec) 24) : (s.setRoutes x).modu = s.modu := rfl
@[simp] theorem State.setRoutes_markGen (s : State) (x : Vector (Option RouteRec) 24) : (s.setRoutes x).markGen = s.markGen := rfl
@[simp] theorem State.setRoutes_dialer (s : State) (x : Vector (Option RouteRec) 24) : (s.setRoutes x).dialer = s.dialer := rfl
@[simp] theorem State.setRoutes_dialBuf (s : State) (x : Vector (Option RouteRec) 24) : (s.setRoutes x).dialBuf = s.dialBuf := rfl
@[simp] theorem State.setRoutes_line (s : State) (x : Vector (Option RouteRec) 24) : (s.setRoutes x).line = s.line := rfl
@[simp] theorem State.setRoutes_slips (s : State) (x : Vector (Option RouteRec) 24) : (s.setRoutes x).slips = s.slips := rfl
@[simp] theorem State.setRoutes_deskLink (s : State) (x : Vector (Option RouteRec) 24) : (s.setRoutes x).deskLink = s.deskLink := rfl
@[simp] theorem State.setRoutes_panelLink (s : State) (x : Vector (Option RouteRec) 24) : (s.setRoutes x).panelLink = s.panelLink := rfl
@[simp] theorem State.setRoutes_deskAttn (s : State) (x : Vector (Option RouteRec) 24) : (s.setRoutes x).deskAttn = s.deskAttn := rfl
@[simp] theorem State.setRoutes_panelAttn (s : State) (x : Vector (Option RouteRec) 24) : (s.setRoutes x).panelAttn = s.panelAttn := rfl
@[simp] theorem State.setRoutes_modes (s : State) (x : Vector (Option RouteRec) 24) : (s.setRoutes x).modes = s.modes := rfl
@[simp] theorem State.setRoutes_settings (s : State) (x : Vector (Option RouteRec) 24) : (s.setRoutes x).settings = s.settings := rfl
@[simp] theorem State.setRoutes_curve (s : State) (x : Vector (Option RouteRec) 24) : (s.setRoutes x).curve = s.curve := rfl
@[simp] theorem State.setRoutes_clock (s : State) (x : Vector (Option RouteRec) 24) : (s.setRoutes x).clock = s.clock := rfl
@[simp] theorem State.setRoutes_pins (s : State) (x : Vector (Option RouteRec) 24) : (s.setRoutes x).pins = s.pins := rfl
@[simp] theorem State.setRoutes_aux (s : State) (x : Vector (Option RouteRec) 24) : (s.setRoutes x).aux = s.aux := rfl
@[simp] theorem State.setRoutes_setRoutes (s : State) (x y : Vector (Option RouteRec) 24) : (s.setRoutes x).setRoutes y = s.setRoutes y := rfl

@[simp] theorem State.setDrum_pending (s : State) (x : Drum) : (s.setDrum x).pending = s.pending := rfl
@[simp] theorem State.setDrum_jobs (s : State) (x : Drum) : (s.setDrum x).jobs = s.jobs := rfl
@[simp] theorem State.setDrum_commitCounter (s : State) (x : Drum) : (s.setDrum x).commitCounter = s.commitCounter := rfl
@[simp] theorem State.setDrum_mountQueue (s : State) (x : Drum) : (s.setDrum x).mountQueue = s.mountQueue := rfl
@[simp] theorem State.setDrum_routes (s : State) (x : Drum) : (s.setDrum x).routes = s.routes := rfl
@[simp] theorem State.setDrum_drum (s : State) (x : Drum) : (s.setDrum x).drum = x := rfl
@[simp] theorem State.setDrum_posTimer (s : State) (x : Drum) : (s.setDrum x).posTimer = s.posTimer := rfl
@[simp] theorem State.setDrum_head (s : State) (x : Drum) : (s.setDrum x).head = s.head := rfl
@[simp] theorem State.setDrum_scan (s : State) (x : Drum) : (s.setDrum x).scan = s.scan := rfl
@[simp] theorem State.setDrum_ring (s : State) (x : Drum) : (s.setDrum x).ring = s.ring := rfl
@[simp] theorem State.setDrum_modu (s : State) (x : Drum) : (s.setDrum x).modu = s.modu := rfl
@[simp] theorem State.setDrum_markGen (s : State) (x : Drum) : (s.setDrum x).markGen = s.markGen := rfl
@[simp] theorem State.setDrum_dialer (s : State) (x : Drum) : (s.setDrum x).dialer = s.dialer := rfl
@[simp] theorem State.setDrum_dialBuf (s : State) (x : Drum) : (s.setDrum x).dialBuf = s.dialBuf := rfl
@[simp] theorem State.setDrum_line (s : State) (x : Drum) : (s.setDrum x).line = s.line := rfl
@[simp] theorem State.setDrum_slips (s : State) (x : Drum) : (s.setDrum x).slips = s.slips := rfl
@[simp] theorem State.setDrum_deskLink (s : State) (x : Drum) : (s.setDrum x).deskLink = s.deskLink := rfl
@[simp] theorem State.setDrum_panelLink (s : State) (x : Drum) : (s.setDrum x).panelLink = s.panelLink := rfl
@[simp] theorem State.setDrum_deskAttn (s : State) (x : Drum) : (s.setDrum x).deskAttn = s.deskAttn := rfl
@[simp] theorem State.setDrum_panelAttn (s : State) (x : Drum) : (s.setDrum x).panelAttn = s.panelAttn := rfl
@[simp] theorem State.setDrum_modes (s : State) (x : Drum) : (s.setDrum x).modes = s.modes := rfl
@[simp] theorem State.setDrum_settings (s : State) (x : Drum) : (s.setDrum x).settings = s.settings := rfl
@[simp] theorem State.setDrum_curve (s : State) (x : Drum) : (s.setDrum x).curve = s.curve := rfl
@[simp] theorem State.setDrum_clock (s : State) (x : Drum) : (s.setDrum x).clock = s.clock := rfl
@[simp] theorem State.setDrum_pins (s : State) (x : Drum) : (s.setDrum x).pins = s.pins := rfl
@[simp] theorem State.setDrum_aux (s : State) (x : Drum) : (s.setDrum x).aux = s.aux := rfl
@[simp] theorem State.setDrum_setDrum (s : State) (x y : Drum) : (s.setDrum x).setDrum y = s.setDrum y := rfl

@[simp] theorem State.setPosTimer_pending (s : State) (x : PosTimer) : (s.setPosTimer x).pending = s.pending := rfl
@[simp] theorem State.setPosTimer_jobs (s : State) (x : PosTimer) : (s.setPosTimer x).jobs = s.jobs := rfl
@[simp] theorem State.setPosTimer_commitCounter (s : State) (x : PosTimer) : (s.setPosTimer x).commitCounter = s.commitCounter := rfl
@[simp] theorem State.setPosTimer_mountQueue (s : State) (x : PosTimer) : (s.setPosTimer x).mountQueue = s.mountQueue := rfl
@[simp] theorem State.setPosTimer_routes (s : State) (x : PosTimer) : (s.setPosTimer x).routes = s.routes := rfl
@[simp] theorem State.setPosTimer_drum (s : State) (x : PosTimer) : (s.setPosTimer x).drum = s.drum := rfl
@[simp] theorem State.setPosTimer_posTimer (s : State) (x : PosTimer) : (s.setPosTimer x).posTimer = x := rfl
@[simp] theorem State.setPosTimer_head (s : State) (x : PosTimer) : (s.setPosTimer x).head = s.head := rfl
@[simp] theorem State.setPosTimer_scan (s : State) (x : PosTimer) : (s.setPosTimer x).scan = s.scan := rfl
@[simp] theorem State.setPosTimer_ring (s : State) (x : PosTimer) : (s.setPosTimer x).ring = s.ring := rfl
@[simp] theorem State.setPosTimer_modu (s : State) (x : PosTimer) : (s.setPosTimer x).modu = s.modu := rfl
@[simp] theorem State.setPosTimer_markGen (s : State) (x : PosTimer) : (s.setPosTimer x).markGen = s.markGen := rfl
@[simp] theorem State.setPosTimer_dialer (s : State) (x : PosTimer) : (s.setPosTimer x).dialer = s.dialer := rfl
@[simp] theorem State.setPosTimer_dialBuf (s : State) (x : PosTimer) : (s.setPosTimer x).dialBuf = s.dialBuf := rfl
@[simp] theorem State.setPosTimer_line (s : State) (x : PosTimer) : (s.setPosTimer x).line = s.line := rfl
@[simp] theorem State.setPosTimer_slips (s : State) (x : PosTimer) : (s.setPosTimer x).slips = s.slips := rfl
@[simp] theorem State.setPosTimer_deskLink (s : State) (x : PosTimer) : (s.setPosTimer x).deskLink = s.deskLink := rfl
@[simp] theorem State.setPosTimer_panelLink (s : State) (x : PosTimer) : (s.setPosTimer x).panelLink = s.panelLink := rfl
@[simp] theorem State.setPosTimer_deskAttn (s : State) (x : PosTimer) : (s.setPosTimer x).deskAttn = s.deskAttn := rfl
@[simp] theorem State.setPosTimer_panelAttn (s : State) (x : PosTimer) : (s.setPosTimer x).panelAttn = s.panelAttn := rfl
@[simp] theorem State.setPosTimer_modes (s : State) (x : PosTimer) : (s.setPosTimer x).modes = s.modes := rfl
@[simp] theorem State.setPosTimer_settings (s : State) (x : PosTimer) : (s.setPosTimer x).settings = s.settings := rfl
@[simp] theorem State.setPosTimer_curve (s : State) (x : PosTimer) : (s.setPosTimer x).curve = s.curve := rfl
@[simp] theorem State.setPosTimer_clock (s : State) (x : PosTimer) : (s.setPosTimer x).clock = s.clock := rfl
@[simp] theorem State.setPosTimer_pins (s : State) (x : PosTimer) : (s.setPosTimer x).pins = s.pins := rfl
@[simp] theorem State.setPosTimer_aux (s : State) (x : PosTimer) : (s.setPosTimer x).aux = s.aux := rfl
@[simp] theorem State.setPosTimer_setPosTimer (s : State) (x y : PosTimer) : (s.setPosTimer x).setPosTimer y = s.setPosTimer y := rfl

@[simp] theorem State.setHead_pending (s : State) (x : Head) : (s.setHead x).pending = s.pending := rfl
@[simp] theorem State.setHead_jobs (s : State) (x : Head) : (s.setHead x).jobs = s.jobs := rfl
@[simp] theorem State.setHead_commitCounter (s : State) (x : Head) : (s.setHead x).commitCounter = s.commitCounter := rfl
@[simp] theorem State.setHead_mountQueue (s : State) (x : Head) : (s.setHead x).mountQueue = s.mountQueue := rfl
@[simp] theorem State.setHead_routes (s : State) (x : Head) : (s.setHead x).routes = s.routes := rfl
@[simp] theorem State.setHead_drum (s : State) (x : Head) : (s.setHead x).drum = s.drum := rfl
@[simp] theorem State.setHead_posTimer (s : State) (x : Head) : (s.setHead x).posTimer = s.posTimer := rfl
@[simp] theorem State.setHead_head (s : State) (x : Head) : (s.setHead x).head = x := rfl
@[simp] theorem State.setHead_scan (s : State) (x : Head) : (s.setHead x).scan = s.scan := rfl
@[simp] theorem State.setHead_ring (s : State) (x : Head) : (s.setHead x).ring = s.ring := rfl
@[simp] theorem State.setHead_modu (s : State) (x : Head) : (s.setHead x).modu = s.modu := rfl
@[simp] theorem State.setHead_markGen (s : State) (x : Head) : (s.setHead x).markGen = s.markGen := rfl
@[simp] theorem State.setHead_dialer (s : State) (x : Head) : (s.setHead x).dialer = s.dialer := rfl
@[simp] theorem State.setHead_dialBuf (s : State) (x : Head) : (s.setHead x).dialBuf = s.dialBuf := rfl
@[simp] theorem State.setHead_line (s : State) (x : Head) : (s.setHead x).line = s.line := rfl
@[simp] theorem State.setHead_slips (s : State) (x : Head) : (s.setHead x).slips = s.slips := rfl
@[simp] theorem State.setHead_deskLink (s : State) (x : Head) : (s.setHead x).deskLink = s.deskLink := rfl
@[simp] theorem State.setHead_panelLink (s : State) (x : Head) : (s.setHead x).panelLink = s.panelLink := rfl
@[simp] theorem State.setHead_deskAttn (s : State) (x : Head) : (s.setHead x).deskAttn = s.deskAttn := rfl
@[simp] theorem State.setHead_panelAttn (s : State) (x : Head) : (s.setHead x).panelAttn = s.panelAttn := rfl
@[simp] theorem State.setHead_modes (s : State) (x : Head) : (s.setHead x).modes = s.modes := rfl
@[simp] theorem State.setHead_settings (s : State) (x : Head) : (s.setHead x).settings = s.settings := rfl
@[simp] theorem State.setHead_curve (s : State) (x : Head) : (s.setHead x).curve = s.curve := rfl
@[simp] theorem State.setHead_clock (s : State) (x : Head) : (s.setHead x).clock = s.clock := rfl
@[simp] theorem State.setHead_pins (s : State) (x : Head) : (s.setHead x).pins = s.pins := rfl
@[simp] theorem State.setHead_aux (s : State) (x : Head) : (s.setHead x).aux = s.aux := rfl
@[simp] theorem State.setHead_setHead (s : State) (x y : Head) : (s.setHead x).setHead y = s.setHead y := rfl

@[simp] theorem State.setScan_pending (s : State) (x : Scanner) : (s.setScan x).pending = s.pending := rfl
@[simp] theorem State.setScan_jobs (s : State) (x : Scanner) : (s.setScan x).jobs = s.jobs := rfl
@[simp] theorem State.setScan_commitCounter (s : State) (x : Scanner) : (s.setScan x).commitCounter = s.commitCounter := rfl
@[simp] theorem State.setScan_mountQueue (s : State) (x : Scanner) : (s.setScan x).mountQueue = s.mountQueue := rfl
@[simp] theorem State.setScan_routes (s : State) (x : Scanner) : (s.setScan x).routes = s.routes := rfl
@[simp] theorem State.setScan_drum (s : State) (x : Scanner) : (s.setScan x).drum = s.drum := rfl
@[simp] theorem State.setScan_posTimer (s : State) (x : Scanner) : (s.setScan x).posTimer = s.posTimer := rfl
@[simp] theorem State.setScan_head (s : State) (x : Scanner) : (s.setScan x).head = s.head := rfl
@[simp] theorem State.setScan_scan (s : State) (x : Scanner) : (s.setScan x).scan = x := rfl
@[simp] theorem State.setScan_ring (s : State) (x : Scanner) : (s.setScan x).ring = s.ring := rfl
@[simp] theorem State.setScan_modu (s : State) (x : Scanner) : (s.setScan x).modu = s.modu := rfl
@[simp] theorem State.setScan_markGen (s : State) (x : Scanner) : (s.setScan x).markGen = s.markGen := rfl
@[simp] theorem State.setScan_dialer (s : State) (x : Scanner) : (s.setScan x).dialer = s.dialer := rfl
@[simp] theorem State.setScan_dialBuf (s : State) (x : Scanner) : (s.setScan x).dialBuf = s.dialBuf := rfl
@[simp] theorem State.setScan_line (s : State) (x : Scanner) : (s.setScan x).line = s.line := rfl
@[simp] theorem State.setScan_slips (s : State) (x : Scanner) : (s.setScan x).slips = s.slips := rfl
@[simp] theorem State.setScan_deskLink (s : State) (x : Scanner) : (s.setScan x).deskLink = s.deskLink := rfl
@[simp] theorem State.setScan_panelLink (s : State) (x : Scanner) : (s.setScan x).panelLink = s.panelLink := rfl
@[simp] theorem State.setScan_deskAttn (s : State) (x : Scanner) : (s.setScan x).deskAttn = s.deskAttn := rfl
@[simp] theorem State.setScan_panelAttn (s : State) (x : Scanner) : (s.setScan x).panelAttn = s.panelAttn := rfl
@[simp] theorem State.setScan_modes (s : State) (x : Scanner) : (s.setScan x).modes = s.modes := rfl
@[simp] theorem State.setScan_settings (s : State) (x : Scanner) : (s.setScan x).settings = s.settings := rfl
@[simp] theorem State.setScan_curve (s : State) (x : Scanner) : (s.setScan x).curve = s.curve := rfl
@[simp] theorem State.setScan_clock (s : State) (x : Scanner) : (s.setScan x).clock = s.clock := rfl
@[simp] theorem State.setScan_pins (s : State) (x : Scanner) : (s.setScan x).pins = s.pins := rfl
@[simp] theorem State.setScan_aux (s : State) (x : Scanner) : (s.setScan x).aux = s.aux := rfl
@[simp] theorem State.setScan_setScan (s : State) (x y : Scanner) : (s.setScan x).setScan y = s.setScan y := rfl

@[simp] theorem State.setRing_pending (s : State) (x : Vector Slot 4) : (s.setRing x).pending = s.pending := rfl
@[simp] theorem State.setRing_jobs (s : State) (x : Vector Slot 4) : (s.setRing x).jobs = s.jobs := rfl
@[simp] theorem State.setRing_commitCounter (s : State) (x : Vector Slot 4) : (s.setRing x).commitCounter = s.commitCounter := rfl
@[simp] theorem State.setRing_mountQueue (s : State) (x : Vector Slot 4) : (s.setRing x).mountQueue = s.mountQueue := rfl
@[simp] theorem State.setRing_routes (s : State) (x : Vector Slot 4) : (s.setRing x).routes = s.routes := rfl
@[simp] theorem State.setRing_drum (s : State) (x : Vector Slot 4) : (s.setRing x).drum = s.drum := rfl
@[simp] theorem State.setRing_posTimer (s : State) (x : Vector Slot 4) : (s.setRing x).posTimer = s.posTimer := rfl
@[simp] theorem State.setRing_head (s : State) (x : Vector Slot 4) : (s.setRing x).head = s.head := rfl
@[simp] theorem State.setRing_scan (s : State) (x : Vector Slot 4) : (s.setRing x).scan = s.scan := rfl
@[simp] theorem State.setRing_ring (s : State) (x : Vector Slot 4) : (s.setRing x).ring = x := rfl
@[simp] theorem State.setRing_modu (s : State) (x : Vector Slot 4) : (s.setRing x).modu = s.modu := rfl
@[simp] theorem State.setRing_markGen (s : State) (x : Vector Slot 4) : (s.setRing x).markGen = s.markGen := rfl
@[simp] theorem State.setRing_dialer (s : State) (x : Vector Slot 4) : (s.setRing x).dialer = s.dialer := rfl
@[simp] theorem State.setRing_dialBuf (s : State) (x : Vector Slot 4) : (s.setRing x).dialBuf = s.dialBuf := rfl
@[simp] theorem State.setRing_line (s : State) (x : Vector Slot 4) : (s.setRing x).line = s.line := rfl
@[simp] theorem State.setRing_slips (s : State) (x : Vector Slot 4) : (s.setRing x).slips = s.slips := rfl
@[simp] theorem State.setRing_deskLink (s : State) (x : Vector Slot 4) : (s.setRing x).deskLink = s.deskLink := rfl
@[simp] theorem State.setRing_panelLink (s : State) (x : Vector Slot 4) : (s.setRing x).panelLink = s.panelLink := rfl
@[simp] theorem State.setRing_deskAttn (s : State) (x : Vector Slot 4) : (s.setRing x).deskAttn = s.deskAttn := rfl
@[simp] theorem State.setRing_panelAttn (s : State) (x : Vector Slot 4) : (s.setRing x).panelAttn = s.panelAttn := rfl
@[simp] theorem State.setRing_modes (s : State) (x : Vector Slot 4) : (s.setRing x).modes = s.modes := rfl
@[simp] theorem State.setRing_settings (s : State) (x : Vector Slot 4) : (s.setRing x).settings = s.settings := rfl
@[simp] theorem State.setRing_curve (s : State) (x : Vector Slot 4) : (s.setRing x).curve = s.curve := rfl
@[simp] theorem State.setRing_clock (s : State) (x : Vector Slot 4) : (s.setRing x).clock = s.clock := rfl
@[simp] theorem State.setRing_pins (s : State) (x : Vector Slot 4) : (s.setRing x).pins = s.pins := rfl
@[simp] theorem State.setRing_aux (s : State) (x : Vector Slot 4) : (s.setRing x).aux = s.aux := rfl
@[simp] theorem State.setRing_setRing (s : State) (x y : Vector Slot 4) : (s.setRing x).setRing y = s.setRing y := rfl

@[simp] theorem State.setModu_pending (s : State) (x : Modulator) : (s.setModu x).pending = s.pending := rfl
@[simp] theorem State.setModu_jobs (s : State) (x : Modulator) : (s.setModu x).jobs = s.jobs := rfl
@[simp] theorem State.setModu_commitCounter (s : State) (x : Modulator) : (s.setModu x).commitCounter = s.commitCounter := rfl
@[simp] theorem State.setModu_mountQueue (s : State) (x : Modulator) : (s.setModu x).mountQueue = s.mountQueue := rfl
@[simp] theorem State.setModu_routes (s : State) (x : Modulator) : (s.setModu x).routes = s.routes := rfl
@[simp] theorem State.setModu_drum (s : State) (x : Modulator) : (s.setModu x).drum = s.drum := rfl
@[simp] theorem State.setModu_posTimer (s : State) (x : Modulator) : (s.setModu x).posTimer = s.posTimer := rfl
@[simp] theorem State.setModu_head (s : State) (x : Modulator) : (s.setModu x).head = s.head := rfl
@[simp] theorem State.setModu_scan (s : State) (x : Modulator) : (s.setModu x).scan = s.scan := rfl
@[simp] theorem State.setModu_ring (s : State) (x : Modulator) : (s.setModu x).ring = s.ring := rfl
@[simp] theorem State.setModu_modu (s : State) (x : Modulator) : (s.setModu x).modu = x := rfl
@[simp] theorem State.setModu_markGen (s : State) (x : Modulator) : (s.setModu x).markGen = s.markGen := rfl
@[simp] theorem State.setModu_dialer (s : State) (x : Modulator) : (s.setModu x).dialer = s.dialer := rfl
@[simp] theorem State.setModu_dialBuf (s : State) (x : Modulator) : (s.setModu x).dialBuf = s.dialBuf := rfl
@[simp] theorem State.setModu_line (s : State) (x : Modulator) : (s.setModu x).line = s.line := rfl
@[simp] theorem State.setModu_slips (s : State) (x : Modulator) : (s.setModu x).slips = s.slips := rfl
@[simp] theorem State.setModu_deskLink (s : State) (x : Modulator) : (s.setModu x).deskLink = s.deskLink := rfl
@[simp] theorem State.setModu_panelLink (s : State) (x : Modulator) : (s.setModu x).panelLink = s.panelLink := rfl
@[simp] theorem State.setModu_deskAttn (s : State) (x : Modulator) : (s.setModu x).deskAttn = s.deskAttn := rfl
@[simp] theorem State.setModu_panelAttn (s : State) (x : Modulator) : (s.setModu x).panelAttn = s.panelAttn := rfl
@[simp] theorem State.setModu_modes (s : State) (x : Modulator) : (s.setModu x).modes = s.modes := rfl
@[simp] theorem State.setModu_settings (s : State) (x : Modulator) : (s.setModu x).settings = s.settings := rfl
@[simp] theorem State.setModu_curve (s : State) (x : Modulator) : (s.setModu x).curve = s.curve := rfl
@[simp] theorem State.setModu_clock (s : State) (x : Modulator) : (s.setModu x).clock = s.clock := rfl
@[simp] theorem State.setModu_pins (s : State) (x : Modulator) : (s.setModu x).pins = s.pins := rfl
@[simp] theorem State.setModu_aux (s : State) (x : Modulator) : (s.setModu x).aux = s.aux := rfl
@[simp] theorem State.setModu_setModu (s : State) (x y : Modulator) : (s.setModu x).setModu y = s.setModu y := rfl

@[simp] theorem State.setMarkGen_pending (s : State) (x : MarkGen) : (s.setMarkGen x).pending = s.pending := rfl
@[simp] theorem State.setMarkGen_jobs (s : State) (x : MarkGen) : (s.setMarkGen x).jobs = s.jobs := rfl
@[simp] theorem State.setMarkGen_commitCounter (s : State) (x : MarkGen) : (s.setMarkGen x).commitCounter = s.commitCounter := rfl
@[simp] theorem State.setMarkGen_mountQueue (s : State) (x : MarkGen) : (s.setMarkGen x).mountQueue = s.mountQueue := rfl
@[simp] theorem State.setMarkGen_routes (s : State) (x : MarkGen) : (s.setMarkGen x).routes = s.routes := rfl
@[simp] theorem State.setMarkGen_drum (s : State) (x : MarkGen) : (s.setMarkGen x).drum = s.drum := rfl
@[simp] theorem State.setMarkGen_posTimer (s : State) (x : MarkGen) : (s.setMarkGen x).posTimer = s.posTimer := rfl
@[simp] theorem State.setMarkGen_head (s : State) (x : MarkGen) : (s.setMarkGen x).head = s.head := rfl
@[simp] theorem State.setMarkGen_scan (s : State) (x : MarkGen) : (s.setMarkGen x).scan = s.scan := rfl
@[simp] theorem State.setMarkGen_ring (s : State) (x : MarkGen) : (s.setMarkGen x).ring = s.ring := rfl
@[simp] theorem State.setMarkGen_modu (s : State) (x : MarkGen) : (s.setMarkGen x).modu = s.modu := rfl
@[simp] theorem State.setMarkGen_markGen (s : State) (x : MarkGen) : (s.setMarkGen x).markGen = x := rfl
@[simp] theorem State.setMarkGen_dialer (s : State) (x : MarkGen) : (s.setMarkGen x).dialer = s.dialer := rfl
@[simp] theorem State.setMarkGen_dialBuf (s : State) (x : MarkGen) : (s.setMarkGen x).dialBuf = s.dialBuf := rfl
@[simp] theorem State.setMarkGen_line (s : State) (x : MarkGen) : (s.setMarkGen x).line = s.line := rfl
@[simp] theorem State.setMarkGen_slips (s : State) (x : MarkGen) : (s.setMarkGen x).slips = s.slips := rfl
@[simp] theorem State.setMarkGen_deskLink (s : State) (x : MarkGen) : (s.setMarkGen x).deskLink = s.deskLink := rfl
@[simp] theorem State.setMarkGen_panelLink (s : State) (x : MarkGen) : (s.setMarkGen x).panelLink = s.panelLink := rfl
@[simp] theorem State.setMarkGen_deskAttn (s : State) (x : MarkGen) : (s.setMarkGen x).deskAttn = s.deskAttn := rfl
@[simp] theorem State.setMarkGen_panelAttn (s : State) (x : MarkGen) : (s.setMarkGen x).panelAttn = s.panelAttn := rfl
@[simp] theorem State.setMarkGen_modes (s : State) (x : MarkGen) : (s.setMarkGen x).modes = s.modes := rfl
@[simp] theorem State.setMarkGen_settings (s : State) (x : MarkGen) : (s.setMarkGen x).settings = s.settings := rfl
@[simp] theorem State.setMarkGen_curve (s : State) (x : MarkGen) : (s.setMarkGen x).curve = s.curve := rfl
@[simp] theorem State.setMarkGen_clock (s : State) (x : MarkGen) : (s.setMarkGen x).clock = s.clock := rfl
@[simp] theorem State.setMarkGen_pins (s : State) (x : MarkGen) : (s.setMarkGen x).pins = s.pins := rfl
@[simp] theorem State.setMarkGen_aux (s : State) (x : MarkGen) : (s.setMarkGen x).aux = s.aux := rfl
@[simp] theorem State.setMarkGen_setMarkGen (s : State) (x y : MarkGen) : (s.setMarkGen x).setMarkGen y = s.setMarkGen y := rfl

@[simp] theorem State.setDialer_pending (s : State) (x : Dialer) : (s.setDialer x).pending = s.pending := rfl
@[simp] theorem State.setDialer_jobs (s : State) (x : Dialer) : (s.setDialer x).jobs = s.jobs := rfl
@[simp] theorem State.setDialer_commitCounter (s : State) (x : Dialer) : (s.setDialer x).commitCounter = s.commitCounter := rfl
@[simp] theorem State.setDialer_mountQueue (s : State) (x : Dialer) : (s.setDialer x).mountQueue = s.mountQueue := rfl
@[simp] theorem State.setDialer_routes (s : State) (x : Dialer) : (s.setDialer x).routes = s.routes := rfl
@[simp] theorem State.setDialer_drum (s : State) (x : Dialer) : (s.setDialer x).drum = s.drum := rfl
@[simp] theorem State.setDialer_posTimer (s : State) (x : Dialer) : (s.setDialer x).posTimer = s.posTimer := rfl
@[simp] theorem State.setDialer_head (s : State) (x : Dialer) : (s.setDialer x).head = s.head := rfl
@[simp] theorem State.setDialer_scan (s : State) (x : Dialer) : (s.setDialer x).scan = s.scan := rfl
@[simp] theorem State.setDialer_ring (s : State) (x : Dialer) : (s.setDialer x).ring = s.ring := rfl
@[simp] theorem State.setDialer_modu (s : State) (x : Dialer) : (s.setDialer x).modu = s.modu := rfl
@[simp] theorem State.setDialer_markGen (s : State) (x : Dialer) : (s.setDialer x).markGen = s.markGen := rfl
@[simp] theorem State.setDialer_dialer (s : State) (x : Dialer) : (s.setDialer x).dialer = x := rfl
@[simp] theorem State.setDialer_dialBuf (s : State) (x : Dialer) : (s.setDialer x).dialBuf = s.dialBuf := rfl
@[simp] theorem State.setDialer_line (s : State) (x : Dialer) : (s.setDialer x).line = s.line := rfl
@[simp] theorem State.setDialer_slips (s : State) (x : Dialer) : (s.setDialer x).slips = s.slips := rfl
@[simp] theorem State.setDialer_deskLink (s : State) (x : Dialer) : (s.setDialer x).deskLink = s.deskLink := rfl
@[simp] theorem State.setDialer_panelLink (s : State) (x : Dialer) : (s.setDialer x).panelLink = s.panelLink := rfl
@[simp] theorem State.setDialer_deskAttn (s : State) (x : Dialer) : (s.setDialer x).deskAttn = s.deskAttn := rfl
@[simp] theorem State.setDialer_panelAttn (s : State) (x : Dialer) : (s.setDialer x).panelAttn = s.panelAttn := rfl
@[simp] theorem State.setDialer_modes (s : State) (x : Dialer) : (s.setDialer x).modes = s.modes := rfl
@[simp] theorem State.setDialer_settings (s : State) (x : Dialer) : (s.setDialer x).settings = s.settings := rfl
@[simp] theorem State.setDialer_curve (s : State) (x : Dialer) : (s.setDialer x).curve = s.curve := rfl
@[simp] theorem State.setDialer_clock (s : State) (x : Dialer) : (s.setDialer x).clock = s.clock := rfl
@[simp] theorem State.setDialer_pins (s : State) (x : Dialer) : (s.setDialer x).pins = s.pins := rfl
@[simp] theorem State.setDialer_aux (s : State) (x : Dialer) : (s.setDialer x).aux = s.aux := rfl
@[simp] theorem State.setDialer_setDialer (s : State) (x y : Dialer) : (s.setDialer x).setDialer y = s.setDialer y := rfl

@[simp] theorem State.setDialBuf_pending (s : State) (x : Option DialBuf) : (s.setDialBuf x).pending = s.pending := rfl
@[simp] theorem State.setDialBuf_jobs (s : State) (x : Option DialBuf) : (s.setDialBuf x).jobs = s.jobs := rfl
@[simp] theorem State.setDialBuf_commitCounter (s : State) (x : Option DialBuf) : (s.setDialBuf x).commitCounter = s.commitCounter := rfl
@[simp] theorem State.setDialBuf_mountQueue (s : State) (x : Option DialBuf) : (s.setDialBuf x).mountQueue = s.mountQueue := rfl
@[simp] theorem State.setDialBuf_routes (s : State) (x : Option DialBuf) : (s.setDialBuf x).routes = s.routes := rfl
@[simp] theorem State.setDialBuf_drum (s : State) (x : Option DialBuf) : (s.setDialBuf x).drum = s.drum := rfl
@[simp] theorem State.setDialBuf_posTimer (s : State) (x : Option DialBuf) : (s.setDialBuf x).posTimer = s.posTimer := rfl
@[simp] theorem State.setDialBuf_head (s : State) (x : Option DialBuf) : (s.setDialBuf x).head = s.head := rfl
@[simp] theorem State.setDialBuf_scan (s : State) (x : Option DialBuf) : (s.setDialBuf x).scan = s.scan := rfl
@[simp] theorem State.setDialBuf_ring (s : State) (x : Option DialBuf) : (s.setDialBuf x).ring = s.ring := rfl
@[simp] theorem State.setDialBuf_modu (s : State) (x : Option DialBuf) : (s.setDialBuf x).modu = s.modu := rfl
@[simp] theorem State.setDialBuf_markGen (s : State) (x : Option DialBuf) : (s.setDialBuf x).markGen = s.markGen := rfl
@[simp] theorem State.setDialBuf_dialer (s : State) (x : Option DialBuf) : (s.setDialBuf x).dialer = s.dialer := rfl
@[simp] theorem State.setDialBuf_dialBuf (s : State) (x : Option DialBuf) : (s.setDialBuf x).dialBuf = x := rfl
@[simp] theorem State.setDialBuf_line (s : State) (x : Option DialBuf) : (s.setDialBuf x).line = s.line := rfl
@[simp] theorem State.setDialBuf_slips (s : State) (x : Option DialBuf) : (s.setDialBuf x).slips = s.slips := rfl
@[simp] theorem State.setDialBuf_deskLink (s : State) (x : Option DialBuf) : (s.setDialBuf x).deskLink = s.deskLink := rfl
@[simp] theorem State.setDialBuf_panelLink (s : State) (x : Option DialBuf) : (s.setDialBuf x).panelLink = s.panelLink := rfl
@[simp] theorem State.setDialBuf_deskAttn (s : State) (x : Option DialBuf) : (s.setDialBuf x).deskAttn = s.deskAttn := rfl
@[simp] theorem State.setDialBuf_panelAttn (s : State) (x : Option DialBuf) : (s.setDialBuf x).panelAttn = s.panelAttn := rfl
@[simp] theorem State.setDialBuf_modes (s : State) (x : Option DialBuf) : (s.setDialBuf x).modes = s.modes := rfl
@[simp] theorem State.setDialBuf_settings (s : State) (x : Option DialBuf) : (s.setDialBuf x).settings = s.settings := rfl
@[simp] theorem State.setDialBuf_curve (s : State) (x : Option DialBuf) : (s.setDialBuf x).curve = s.curve := rfl
@[simp] theorem State.setDialBuf_clock (s : State) (x : Option DialBuf) : (s.setDialBuf x).clock = s.clock := rfl
@[simp] theorem State.setDialBuf_pins (s : State) (x : Option DialBuf) : (s.setDialBuf x).pins = s.pins := rfl
@[simp] theorem State.setDialBuf_aux (s : State) (x : Option DialBuf) : (s.setDialBuf x).aux = s.aux := rfl
@[simp] theorem State.setDialBuf_setDialBuf (s : State) (x y : Option DialBuf) : (s.setDialBuf x).setDialBuf y = s.setDialBuf y := rfl

@[simp] theorem State.setLine_pending (s : State) (x : LineRec) : (s.setLine x).pending = s.pending := rfl
@[simp] theorem State.setLine_jobs (s : State) (x : LineRec) : (s.setLine x).jobs = s.jobs := rfl
@[simp] theorem State.setLine_commitCounter (s : State) (x : LineRec) : (s.setLine x).commitCounter = s.commitCounter := rfl
@[simp] theorem State.setLine_mountQueue (s : State) (x : LineRec) : (s.setLine x).mountQueue = s.mountQueue := rfl
@[simp] theorem State.setLine_routes (s : State) (x : LineRec) : (s.setLine x).routes = s.routes := rfl
@[simp] theorem State.setLine_drum (s : State) (x : LineRec) : (s.setLine x).drum = s.drum := rfl
@[simp] theorem State.setLine_posTimer (s : State) (x : LineRec) : (s.setLine x).posTimer = s.posTimer := rfl
@[simp] theorem State.setLine_head (s : State) (x : LineRec) : (s.setLine x).head = s.head := rfl
@[simp] theorem State.setLine_scan (s : State) (x : LineRec) : (s.setLine x).scan = s.scan := rfl
@[simp] theorem State.setLine_ring (s : State) (x : LineRec) : (s.setLine x).ring = s.ring := rfl
@[simp] theorem State.setLine_modu (s : State) (x : LineRec) : (s.setLine x).modu = s.modu := rfl
@[simp] theorem State.setLine_markGen (s : State) (x : LineRec) : (s.setLine x).markGen = s.markGen := rfl
@[simp] theorem State.setLine_dialer (s : State) (x : LineRec) : (s.setLine x).dialer = s.dialer := rfl
@[simp] theorem State.setLine_dialBuf (s : State) (x : LineRec) : (s.setLine x).dialBuf = s.dialBuf := rfl
@[simp] theorem State.setLine_line (s : State) (x : LineRec) : (s.setLine x).line = x := rfl
@[simp] theorem State.setLine_slips (s : State) (x : LineRec) : (s.setLine x).slips = s.slips := rfl
@[simp] theorem State.setLine_deskLink (s : State) (x : LineRec) : (s.setLine x).deskLink = s.deskLink := rfl
@[simp] theorem State.setLine_panelLink (s : State) (x : LineRec) : (s.setLine x).panelLink = s.panelLink := rfl
@[simp] theorem State.setLine_deskAttn (s : State) (x : LineRec) : (s.setLine x).deskAttn = s.deskAttn := rfl
@[simp] theorem State.setLine_panelAttn (s : State) (x : LineRec) : (s.setLine x).panelAttn = s.panelAttn := rfl
@[simp] theorem State.setLine_modes (s : State) (x : LineRec) : (s.setLine x).modes = s.modes := rfl
@[simp] theorem State.setLine_settings (s : State) (x : LineRec) : (s.setLine x).settings = s.settings := rfl
@[simp] theorem State.setLine_curve (s : State) (x : LineRec) : (s.setLine x).curve = s.curve := rfl
@[simp] theorem State.setLine_clock (s : State) (x : LineRec) : (s.setLine x).clock = s.clock := rfl
@[simp] theorem State.setLine_pins (s : State) (x : LineRec) : (s.setLine x).pins = s.pins := rfl
@[simp] theorem State.setLine_aux (s : State) (x : LineRec) : (s.setLine x).aux = s.aux := rfl
@[simp] theorem State.setLine_setLine (s : State) (x y : LineRec) : (s.setLine x).setLine y = s.setLine y := rfl

@[simp] theorem State.setSlips_pending (s : State) (x : SlipUnit) : (s.setSlips x).pending = s.pending := rfl
@[simp] theorem State.setSlips_jobs (s : State) (x : SlipUnit) : (s.setSlips x).jobs = s.jobs := rfl
@[simp] theorem State.setSlips_commitCounter (s : State) (x : SlipUnit) : (s.setSlips x).commitCounter = s.commitCounter := rfl
@[simp] theorem State.setSlips_mountQueue (s : State) (x : SlipUnit) : (s.setSlips x).mountQueue = s.mountQueue := rfl
@[simp] theorem State.setSlips_routes (s : State) (x : SlipUnit) : (s.setSlips x).routes = s.routes := rfl
@[simp] theorem State.setSlips_drum (s : State) (x : SlipUnit) : (s.setSlips x).drum = s.drum := rfl
@[simp] theorem State.setSlips_posTimer (s : State) (x : SlipUnit) : (s.setSlips x).posTimer = s.posTimer := rfl
@[simp] theorem State.setSlips_head (s : State) (x : SlipUnit) : (s.setSlips x).head = s.head := rfl
@[simp] theorem State.setSlips_scan (s : State) (x : SlipUnit) : (s.setSlips x).scan = s.scan := rfl
@[simp] theorem State.setSlips_ring (s : State) (x : SlipUnit) : (s.setSlips x).ring = s.ring := rfl
@[simp] theorem State.setSlips_modu (s : State) (x : SlipUnit) : (s.setSlips x).modu = s.modu := rfl
@[simp] theorem State.setSlips_markGen (s : State) (x : SlipUnit) : (s.setSlips x).markGen = s.markGen := rfl
@[simp] theorem State.setSlips_dialer (s : State) (x : SlipUnit) : (s.setSlips x).dialer = s.dialer := rfl
@[simp] theorem State.setSlips_dialBuf (s : State) (x : SlipUnit) : (s.setSlips x).dialBuf = s.dialBuf := rfl
@[simp] theorem State.setSlips_line (s : State) (x : SlipUnit) : (s.setSlips x).line = s.line := rfl
@[simp] theorem State.setSlips_slips (s : State) (x : SlipUnit) : (s.setSlips x).slips = x := rfl
@[simp] theorem State.setSlips_deskLink (s : State) (x : SlipUnit) : (s.setSlips x).deskLink = s.deskLink := rfl
@[simp] theorem State.setSlips_panelLink (s : State) (x : SlipUnit) : (s.setSlips x).panelLink = s.panelLink := rfl
@[simp] theorem State.setSlips_deskAttn (s : State) (x : SlipUnit) : (s.setSlips x).deskAttn = s.deskAttn := rfl
@[simp] theorem State.setSlips_panelAttn (s : State) (x : SlipUnit) : (s.setSlips x).panelAttn = s.panelAttn := rfl
@[simp] theorem State.setSlips_modes (s : State) (x : SlipUnit) : (s.setSlips x).modes = s.modes := rfl
@[simp] theorem State.setSlips_settings (s : State) (x : SlipUnit) : (s.setSlips x).settings = s.settings := rfl
@[simp] theorem State.setSlips_curve (s : State) (x : SlipUnit) : (s.setSlips x).curve = s.curve := rfl
@[simp] theorem State.setSlips_clock (s : State) (x : SlipUnit) : (s.setSlips x).clock = s.clock := rfl
@[simp] theorem State.setSlips_pins (s : State) (x : SlipUnit) : (s.setSlips x).pins = s.pins := rfl
@[simp] theorem State.setSlips_aux (s : State) (x : SlipUnit) : (s.setSlips x).aux = s.aux := rfl
@[simp] theorem State.setSlips_setSlips (s : State) (x y : SlipUnit) : (s.setSlips x).setSlips y = s.setSlips y := rfl

@[simp] theorem State.setDeskLink_pending (s : State) (x : LinkRec) : (s.setDeskLink x).pending = s.pending := rfl
@[simp] theorem State.setDeskLink_jobs (s : State) (x : LinkRec) : (s.setDeskLink x).jobs = s.jobs := rfl
@[simp] theorem State.setDeskLink_commitCounter (s : State) (x : LinkRec) : (s.setDeskLink x).commitCounter = s.commitCounter := rfl
@[simp] theorem State.setDeskLink_mountQueue (s : State) (x : LinkRec) : (s.setDeskLink x).mountQueue = s.mountQueue := rfl
@[simp] theorem State.setDeskLink_routes (s : State) (x : LinkRec) : (s.setDeskLink x).routes = s.routes := rfl
@[simp] theorem State.setDeskLink_drum (s : State) (x : LinkRec) : (s.setDeskLink x).drum = s.drum := rfl
@[simp] theorem State.setDeskLink_posTimer (s : State) (x : LinkRec) : (s.setDeskLink x).posTimer = s.posTimer := rfl
@[simp] theorem State.setDeskLink_head (s : State) (x : LinkRec) : (s.setDeskLink x).head = s.head := rfl
@[simp] theorem State.setDeskLink_scan (s : State) (x : LinkRec) : (s.setDeskLink x).scan = s.scan := rfl
@[simp] theorem State.setDeskLink_ring (s : State) (x : LinkRec) : (s.setDeskLink x).ring = s.ring := rfl
@[simp] theorem State.setDeskLink_modu (s : State) (x : LinkRec) : (s.setDeskLink x).modu = s.modu := rfl
@[simp] theorem State.setDeskLink_markGen (s : State) (x : LinkRec) : (s.setDeskLink x).markGen = s.markGen := rfl
@[simp] theorem State.setDeskLink_dialer (s : State) (x : LinkRec) : (s.setDeskLink x).dialer = s.dialer := rfl
@[simp] theorem State.setDeskLink_dialBuf (s : State) (x : LinkRec) : (s.setDeskLink x).dialBuf = s.dialBuf := rfl
@[simp] theorem State.setDeskLink_line (s : State) (x : LinkRec) : (s.setDeskLink x).line = s.line := rfl
@[simp] theorem State.setDeskLink_slips (s : State) (x : LinkRec) : (s.setDeskLink x).slips = s.slips := rfl
@[simp] theorem State.setDeskLink_deskLink (s : State) (x : LinkRec) : (s.setDeskLink x).deskLink = x := rfl
@[simp] theorem State.setDeskLink_panelLink (s : State) (x : LinkRec) : (s.setDeskLink x).panelLink = s.panelLink := rfl
@[simp] theorem State.setDeskLink_deskAttn (s : State) (x : LinkRec) : (s.setDeskLink x).deskAttn = s.deskAttn := rfl
@[simp] theorem State.setDeskLink_panelAttn (s : State) (x : LinkRec) : (s.setDeskLink x).panelAttn = s.panelAttn := rfl
@[simp] theorem State.setDeskLink_modes (s : State) (x : LinkRec) : (s.setDeskLink x).modes = s.modes := rfl
@[simp] theorem State.setDeskLink_settings (s : State) (x : LinkRec) : (s.setDeskLink x).settings = s.settings := rfl
@[simp] theorem State.setDeskLink_curve (s : State) (x : LinkRec) : (s.setDeskLink x).curve = s.curve := rfl
@[simp] theorem State.setDeskLink_clock (s : State) (x : LinkRec) : (s.setDeskLink x).clock = s.clock := rfl
@[simp] theorem State.setDeskLink_pins (s : State) (x : LinkRec) : (s.setDeskLink x).pins = s.pins := rfl
@[simp] theorem State.setDeskLink_aux (s : State) (x : LinkRec) : (s.setDeskLink x).aux = s.aux := rfl
@[simp] theorem State.setDeskLink_setDeskLink (s : State) (x y : LinkRec) : (s.setDeskLink x).setDeskLink y = s.setDeskLink y := rfl

@[simp] theorem State.setPanelLink_pending (s : State) (x : LinkRec) : (s.setPanelLink x).pending = s.pending := rfl
@[simp] theorem State.setPanelLink_jobs (s : State) (x : LinkRec) : (s.setPanelLink x).jobs = s.jobs := rfl
@[simp] theorem State.setPanelLink_commitCounter (s : State) (x : LinkRec) : (s.setPanelLink x).commitCounter = s.commitCounter := rfl
@[simp] theorem State.setPanelLink_mountQueue (s : State) (x : LinkRec) : (s.setPanelLink x).mountQueue = s.mountQueue := rfl
@[simp] theorem State.setPanelLink_routes (s : State) (x : LinkRec) : (s.setPanelLink x).routes = s.routes := rfl
@[simp] theorem State.setPanelLink_drum (s : State) (x : LinkRec) : (s.setPanelLink x).drum = s.drum := rfl
@[simp] theorem State.setPanelLink_posTimer (s : State) (x : LinkRec) : (s.setPanelLink x).posTimer = s.posTimer := rfl
@[simp] theorem State.setPanelLink_head (s : State) (x : LinkRec) : (s.setPanelLink x).head = s.head := rfl
@[simp] theorem State.setPanelLink_scan (s : State) (x : LinkRec) : (s.setPanelLink x).scan = s.scan := rfl
@[simp] theorem State.setPanelLink_ring (s : State) (x : LinkRec) : (s.setPanelLink x).ring = s.ring := rfl
@[simp] theorem State.setPanelLink_modu (s : State) (x : LinkRec) : (s.setPanelLink x).modu = s.modu := rfl
@[simp] theorem State.setPanelLink_markGen (s : State) (x : LinkRec) : (s.setPanelLink x).markGen = s.markGen := rfl
@[simp] theorem State.setPanelLink_dialer (s : State) (x : LinkRec) : (s.setPanelLink x).dialer = s.dialer := rfl
@[simp] theorem State.setPanelLink_dialBuf (s : State) (x : LinkRec) : (s.setPanelLink x).dialBuf = s.dialBuf := rfl
@[simp] theorem State.setPanelLink_line (s : State) (x : LinkRec) : (s.setPanelLink x).line = s.line := rfl
@[simp] theorem State.setPanelLink_slips (s : State) (x : LinkRec) : (s.setPanelLink x).slips = s.slips := rfl
@[simp] theorem State.setPanelLink_deskLink (s : State) (x : LinkRec) : (s.setPanelLink x).deskLink = s.deskLink := rfl
@[simp] theorem State.setPanelLink_panelLink (s : State) (x : LinkRec) : (s.setPanelLink x).panelLink = x := rfl
@[simp] theorem State.setPanelLink_deskAttn (s : State) (x : LinkRec) : (s.setPanelLink x).deskAttn = s.deskAttn := rfl
@[simp] theorem State.setPanelLink_panelAttn (s : State) (x : LinkRec) : (s.setPanelLink x).panelAttn = s.panelAttn := rfl
@[simp] theorem State.setPanelLink_modes (s : State) (x : LinkRec) : (s.setPanelLink x).modes = s.modes := rfl
@[simp] theorem State.setPanelLink_settings (s : State) (x : LinkRec) : (s.setPanelLink x).settings = s.settings := rfl
@[simp] theorem State.setPanelLink_curve (s : State) (x : LinkRec) : (s.setPanelLink x).curve = s.curve := rfl
@[simp] theorem State.setPanelLink_clock (s : State) (x : LinkRec) : (s.setPanelLink x).clock = s.clock := rfl
@[simp] theorem State.setPanelLink_pins (s : State) (x : LinkRec) : (s.setPanelLink x).pins = s.pins := rfl
@[simp] theorem State.setPanelLink_aux (s : State) (x : LinkRec) : (s.setPanelLink x).aux = s.aux := rfl
@[simp] theorem State.setPanelLink_setPanelLink (s : State) (x y : LinkRec) : (s.setPanelLink x).setPanelLink y = s.setPanelLink y := rfl

@[simp] theorem State.setDeskAttn_pending (s : State) (x : Attn) : (s.setDeskAttn x).pending = s.pending := rfl
@[simp] theorem State.setDeskAttn_jobs (s : State) (x : Attn) : (s.setDeskAttn x).jobs = s.jobs := rfl
@[simp] theorem State.setDeskAttn_commitCounter (s : State) (x : Attn) : (s.setDeskAttn x).commitCounter = s.commitCounter := rfl
@[simp] theorem State.setDeskAttn_mountQueue (s : State) (x : Attn) : (s.setDeskAttn x).mountQueue = s.mountQueue := rfl
@[simp] theorem State.setDeskAttn_routes (s : State) (x : Attn) : (s.setDeskAttn x).routes = s.routes := rfl
@[simp] theorem State.setDeskAttn_drum (s : State) (x : Attn) : (s.setDeskAttn x).drum = s.drum := rfl
@[simp] theorem State.setDeskAttn_posTimer (s : State) (x : Attn) : (s.setDeskAttn x).posTimer = s.posTimer := rfl
@[simp] theorem State.setDeskAttn_head (s : State) (x : Attn) : (s.setDeskAttn x).head = s.head := rfl
@[simp] theorem State.setDeskAttn_scan (s : State) (x : Attn) : (s.setDeskAttn x).scan = s.scan := rfl
@[simp] theorem State.setDeskAttn_ring (s : State) (x : Attn) : (s.setDeskAttn x).ring = s.ring := rfl
@[simp] theorem State.setDeskAttn_modu (s : State) (x : Attn) : (s.setDeskAttn x).modu = s.modu := rfl
@[simp] theorem State.setDeskAttn_markGen (s : State) (x : Attn) : (s.setDeskAttn x).markGen = s.markGen := rfl
@[simp] theorem State.setDeskAttn_dialer (s : State) (x : Attn) : (s.setDeskAttn x).dialer = s.dialer := rfl
@[simp] theorem State.setDeskAttn_dialBuf (s : State) (x : Attn) : (s.setDeskAttn x).dialBuf = s.dialBuf := rfl
@[simp] theorem State.setDeskAttn_line (s : State) (x : Attn) : (s.setDeskAttn x).line = s.line := rfl
@[simp] theorem State.setDeskAttn_slips (s : State) (x : Attn) : (s.setDeskAttn x).slips = s.slips := rfl
@[simp] theorem State.setDeskAttn_deskLink (s : State) (x : Attn) : (s.setDeskAttn x).deskLink = s.deskLink := rfl
@[simp] theorem State.setDeskAttn_panelLink (s : State) (x : Attn) : (s.setDeskAttn x).panelLink = s.panelLink := rfl
@[simp] theorem State.setDeskAttn_deskAttn (s : State) (x : Attn) : (s.setDeskAttn x).deskAttn = x := rfl
@[simp] theorem State.setDeskAttn_panelAttn (s : State) (x : Attn) : (s.setDeskAttn x).panelAttn = s.panelAttn := rfl
@[simp] theorem State.setDeskAttn_modes (s : State) (x : Attn) : (s.setDeskAttn x).modes = s.modes := rfl
@[simp] theorem State.setDeskAttn_settings (s : State) (x : Attn) : (s.setDeskAttn x).settings = s.settings := rfl
@[simp] theorem State.setDeskAttn_curve (s : State) (x : Attn) : (s.setDeskAttn x).curve = s.curve := rfl
@[simp] theorem State.setDeskAttn_clock (s : State) (x : Attn) : (s.setDeskAttn x).clock = s.clock := rfl
@[simp] theorem State.setDeskAttn_pins (s : State) (x : Attn) : (s.setDeskAttn x).pins = s.pins := rfl
@[simp] theorem State.setDeskAttn_aux (s : State) (x : Attn) : (s.setDeskAttn x).aux = s.aux := rfl
@[simp] theorem State.setDeskAttn_setDeskAttn (s : State) (x y : Attn) : (s.setDeskAttn x).setDeskAttn y = s.setDeskAttn y := rfl

@[simp] theorem State.setPanelAttn_pending (s : State) (x : Attn) : (s.setPanelAttn x).pending = s.pending := rfl
@[simp] theorem State.setPanelAttn_jobs (s : State) (x : Attn) : (s.setPanelAttn x).jobs = s.jobs := rfl
@[simp] theorem State.setPanelAttn_commitCounter (s : State) (x : Attn) : (s.setPanelAttn x).commitCounter = s.commitCounter := rfl
@[simp] theorem State.setPanelAttn_mountQueue (s : State) (x : Attn) : (s.setPanelAttn x).mountQueue = s.mountQueue := rfl
@[simp] theorem State.setPanelAttn_routes (s : State) (x : Attn) : (s.setPanelAttn x).routes = s.routes := rfl
@[simp] theorem State.setPanelAttn_drum (s : State) (x : Attn) : (s.setPanelAttn x).drum = s.drum := rfl
@[simp] theorem State.setPanelAttn_posTimer (s : State) (x : Attn) : (s.setPanelAttn x).posTimer = s.posTimer := rfl
@[simp] theorem State.setPanelAttn_head (s : State) (x : Attn) : (s.setPanelAttn x).head = s.head := rfl
@[simp] theorem State.setPanelAttn_scan (s : State) (x : Attn) : (s.setPanelAttn x).scan = s.scan := rfl
@[simp] theorem State.setPanelAttn_ring (s : State) (x : Attn) : (s.setPanelAttn x).ring = s.ring := rfl
@[simp] theorem State.setPanelAttn_modu (s : State) (x : Attn) : (s.setPanelAttn x).modu = s.modu := rfl
@[simp] theorem State.setPanelAttn_markGen (s : State) (x : Attn) : (s.setPanelAttn x).markGen = s.markGen := rfl
@[simp] theorem State.setPanelAttn_dialer (s : State) (x : Attn) : (s.setPanelAttn x).dialer = s.dialer := rfl
@[simp] theorem State.setPanelAttn_dialBuf (s : State) (x : Attn) : (s.setPanelAttn x).dialBuf = s.dialBuf := rfl
@[simp] theorem State.setPanelAttn_line (s : State) (x : Attn) : (s.setPanelAttn x).line = s.line := rfl
@[simp] theorem State.setPanelAttn_slips (s : State) (x : Attn) : (s.setPanelAttn x).slips = s.slips := rfl
@[simp] theorem State.setPanelAttn_deskLink (s : State) (x : Attn) : (s.setPanelAttn x).deskLink = s.deskLink := rfl
@[simp] theorem State.setPanelAttn_panelLink (s : State) (x : Attn) : (s.setPanelAttn x).panelLink = s.panelLink := rfl
@[simp] theorem State.setPanelAttn_deskAttn (s : State) (x : Attn) : (s.setPanelAttn x).deskAttn = s.deskAttn := rfl
@[simp] theorem State.setPanelAttn_panelAttn (s : State) (x : Attn) : (s.setPanelAttn x).panelAttn = x := rfl
@[simp] theorem State.setPanelAttn_modes (s : State) (x : Attn) : (s.setPanelAttn x).modes = s.modes := rfl
@[simp] theorem State.setPanelAttn_settings (s : State) (x : Attn) : (s.setPanelAttn x).settings = s.settings := rfl
@[simp] theorem State.setPanelAttn_curve (s : State) (x : Attn) : (s.setPanelAttn x).curve = s.curve := rfl
@[simp] theorem State.setPanelAttn_clock (s : State) (x : Attn) : (s.setPanelAttn x).clock = s.clock := rfl
@[simp] theorem State.setPanelAttn_pins (s : State) (x : Attn) : (s.setPanelAttn x).pins = s.pins := rfl
@[simp] theorem State.setPanelAttn_aux (s : State) (x : Attn) : (s.setPanelAttn x).aux = s.aux := rfl
@[simp] theorem State.setPanelAttn_setPanelAttn (s : State) (x y : Attn) : (s.setPanelAttn x).setPanelAttn y = s.setPanelAttn y := rfl

@[simp] theorem State.setModes_pending (s : State) (x : Modes) : (s.setModes x).pending = s.pending := rfl
@[simp] theorem State.setModes_jobs (s : State) (x : Modes) : (s.setModes x).jobs = s.jobs := rfl
@[simp] theorem State.setModes_commitCounter (s : State) (x : Modes) : (s.setModes x).commitCounter = s.commitCounter := rfl
@[simp] theorem State.setModes_mountQueue (s : State) (x : Modes) : (s.setModes x).mountQueue = s.mountQueue := rfl
@[simp] theorem State.setModes_routes (s : State) (x : Modes) : (s.setModes x).routes = s.routes := rfl
@[simp] theorem State.setModes_drum (s : State) (x : Modes) : (s.setModes x).drum = s.drum := rfl
@[simp] theorem State.setModes_posTimer (s : State) (x : Modes) : (s.setModes x).posTimer = s.posTimer := rfl
@[simp] theorem State.setModes_head (s : State) (x : Modes) : (s.setModes x).head = s.head := rfl
@[simp] theorem State.setModes_scan (s : State) (x : Modes) : (s.setModes x).scan = s.scan := rfl
@[simp] theorem State.setModes_ring (s : State) (x : Modes) : (s.setModes x).ring = s.ring := rfl
@[simp] theorem State.setModes_modu (s : State) (x : Modes) : (s.setModes x).modu = s.modu := rfl
@[simp] theorem State.setModes_markGen (s : State) (x : Modes) : (s.setModes x).markGen = s.markGen := rfl
@[simp] theorem State.setModes_dialer (s : State) (x : Modes) : (s.setModes x).dialer = s.dialer := rfl
@[simp] theorem State.setModes_dialBuf (s : State) (x : Modes) : (s.setModes x).dialBuf = s.dialBuf := rfl
@[simp] theorem State.setModes_line (s : State) (x : Modes) : (s.setModes x).line = s.line := rfl
@[simp] theorem State.setModes_slips (s : State) (x : Modes) : (s.setModes x).slips = s.slips := rfl
@[simp] theorem State.setModes_deskLink (s : State) (x : Modes) : (s.setModes x).deskLink = s.deskLink := rfl
@[simp] theorem State.setModes_panelLink (s : State) (x : Modes) : (s.setModes x).panelLink = s.panelLink := rfl
@[simp] theorem State.setModes_deskAttn (s : State) (x : Modes) : (s.setModes x).deskAttn = s.deskAttn := rfl
@[simp] theorem State.setModes_panelAttn (s : State) (x : Modes) : (s.setModes x).panelAttn = s.panelAttn := rfl
@[simp] theorem State.setModes_modes (s : State) (x : Modes) : (s.setModes x).modes = x := rfl
@[simp] theorem State.setModes_settings (s : State) (x : Modes) : (s.setModes x).settings = s.settings := rfl
@[simp] theorem State.setModes_curve (s : State) (x : Modes) : (s.setModes x).curve = s.curve := rfl
@[simp] theorem State.setModes_clock (s : State) (x : Modes) : (s.setModes x).clock = s.clock := rfl
@[simp] theorem State.setModes_pins (s : State) (x : Modes) : (s.setModes x).pins = s.pins := rfl
@[simp] theorem State.setModes_aux (s : State) (x : Modes) : (s.setModes x).aux = s.aux := rfl
@[simp] theorem State.setModes_setModes (s : State) (x y : Modes) : (s.setModes x).setModes y = s.setModes y := rfl

@[simp] theorem State.setSettings_pending (s : State) (x : Settings) : (s.setSettings x).pending = s.pending := rfl
@[simp] theorem State.setSettings_jobs (s : State) (x : Settings) : (s.setSettings x).jobs = s.jobs := rfl
@[simp] theorem State.setSettings_commitCounter (s : State) (x : Settings) : (s.setSettings x).commitCounter = s.commitCounter := rfl
@[simp] theorem State.setSettings_mountQueue (s : State) (x : Settings) : (s.setSettings x).mountQueue = s.mountQueue := rfl
@[simp] theorem State.setSettings_routes (s : State) (x : Settings) : (s.setSettings x).routes = s.routes := rfl
@[simp] theorem State.setSettings_drum (s : State) (x : Settings) : (s.setSettings x).drum = s.drum := rfl
@[simp] theorem State.setSettings_posTimer (s : State) (x : Settings) : (s.setSettings x).posTimer = s.posTimer := rfl
@[simp] theorem State.setSettings_head (s : State) (x : Settings) : (s.setSettings x).head = s.head := rfl
@[simp] theorem State.setSettings_scan (s : State) (x : Settings) : (s.setSettings x).scan = s.scan := rfl
@[simp] theorem State.setSettings_ring (s : State) (x : Settings) : (s.setSettings x).ring = s.ring := rfl
@[simp] theorem State.setSettings_modu (s : State) (x : Settings) : (s.setSettings x).modu = s.modu := rfl
@[simp] theorem State.setSettings_markGen (s : State) (x : Settings) : (s.setSettings x).markGen = s.markGen := rfl
@[simp] theorem State.setSettings_dialer (s : State) (x : Settings) : (s.setSettings x).dialer = s.dialer := rfl
@[simp] theorem State.setSettings_dialBuf (s : State) (x : Settings) : (s.setSettings x).dialBuf = s.dialBuf := rfl
@[simp] theorem State.setSettings_line (s : State) (x : Settings) : (s.setSettings x).line = s.line := rfl
@[simp] theorem State.setSettings_slips (s : State) (x : Settings) : (s.setSettings x).slips = s.slips := rfl
@[simp] theorem State.setSettings_deskLink (s : State) (x : Settings) : (s.setSettings x).deskLink = s.deskLink := rfl
@[simp] theorem State.setSettings_panelLink (s : State) (x : Settings) : (s.setSettings x).panelLink = s.panelLink := rfl
@[simp] theorem State.setSettings_deskAttn (s : State) (x : Settings) : (s.setSettings x).deskAttn = s.deskAttn := rfl
@[simp] theorem State.setSettings_panelAttn (s : State) (x : Settings) : (s.setSettings x).panelAttn = s.panelAttn := rfl
@[simp] theorem State.setSettings_modes (s : State) (x : Settings) : (s.setSettings x).modes = s.modes := rfl
@[simp] theorem State.setSettings_settings (s : State) (x : Settings) : (s.setSettings x).settings = x := rfl
@[simp] theorem State.setSettings_curve (s : State) (x : Settings) : (s.setSettings x).curve = s.curve := rfl
@[simp] theorem State.setSettings_clock (s : State) (x : Settings) : (s.setSettings x).clock = s.clock := rfl
@[simp] theorem State.setSettings_pins (s : State) (x : Settings) : (s.setSettings x).pins = s.pins := rfl
@[simp] theorem State.setSettings_aux (s : State) (x : Settings) : (s.setSettings x).aux = s.aux := rfl
@[simp] theorem State.setSettings_setSettings (s : State) (x y : Settings) : (s.setSettings x).setSettings y = s.setSettings y := rfl

@[simp] theorem State.setCurve_pending (s : State) (x : Vector Nat 17) : (s.setCurve x).pending = s.pending := rfl
@[simp] theorem State.setCurve_jobs (s : State) (x : Vector Nat 17) : (s.setCurve x).jobs = s.jobs := rfl
@[simp] theorem State.setCurve_commitCounter (s : State) (x : Vector Nat 17) : (s.setCurve x).commitCounter = s.commitCounter := rfl
@[simp] theorem State.setCurve_mountQueue (s : State) (x : Vector Nat 17) : (s.setCurve x).mountQueue = s.mountQueue := rfl
@[simp] theorem State.setCurve_routes (s : State) (x : Vector Nat 17) : (s.setCurve x).routes = s.routes := rfl
@[simp] theorem State.setCurve_drum (s : State) (x : Vector Nat 17) : (s.setCurve x).drum = s.drum := rfl
@[simp] theorem State.setCurve_posTimer (s : State) (x : Vector Nat 17) : (s.setCurve x).posTimer = s.posTimer := rfl
@[simp] theorem State.setCurve_head (s : State) (x : Vector Nat 17) : (s.setCurve x).head = s.head := rfl
@[simp] theorem State.setCurve_scan (s : State) (x : Vector Nat 17) : (s.setCurve x).scan = s.scan := rfl
@[simp] theorem State.setCurve_ring (s : State) (x : Vector Nat 17) : (s.setCurve x).ring = s.ring := rfl
@[simp] theorem State.setCurve_modu (s : State) (x : Vector Nat 17) : (s.setCurve x).modu = s.modu := rfl
@[simp] theorem State.setCurve_markGen (s : State) (x : Vector Nat 17) : (s.setCurve x).markGen = s.markGen := rfl
@[simp] theorem State.setCurve_dialer (s : State) (x : Vector Nat 17) : (s.setCurve x).dialer = s.dialer := rfl
@[simp] theorem State.setCurve_dialBuf (s : State) (x : Vector Nat 17) : (s.setCurve x).dialBuf = s.dialBuf := rfl
@[simp] theorem State.setCurve_line (s : State) (x : Vector Nat 17) : (s.setCurve x).line = s.line := rfl
@[simp] theorem State.setCurve_slips (s : State) (x : Vector Nat 17) : (s.setCurve x).slips = s.slips := rfl
@[simp] theorem State.setCurve_deskLink (s : State) (x : Vector Nat 17) : (s.setCurve x).deskLink = s.deskLink := rfl
@[simp] theorem State.setCurve_panelLink (s : State) (x : Vector Nat 17) : (s.setCurve x).panelLink = s.panelLink := rfl
@[simp] theorem State.setCurve_deskAttn (s : State) (x : Vector Nat 17) : (s.setCurve x).deskAttn = s.deskAttn := rfl
@[simp] theorem State.setCurve_panelAttn (s : State) (x : Vector Nat 17) : (s.setCurve x).panelAttn = s.panelAttn := rfl
@[simp] theorem State.setCurve_modes (s : State) (x : Vector Nat 17) : (s.setCurve x).modes = s.modes := rfl
@[simp] theorem State.setCurve_settings (s : State) (x : Vector Nat 17) : (s.setCurve x).settings = s.settings := rfl
@[simp] theorem State.setCurve_curve (s : State) (x : Vector Nat 17) : (s.setCurve x).curve = x := rfl
@[simp] theorem State.setCurve_clock (s : State) (x : Vector Nat 17) : (s.setCurve x).clock = s.clock := rfl
@[simp] theorem State.setCurve_pins (s : State) (x : Vector Nat 17) : (s.setCurve x).pins = s.pins := rfl
@[simp] theorem State.setCurve_aux (s : State) (x : Vector Nat 17) : (s.setCurve x).aux = s.aux := rfl
@[simp] theorem State.setCurve_setCurve (s : State) (x y : Vector Nat 17) : (s.setCurve x).setCurve y = s.setCurve y := rfl

@[simp] theorem State.setClock_pending (s : State) (x : Clock) : (s.setClock x).pending = s.pending := rfl
@[simp] theorem State.setClock_jobs (s : State) (x : Clock) : (s.setClock x).jobs = s.jobs := rfl
@[simp] theorem State.setClock_commitCounter (s : State) (x : Clock) : (s.setClock x).commitCounter = s.commitCounter := rfl
@[simp] theorem State.setClock_mountQueue (s : State) (x : Clock) : (s.setClock x).mountQueue = s.mountQueue := rfl
@[simp] theorem State.setClock_routes (s : State) (x : Clock) : (s.setClock x).routes = s.routes := rfl
@[simp] theorem State.setClock_drum (s : State) (x : Clock) : (s.setClock x).drum = s.drum := rfl
@[simp] theorem State.setClock_posTimer (s : State) (x : Clock) : (s.setClock x).posTimer = s.posTimer := rfl
@[simp] theorem State.setClock_head (s : State) (x : Clock) : (s.setClock x).head = s.head := rfl
@[simp] theorem State.setClock_scan (s : State) (x : Clock) : (s.setClock x).scan = s.scan := rfl
@[simp] theorem State.setClock_ring (s : State) (x : Clock) : (s.setClock x).ring = s.ring := rfl
@[simp] theorem State.setClock_modu (s : State) (x : Clock) : (s.setClock x).modu = s.modu := rfl
@[simp] theorem State.setClock_markGen (s : State) (x : Clock) : (s.setClock x).markGen = s.markGen := rfl
@[simp] theorem State.setClock_dialer (s : State) (x : Clock) : (s.setClock x).dialer = s.dialer := rfl
@[simp] theorem State.setClock_dialBuf (s : State) (x : Clock) : (s.setClock x).dialBuf = s.dialBuf := rfl
@[simp] theorem State.setClock_line (s : State) (x : Clock) : (s.setClock x).line = s.line := rfl
@[simp] theorem State.setClock_slips (s : State) (x : Clock) : (s.setClock x).slips = s.slips := rfl
@[simp] theorem State.setClock_deskLink (s : State) (x : Clock) : (s.setClock x).deskLink = s.deskLink := rfl
@[simp] theorem State.setClock_panelLink (s : State) (x : Clock) : (s.setClock x).panelLink = s.panelLink := rfl
@[simp] theorem State.setClock_deskAttn (s : State) (x : Clock) : (s.setClock x).deskAttn = s.deskAttn := rfl
@[simp] theorem State.setClock_panelAttn (s : State) (x : Clock) : (s.setClock x).panelAttn = s.panelAttn := rfl
@[simp] theorem State.setClock_modes (s : State) (x : Clock) : (s.setClock x).modes = s.modes := rfl
@[simp] theorem State.setClock_settings (s : State) (x : Clock) : (s.setClock x).settings = s.settings := rfl
@[simp] theorem State.setClock_curve (s : State) (x : Clock) : (s.setClock x).curve = s.curve := rfl
@[simp] theorem State.setClock_clock (s : State) (x : Clock) : (s.setClock x).clock = x := rfl
@[simp] theorem State.setClock_pins (s : State) (x : Clock) : (s.setClock x).pins = s.pins := rfl
@[simp] theorem State.setClock_aux (s : State) (x : Clock) : (s.setClock x).aux = s.aux := rfl
@[simp] theorem State.setClock_setClock (s : State) (x y : Clock) : (s.setClock x).setClock y = s.setClock y := rfl

@[simp] theorem State.setPins_pending (s : State) (x : Pins) : (s.setPins x).pending = s.pending := rfl
@[simp] theorem State.setPins_jobs (s : State) (x : Pins) : (s.setPins x).jobs = s.jobs := rfl
@[simp] theorem State.setPins_commitCounter (s : State) (x : Pins) : (s.setPins x).commitCounter = s.commitCounter := rfl
@[simp] theorem State.setPins_mountQueue (s : State) (x : Pins) : (s.setPins x).mountQueue = s.mountQueue := rfl
@[simp] theorem State.setPins_routes (s : State) (x : Pins) : (s.setPins x).routes = s.routes := rfl
@[simp] theorem State.setPins_drum (s : State) (x : Pins) : (s.setPins x).drum = s.drum := rfl
@[simp] theorem State.setPins_posTimer (s : State) (x : Pins) : (s.setPins x).posTimer = s.posTimer := rfl
@[simp] theorem State.setPins_head (s : State) (x : Pins) : (s.setPins x).head = s.head := rfl
@[simp] theorem State.setPins_scan (s : State) (x : Pins) : (s.setPins x).scan = s.scan := rfl
@[simp] theorem State.setPins_ring (s : State) (x : Pins) : (s.setPins x).ring = s.ring := rfl
@[simp] theorem State.setPins_modu (s : State) (x : Pins) : (s.setPins x).modu = s.modu := rfl
@[simp] theorem State.setPins_markGen (s : State) (x : Pins) : (s.setPins x).markGen = s.markGen := rfl
@[simp] theorem State.setPins_dialer (s : State) (x : Pins) : (s.setPins x).dialer = s.dialer := rfl
@[simp] theorem State.setPins_dialBuf (s : State) (x : Pins) : (s.setPins x).dialBuf = s.dialBuf := rfl
@[simp] theorem State.setPins_line (s : State) (x : Pins) : (s.setPins x).line = s.line := rfl
@[simp] theorem State.setPins_slips (s : State) (x : Pins) : (s.setPins x).slips = s.slips := rfl
@[simp] theorem State.setPins_deskLink (s : State) (x : Pins) : (s.setPins x).deskLink = s.deskLink := rfl
@[simp] theorem State.setPins_panelLink (s : State) (x : Pins) : (s.setPins x).panelLink = s.panelLink := rfl
@[simp] theorem State.setPins_deskAttn (s : State) (x : Pins) : (s.setPins x).deskAttn = s.deskAttn := rfl
@[simp] theorem State.setPins_panelAttn (s : State) (x : Pins) : (s.setPins x).panelAttn = s.panelAttn := rfl
@[simp] theorem State.setPins_modes (s : State) (x : Pins) : (s.setPins x).modes = s.modes := rfl
@[simp] theorem State.setPins_settings (s : State) (x : Pins) : (s.setPins x).settings = s.settings := rfl
@[simp] theorem State.setPins_curve (s : State) (x : Pins) : (s.setPins x).curve = s.curve := rfl
@[simp] theorem State.setPins_clock (s : State) (x : Pins) : (s.setPins x).clock = s.clock := rfl
@[simp] theorem State.setPins_pins (s : State) (x : Pins) : (s.setPins x).pins = x := rfl
@[simp] theorem State.setPins_aux (s : State) (x : Pins) : (s.setPins x).aux = s.aux := rfl
@[simp] theorem State.setPins_setPins (s : State) (x y : Pins) : (s.setPins x).setPins y = s.setPins y := rfl

@[simp] theorem State.setAux_pending (s : State) (x : Aux) : (s.setAux x).pending = s.pending := rfl
@[simp] theorem State.setAux_jobs (s : State) (x : Aux) : (s.setAux x).jobs = s.jobs := rfl
@[simp] theorem State.setAux_commitCounter (s : State) (x : Aux) : (s.setAux x).commitCounter = s.commitCounter := rfl
@[simp] theorem State.setAux_mountQueue (s : State) (x : Aux) : (s.setAux x).mountQueue = s.mountQueue := rfl
@[simp] theorem State.setAux_routes (s : State) (x : Aux) : (s.setAux x).routes = s.routes := rfl
@[simp] theorem State.setAux_drum (s : State) (x : Aux) : (s.setAux x).drum = s.drum := rfl
@[simp] theorem State.setAux_posTimer (s : State) (x : Aux) : (s.setAux x).posTimer = s.posTimer := rfl
@[simp] theorem State.setAux_head (s : State) (x : Aux) : (s.setAux x).head = s.head := rfl
@[simp] theorem State.setAux_scan (s : State) (x : Aux) : (s.setAux x).scan = s.scan := rfl
@[simp] theorem State.setAux_ring (s : State) (x : Aux) : (s.setAux x).ring = s.ring := rfl
@[simp] theorem State.setAux_modu (s : State) (x : Aux) : (s.setAux x).modu = s.modu := rfl
@[simp] theorem State.setAux_markGen (s : State) (x : Aux) : (s.setAux x).markGen = s.markGen := rfl
@[simp] theorem State.setAux_dialer (s : State) (x : Aux) : (s.setAux x).dialer = s.dialer := rfl
@[simp] theorem State.setAux_dialBuf (s : State) (x : Aux) : (s.setAux x).dialBuf = s.dialBuf := rfl
@[simp] theorem State.setAux_line (s : State) (x : Aux) : (s.setAux x).line = s.line := rfl
@[simp] theorem State.setAux_slips (s : State) (x : Aux) : (s.setAux x).slips = s.slips := rfl
@[simp] theorem State.setAux_deskLink (s : State) (x : Aux) : (s.setAux x).deskLink = s.deskLink := rfl
@[simp] theorem State.setAux_panelLink (s : State) (x : Aux) : (s.setAux x).panelLink = s.panelLink := rfl
@[simp] theorem State.setAux_deskAttn (s : State) (x : Aux) : (s.setAux x).deskAttn = s.deskAttn := rfl
@[simp] theorem State.setAux_panelAttn (s : State) (x : Aux) : (s.setAux x).panelAttn = s.panelAttn := rfl
@[simp] theorem State.setAux_modes (s : State) (x : Aux) : (s.setAux x).modes = s.modes := rfl
@[simp] theorem State.setAux_settings (s : State) (x : Aux) : (s.setAux x).settings = s.settings := rfl
@[simp] theorem State.setAux_curve (s : State) (x : Aux) : (s.setAux x).curve = s.curve := rfl
@[simp] theorem State.setAux_clock (s : State) (x : Aux) : (s.setAux x).clock = s.clock := rfl
@[simp] theorem State.setAux_pins (s : State) (x : Aux) : (s.setAux x).pins = s.pins := rfl
@[simp] theorem State.setAux_aux (s : State) (x : Aux) : (s.setAux x).aux = x := rfl
@[simp] theorem State.setAux_setAux (s : State) (x y : Aux) : (s.setAux x).setAux y = s.setAux y := rfl

end Sys2Proof.Machine
end

