-- ==== Sys2Proof/Laws/Jobs.lean ====
section
/-! SUPPORT. What the operations on jobs, legs, the mount queue and the printer's choice do, once each. -/

namespace Sys2Proof.Laws

open Machine

/-- A job that is not FREE has a number of the table. -/
theorem job_lt {s : State} {j : Nat} {x : Job} (h : s.job? j = some x) : j < 16 := by
  unfold State.job? at h
  by_contra hc
  simp only [not_lt] at hc
  rw [Vector.getElem?_eq_none (by omega)] at h
  simp at h

/-- A request that names a job it may touch reaches its own part. -/
theorem onJob_of_job {s : State} {j : Nat} {x : Job} (h : s.job? j = some x) (own : Option Link)
    (k : Job → Reply × State) (ho : ∀ lk, own = some lk → x.owner = lk) : onJob j own s k = k x := by
  have := job_lt h
  unfold onJob
  rw [if_neg (by omega)]
  simp only [h]
  cases own with
  | none => simp
  | some m => simp [ho m rfl]

/-- Replacing the queue's entries is what R7 and R25 say of it. -/
theorem setEntries_eq (es : List Nat) (s : State) : setEntries es s = queueBecomes es s := by
  simp only [setEntries, queueBecomes]
  by_cases h : es.head? = s.mountQueue.entries.head? <;> simp [h] <;> rfl

/-- A job's place in the queue is behind the entries that stay ahead of it (R7). -/
theorem queuePlace_eq (s : State) (j p n : Nat) (es : List Nat) :
    queuePlace s j p n es = placedIn s j p n es := by
  have hs : ∀ e, staysAhead s p n e = aheadOf s p n e := by
    intro e
    unfold staysAhead aheadOf
    cases s.job? e <;> simp [Bool.decide_or, Bool.decide_and]
  unfold placedIn
  induction es with
  | nil => rfl
  | cons e es ih =>
    simp only [queuePlace, hs]
    by_cases h : aheadOf s p n e <;> simp [h, ih]

/-- A place depends on the entries' own jobs alone. -/
theorem placedIn_congr (s t : State) (j p n : Nat) (es : List Nat)
    (h : ∀ e ∈ es, s.job? e = t.job? e) : placedIn s j p n es = placedIn t j p n es := by
  rw [← queuePlace_eq, ← queuePlace_eq]
  induction es with
  | nil => rfl
  | cons e es ih =>
    have he : staysAhead s p n e = staysAhead t p n e := by
      unfold staysAhead
      rw [h e (by simp)]
    simp only [queuePlace]
    rw [he, ih (fun e he => h e (by simp [he]))]

/-- Reading a job after one entry was written. -/
theorem job_setJob (s : State) (i j : Nat) (x : Option Job) (h : j < 16) :
    (s.setJob j x).job? i = if i = j then x else s.job? i := by
  unfold State.setJob State.job? State.setJobs
  simp only
  by_cases hi : i = j
  · subst hi; simp [h]
  · simp [Ne.symm hi, hi]

/-- The later of two writes of one entry stands. -/
theorem setJob_setJob (s : State) (j : Nat) (x y : Option Job) :
    (s.setJob j x).setJob j y = s.setJob j y := by
  unfold State.setJob State.setJobs
  simp

/-- A cause event leaves the jobs alone. -/
theorem cause_job (s : State) (c : Cause) (a b : Bool) (i : Nat) : (s.cause c a b).job? i = s.job? i := by
  cases a <;> cases b <;> rfl

/-- A change of the queue leaves the jobs alone. -/
theorem queueBecomes_job (s : State) (es : List Nat) (i : Nat) : (queueBecomes es s).job? i = s.job? i := by
  unfold queueBecomes
  simp only
  split <;> rfl

/-- A change of a job's state writes its entry and sends the JOB cause event (R25). -/
theorem setJobState_eq (s : State) (j : Nat) (x : Job) (st : JobState) (h : s.job? j = some x) :
    setJobState j st s = (s.setJob j (some { x with state := st })).causeJob x.owner := by
  simp [setJobState, h]

/-- The terminal job states (R1). -/
theorem jobTerminal_iff (st : JobState) : st.terminal = true ↔ endedJob st := by
  cases st <;> simp [JobState.terminal, endedJob]

/-- There is a MOUNTED job exactly when some job is MOUNTED (R12). -/
theorem mounted_isSome_iff (s : State) :
    s.mounted?.isSome = true ↔ ∃ j x, s.job? j = some x ∧ x.state = .mounted := by
  simp only [State.mounted?, jobNumbers, List.find?_isSome, List.mem_range, Option.any_eq_true]
  constructor
  · rintro ⟨i, hi, x, h1, h2⟩; exact ⟨i, x, h1, by simpa using h2⟩
  · rintro ⟨i, y, h1, h2⟩; exact ⟨i, job_lt h1, y, h1, by simpa using h2⟩

/-- A leg of a job that is not FREE. -/
theorem leg_of_job {s : State} {j l : Nat} {x : Job} {g : Leg} (h : s.job? j = some x)
    (hg : x.legs[l]? = some g) : s.leg? j l = some g := by
  simp [State.leg?, h, hg]

/-- Changing a leg writes its job's entry with that leg changed. -/
theorem modLeg_eq {s : State} {j l : Nat} {x : Job} {g : Leg} (f : Leg → Leg) (h : s.job? j = some x)
    (hg : x.legs[l]? = some g) :
    s.modLeg j l f = s.setJob j (some { x with legs := x.legs.set l (f g) }) := by
  obtain ⟨hl, hv⟩ := List.getElem?_eq_some_iff.1 hg
  simp only [State.modLeg, h]
  congr 3
  apply List.ext_getElem?
  intro i
  simp only [List.getElem?_modify, List.getElem?_set]
  by_cases hi : l = i
  · subst hi; simp [hl, hv]
  · simp [hi]

/-- The printer's choice changes the slip unit and the printer's own times alone, and of the slip unit
neither the records, the owed list, the copy nor the collection (R160). -/
theorem printerLook_keeps (s : State) :
    printerLook s = { s with
      slips := (printerLook s).slips
      aux := { s.aux with
        charTime := (printerLook s).aux.charTime
        paperChecked := (printerLook s).aux.paperChecked } } ∧
    (printerLook s).slips.queue = s.slips.queue ∧ (printerLook s).slips.owed = s.slips.owed ∧
    (printerLook s).slips.copy = s.slips.copy ∧
    (printerLook s).slips.collection = s.slips.collection := by
  unfold printerLook
  split
  · simp
  · split
    · simp [beginSlip, State.setSlips, State.setAux]
    · split <;> simp [beginSlip, State.setSlips, State.setAux]

/-! ### The cause events of the legs (R25, R155, R180) -/

/-- A cause that a link does not enable latches nothing there (R180). -/
theorem latch_disabled {a : Attn} {c : Cause} (h : a.enables &&& c.bit = 0) : a.latch c = a :=
  if_neg (not_not.2 h)

/-- A cause that a link enables is latched, and ATTN follows (R180, R181). -/
theorem latch_enabled {a : Attn} {c : Cause} (h : a.enables &&& c.bit ≠ 0) :
    a.latch c = ({ a with latches := a.latches ||| c.bit } : Attn).refresh := if_pos h

/-- A cause sent twice latches once (R180). -/
theorem latch_latch (a : Attn) (c : Cause) : (a.latch c).latch c = a.latch c := by
  by_cases h : a.enables &&& c.bit = 0
  · rw [latch_disabled h, latch_disabled h]
  · rw [latch_enabled h]
    refine (latch_enabled (a := ({ a with latches := a.latches ||| c.bit } : Attn).refresh) h).trans ?_
    simp [Attn.refresh, Attn.asserted, BitVec.or_assoc]

/-- The order of two causes does not matter (R180). -/
theorem latch_comm (a : Attn) (c d : Cause) : (a.latch c).latch d = (a.latch d).latch c := by
  by_cases h : a.enables &&& c.bit = 0 <;> by_cases k : a.enables &&& d.bit = 0
  · rw [latch_disabled h, latch_disabled k, latch_disabled h]
  · rw [latch_disabled h, latch_enabled k]
    exact (latch_disabled (a := ({ a with latches := a.latches ||| d.bit } : Attn).refresh) h).symm
  · rw [latch_enabled h, latch_disabled k, latch_enabled h]
    exact latch_disabled (a := ({ a with latches := a.latches ||| c.bit } : Attn).refresh) k
  · rw [latch_enabled h, latch_enabled k]
    refine (latch_enabled (a := ({ a with latches := a.latches ||| c.bit } : Attn).refresh) k).trans
      (Eq.trans ?_ (latch_enabled (a := ({ a with latches := a.latches ||| d.bit } : Attn).refresh) h).symm)
    simp [Attn.refresh, Attn.asserted, BitVec.or_assoc, BitVec.or_comm c.bit]

/-- The printer's choice sends no cause event (R160). -/
theorem printerLook_attn (s : State) : attnAs s (printerLook s) := by
  rw [attnAs, (printerLook_keeps s).1]
  exact ⟨rfl, rfl⟩

/-- A slip created sends its SLIP cause event and no other (R155). -/
theorem createSlip_attn {s : State} {j l : Nat} {x : Job} {g : Leg} (h : s.job? j = some x)
    (hg : x.legs[l]? = some g) : attnAs (s.causeSlip x.owner) (createSlip j l s) := by
  simp only [createSlip, h, leg_of_job h hg]
  have := printerLook_attn ((s.setSlips { s.slips with
      queue := s.slips.queue ++ [slipOf s j l x g]
      nextNumber := nextSlipNumber s.slips.nextNumber }).causeSlip x.owner)
  refine ⟨this.1.trans ?_, this.2.trans ?_⟩ <;> cases x.owner <;> rfl

/-- Changing a leg sends no cause event. -/
theorem modLeg_attn (s : State) (j l : Nat) (f : Leg → Leg) : attnAs s (s.modLeg j l f) := by
  unfold State.modLeg
  split <;> exact ⟨rfl, rfl⟩

/-- The cause events of a leg's end: JOB, and SLIP where a record is made (R16, R25, R155). -/
theorem legTerminal_attn {s : State} {j l : Nat} {x : Job} {g : Leg} (st : LegState) (h : s.job? j = some x)
    (hg : x.legs[l]? = some g) :
    attnAs (jobCauses x.owner true (decide (1 ≤ g.attempts ∧ s.slips.queue.length < 8)) false s)
      (legTerminal j l st s) := by
  have hj := job_lt h
  obtain ⟨hl, -⟩ := List.getElem?_eq_some_iff.1 hg
  simp only [legTerminal, h, leg_of_job h hg, modLeg_eq _ h hg]
  generalize hb : ({ g with state := st, endTime := some s.stamp, notBefore := none } : Leg) = b
  generalize ht : (s.setJob j (some { x with legs := x.legs.set l b })).causeJob x.owner = t
  have hd : t.deskAttn = (s.causeJob x.owner).deskAttn := by rw [← ht]; cases x.owner <;> rfl
  have hp : t.panelAttn = (s.causeJob x.owner).panelAttn := by rw [← ht]; cases x.owner <;> rfl
  have hq : t.slips = s.slips := by rw [← ht]; cases x.owner <;> rfl
  have hx : t.job? j = some { x with legs := x.legs.set l b } := by
    rw [← ht, State.causeJob, cause_job, job_setJob _ _ _ _ hj, if_pos rfl]
  by_cases ha : 1 ≤ g.attempts
  · by_cases hr : s.slips.queue.length < 8
    · have hs := createSlip_attn (l := l) (g := b) hx (by simp [hl])
      simp only [ha, hr, handOver, slipRoom, hq, jobCauses, if_true, and_self, decide_true]
      refine ⟨hs.1.trans ?_, hs.2.trans ?_⟩ <;>
        · revert hd hp; cases x.owner <;> intro hd hp <;>
            simp_all [State.causeSlip, State.causeJob, State.cause, State.setDeskAttn, State.setPanelAttn]
    · simp only [ha, hr, handOver, slipRoom, hq, jobCauses, if_true, if_false, and_false, decide_false]
      have hm := modLeg_attn (t.setSlips { s.slips with owed := s.slips.owed ++ [(j, l)] }) j l
        fun y => { y with slipOwed := true }
      exact ⟨hm.1.trans hd, hm.2.trans hp⟩
  · simp only [ha, jobCauses, if_true, if_false, false_and, decide_false]
    exact ⟨hd, hp⟩
/-! ### When a leg may start (R12, R17) -/

/-- Whether a leg may start, as a proposition (R12, R17). -/
theorem legEligible_iff (now : Stamp) (g : Leg) :
    legEligible now g = true ↔ g.state = .pending ∨ (g.state = .retryWait ∧ ∃ due, g.notBefore = some due ∧
      due.acrossWrap = false ∧ (due.time.day < now.day ∨
        (due.time.day = now.day ∧ due.time.second ≤ now.second))) := by
  unfold legEligible
  cases g.notBefore <;> simp [NotBefore.reached, Stamp.reached]

/-- A not-before time set across the wrap of day 65535 is not reached, whatever the clock shows (R17). -/
theorem not_reached_acrossWrap (t now : Stamp) :
    NotBefore.reached { time := t, acrossWrap := true } now = false := rfl

/-- A not-before time set within the days left is reached as its stamp is (R17). -/
theorem retryAt_reached (t now : Stamp) (secs : Nat) (h : t.day + (t.second + secs) / 86400 ≤ 65535) :
    (t.retryAt secs).reached now = (t.plus secs).reached now := by
  have : ¬ 65535 < t.day + (t.second + secs) / 86400 := by omega
  simp [NotBefore.reached, Stamp.retryAt, this]

end Sys2Proof.Laws
end

