-- ==== Sys2Proof/Laws/Kept.lean ====
section
/-! SUPPORT. What every shared operation keeps, in one lemma per operation: the fields that only a few
commands write (`State.still`), the ATTN lines, the line's outputs, and the drum record's relations. A
lemma is a step: from `Kept s₀ s` it gives `Kept s₀ (op s)`, so that a chain of operations is closed by
simp. -/

namespace Sys2Proof.Laws

open Machine

/-- The fields that no operation of the blocks writes, but the requests and events that own them: the
waiting commands, the directory, the link records, the settings, the curve, the clock, the enables, the
masks and the global masks, local and attended mode. -/
structure Still where
  pending : List Instr
  routes : Vector (Option RouteRec) 24
  deskLink : LinkRec
  panelLink : LinkRec
  settings : Settings
  curve : Vector Nat 17
  clock : Clock
  deskCfg : BitVec 7 × BitVec 7 × Bool
  panelCfg : BitVec 7 × BitVec 7 × Bool
  localMode : Bool
  attended : Bool

/-- The enables, the masks and the global mask of a link. -/
def attnCfg (a : Attn) : BitVec 7 × BitVec 7 × Bool := (a.enables, a.masks, a.globalMask)

/-- The still fields of a state. -/
def still (s : State) : Still where
  pending := s.pending
  routes := s.routes
  deskLink := s.deskLink
  panelLink := s.panelLink
  settings := s.settings
  curve := s.curve
  clock := s.clock
  deskCfg := attnCfg s.deskAttn
  panelCfg := attnCfg s.panelAttn
  localMode := s.modes.localMode
  attended := s.modes.attended

/-- What an operation of the blocks keeps. -/
structure Kept (s t : State) : Prop where
  still : Laws.still t = Laws.still s
  attn : AttnApplied s → AttnApplied t
  line : LineOutputs s → LineOutputs t
  drum : StartDuties s → DrumRecord s → DrumRecord t

variable {s₀ s t : State}

theorem Kept.refl (s : State) : Kept s s := ⟨rfl, id, id, fun _ h => h⟩

theorem Kept.settings (h : Kept s t) : t.settings = s.settings := congrArg Still.settings h.still

theorem Kept.trans (h : Kept s₀ s) (g : Kept s t) : Kept s₀ t :=
  ⟨g.still.trans h.still, g.attn ∘ h.attn, g.line ∘ h.line, fun d r =>
    g.drum (by unfold StartDuties at *; rw [h.settings]; exact d) (h.drum d r)⟩

@[simp] theorem Kept.refl' (s : State) : Kept s s := Kept.refl s

/-! ### The named writes -/

@[simp] theorem setJobs_kept (x) (h : Kept s₀ s) : Kept s₀ (s.setJobs x) := ⟨h.still, h.attn, h.line, h.drum⟩
@[simp] theorem setCommitCounter_kept (x) (h : Kept s₀ s) : Kept s₀ (s.setCommitCounter x) :=
  ⟨h.still, h.attn, h.line, h.drum⟩
@[simp] theorem setMountQueue_kept (x) (h : Kept s₀ s) : Kept s₀ (s.setMountQueue x) :=
  ⟨h.still, h.attn, h.line, h.drum⟩
@[simp] theorem setPosTimer_kept (x) (h : Kept s₀ s) : Kept s₀ (s.setPosTimer x) :=
  ⟨h.still, h.attn, h.line, h.drum⟩
@[simp] theorem setHead_kept (x) (h : Kept s₀ s) : Kept s₀ (s.setHead x) := ⟨h.still, h.attn, h.line, h.drum⟩
@[simp] theorem setScan_kept (x) (h : Kept s₀ s) : Kept s₀ (s.setScan x) := ⟨h.still, h.attn, h.line, h.drum⟩
@[simp] theorem setRing_kept (x) (h : Kept s₀ s) : Kept s₀ (s.setRing x) := ⟨h.still, h.attn, h.line, h.drum⟩
@[simp] theorem setModu_kept (x) (h : Kept s₀ s) : Kept s₀ (s.setModu x) := ⟨h.still, h.attn, h.line, h.drum⟩
@[simp] theorem setMarkGen_kept (x) (h : Kept s₀ s) : Kept s₀ (s.setMarkGen x) :=
  ⟨h.still, h.attn, h.line, h.drum⟩
@[simp] theorem setDialer_kept (x) (h : Kept s₀ s) : Kept s₀ (s.setDialer x) :=
  ⟨h.still, h.attn, h.line, h.drum⟩
@[simp] theorem setDialBuf_kept (x) (h : Kept s₀ s) : Kept s₀ (s.setDialBuf x) :=
  ⟨h.still, h.attn, h.line, h.drum⟩
@[simp] theorem setSlips_kept (x) (h : Kept s₀ s) : Kept s₀ (s.setSlips x) := ⟨h.still, h.attn, h.line, h.drum⟩
@[simp] theorem setPins_kept (x) (h : Kept s₀ s) : Kept s₀ (s.setPins x) := ⟨h.still, h.attn, h.line, h.drum⟩
@[simp] theorem setAux_kept (x) (h : Kept s₀ s) : Kept s₀ (s.setAux x) := ⟨h.still, h.attn, h.line, h.drum⟩

/-- A write of the line record that leaves its outputs right. -/
theorem setLine_right_kept (x) (h : Kept s₀ s) (g : lineRight s.line → lineRight x) :
    Kept s₀ (s.setLine x) := ⟨h.still, h.attn, fun k => g (h.line k), h.drum⟩

/-- A write of the line record that leaves the state, the hook, the relay and the detector. -/
@[simp] theorem setLine_kept (x) (h : Kept s₀ s) (g₁ : x.state = s.line.state) (g₂ : x.hook = s.line.hook)
    (g₃ : x.relay = s.line.relay) (g₄ : x.detector = s.line.detector) : Kept s₀ (s.setLine x) :=
  setLine_right_kept x h (by unfold lineRight; rw [g₁, g₂, g₃, g₄]; exact id)

/-- A write of the modes that leaves local and attended mode. -/
@[simp] theorem setModes_kept (x) (h : Kept s₀ s) (g : x.localMode = s.modes.localMode)
    (k : x.attended = s.modes.attended) : Kept s₀ (s.setModes x) := by
  refine ⟨?_, h.attn, h.line, h.drum⟩
  rw [← h.still]; simp [Laws.still, State.setModes, g, k]

/-- A write of the drum record that leaves its relations right. -/
theorem setDrum_kept (x) (h : Kept s₀ s) (g : dutiesRight s.settings → drumRight s.drum → drumRight x) :
    Kept s₀ (s.setDrum x) := by
  refine ⟨h.still, h.attn, h.line, fun d k => g ?_ (h.drum d k)⟩
  rw [h.settings]; exact d

@[simp] theorem setJob_kept (j x) (h : Kept s₀ s) : Kept s₀ (s.setJob j x) := by simp [State.setJob, h]

@[simp] theorem modLeg_kept (j l f) (h : Kept s₀ s) : Kept s₀ (s.modLeg j l f) := by
  unfold State.modLeg; split <;> simp [h]

@[simp] theorem startLimit_kept (l n) (h : Kept s₀ s) : Kept s₀ (s.startLimit l n) := by
  exact setLine_right_kept _ h id

/-! ### The cause events -/

/-- A latch leaves the enables, the masks and the global mask, and applies ATTN. -/
theorem latch_cfg (a : Attn) (c : Cause) : attnCfg (a.latch c) = attnCfg a := by
  unfold Attn.latch; split <;> rfl

theorem latch_right (a : Attn) (c : Cause) (h : attnRight a) : attnRight (a.latch c) := by
  unfold Attn.latch; split
  · rfl
  · exact h

theorem setDeskAttn_latch_kept (c) (h : Kept s₀ s) : Kept s₀ (s.setDeskAttn (s.deskAttn.latch c)) := by
  refine ⟨?_, fun k => ⟨latch_right _ _ (h.attn k).1, (h.attn k).2⟩, h.line, h.drum⟩
  rw [← h.still]; simp [Laws.still, State.setDeskAttn, latch_cfg]

theorem setPanelAttn_latch_kept (c) (h : Kept s₀ s) :
    Kept s₀ (s.setPanelAttn (s.panelAttn.latch c)) := by
  refine ⟨?_, fun k => ⟨(h.attn k).1, latch_right _ _ (h.attn k).2⟩, h.line, h.drum⟩
  rw [← h.still]; simp [Laws.still, State.setPanelAttn, latch_cfg]

@[simp] theorem cause_kept (c d p) (h : Kept s₀ s) : Kept s₀ (s.cause c d p) := by
  unfold State.cause
  dsimp only
  cases d <;> cases p <;> simp only [if_true, if_false, Bool.false_eq_true]
  · exact h
  · exact setPanelAttn_latch_kept c h
  · exact setDeskAttn_latch_kept c h
  · exact setPanelAttn_latch_kept c (setDeskAttn_latch_kept c h)

@[simp] theorem causeJob_kept (o) (h : Kept s₀ s) : Kept s₀ (s.causeJob o) := cause_kept _ _ _ h
@[simp] theorem causeQueue_kept (h : Kept s₀ s) : Kept s₀ s.causeQueue := cause_kept _ _ _ h
@[simp] theorem causeLine_kept (h : Kept s₀ s) : Kept s₀ s.causeLine := cause_kept _ _ _ h
@[simp] theorem causeDrum_kept (h : Kept s₀ s) : Kept s₀ s.causeDrum := cause_kept _ _ _ h
@[simp] theorem causeSlip_kept (o) (h : Kept s₀ s) : Kept s₀ (s.causeSlip o) := cause_kept _ _ _ h
@[simp] theorem causePrinter_kept (h : Kept s₀ s) : Kept s₀ s.causePrinter := cause_kept _ _ _ h
@[simp] theorem causeFault_kept (h : Kept s₀ s) : Kept s₀ s.causeFault := cause_kept _ _ _ h

/-! ### Slips -/

@[simp] theorem beginSlip_kept (i : PrintItem) (h : Kept s₀ s) :
    Kept s₀ (beginSlip i s) := by
  unfold beginSlip
  try dsimp only
  all_goals first | exact h | simp (maxDischargeDepth := 12) [h]

@[simp] theorem printerLook_kept (h : Kept s₀ s) :
    Kept s₀ (printerLook s) := by
  unfold printerLook
  try dsimp only
  repeat' split
  all_goals first | exact h | simp (maxDischargeDepth := 12) [h]

@[simp] theorem createSlip_kept (j l : Nat) (h : Kept s₀ s) :
    Kept s₀ (createSlip j l s) := by
  unfold createSlip
  try dsimp only
  repeat' split
  all_goals first | exact h | simp (maxDischargeDepth := 12) [h]

@[simp] theorem handOver_kept (j l : Nat) (h : Kept s₀ s) :
    Kept s₀ (handOver j l s) := by
  unfold handOver
  try dsimp only
  repeat' split
  all_goals first | exact h | simp (maxDischargeDepth := 12) [h]

@[simp] theorem createOwed_kept (h : Kept s₀ s) :
    Kept s₀ (createOwed s) := by
  unfold createOwed
  try dsimp only
  repeat' split
  all_goals first | exact h | simp (maxDischargeDepth := 12) [h]

@[simp] theorem removeSlip_kept (n : Nat) (h : Kept s₀ s) :
    Kept s₀ (removeSlip n s) := by
  unfold removeSlip
  try dsimp only
  all_goals first | exact h | simp (maxDischargeDepth := 12) [h]

@[simp] theorem removalTest_kept (n : Nat) (h : Kept s₀ s) :
    Kept s₀ (removalTest n s) := by
  unfold removalTest
  try dsimp only
  repeat' split
  all_goals first | exact h | simp (maxDischargeDepth := 12) [h]

@[simp] theorem modSlip_kept (n : Nat) (f : SlipRec → SlipRec) (h : Kept s₀ s) :
    Kept s₀ (modSlip n f s) := by
  unfold modSlip
  try dsimp only
  all_goals first | exact h | simp (maxDischargeDepth := 12) [h]

@[simp] theorem slipEnd_kept (p : Printing) (h : Kept s₀ s) :
    Kept s₀ (slipEnd p s) := by
  unfold slipEnd
  try dsimp only
  repeat' split
  all_goals first | exact h | simp (maxDischargeDepth := 12) [h]

@[simp] theorem strobe_kept (p : Printing) (b : Byte) (h : Kept s₀ s) :
    Kept s₀ (strobe p b s) := by
  unfold strobe
  try dsimp only
  repeat' split
  all_goals first | exact h | simp (maxDischargeDepth := 12) [h]

@[simp] theorem restartSlip_kept (h : Kept s₀ s) :
    Kept s₀ (restartSlip s) := by
  unfold restartSlip
  try dsimp only
  repeat' split
  all_goals first | exact h | simp (maxDischargeDepth := 12) [h]

/-! ### Jobs and the mount queue -/

@[simp] theorem setEntries_kept (es : List Nat) (h : Kept s₀ s) :
    Kept s₀ (setEntries es s) := by
  unfold setEntries
  try dsimp only
  repeat' split
  all_goals first | exact h | simp (maxDischargeDepth := 12) [h]

@[simp] theorem joinQueue_kept (j : Nat) (h : Kept s₀ s) :
    Kept s₀ (joinQueue j s) := by
  unfold joinQueue
  try dsimp only
  repeat' split
  all_goals first | exact h | simp (maxDischargeDepth := 12) [h]

@[simp] theorem leaveQueue_kept (j : Nat) (h : Kept s₀ s) :
    Kept s₀ (leaveQueue j s) := by
  unfold leaveQueue
  try dsimp only
  all_goals first | exact h | simp (maxDischargeDepth := 12) [h]

@[simp] theorem moveInQueue_kept (j : Nat) (h : Kept s₀ s) :
    Kept s₀ (moveInQueue j s) := by
  unfold moveInQueue
  try dsimp only
  repeat' split
  all_goals first | exact h | simp (maxDischargeDepth := 12) [h]

@[simp] theorem holdQueue_kept (r : HoldReason) (h : Kept s₀ s) :
    Kept s₀ (holdQueue r s) := by
  unfold holdQueue
  try dsimp only
  all_goals first | exact h | simp (maxDischargeDepth := 12) [h]

@[simp] theorem setJobState_kept (j : Nat) (st : JobState) (h : Kept s₀ s) :
    Kept s₀ (setJobState j st s) := by
  unfold setJobState
  try dsimp only
  repeat' split
  all_goals first | exact h | simp (maxDischargeDepth := 12) [h]

@[simp] theorem endJob_kept (j : Nat) (st : JobState) (h : Kept s₀ s) :
    Kept s₀ (endJob j st s) := by
  unfold endJob
  try dsimp only
  repeat' split
  all_goals first | exact h | simp (maxDischargeDepth := 12) [h]

@[simp] theorem jobEndTest_kept (j : Nat) (h : Kept s₀ s) :
    Kept s₀ (jobEndTest j s) := by
  unfold jobEndTest
  try dsimp only
  repeat' split
  all_goals first | exact h | simp (maxDischargeDepth := 12) [h]

@[simp] theorem legTerminal_kept (j l : Nat) (st : LegState) (h : Kept s₀ s) :
    Kept s₀ (legTerminal j l st s) := by
  unfold legTerminal
  try dsimp only
  repeat' split
  all_goals first | exact h | simp (maxDischargeDepth := 12) [h]

@[simp] theorem cancelWaiting_kept (j : Nat) (h : Kept s₀ s) :
    Kept s₀ (cancelWaiting j s) := by
  unfold cancelWaiting
  generalize List.range _ = ls
  revert s
  induction ls with
  | nil => intro s h; exact h
  | cons l ls ih =>
    intro s h
    rw [List.foldl_cons]
    refine ih ?_
    split
    · exact legTerminal_kept j l _ h
    · exact h

@[simp] theorem takeClaim_kept (j l : Nat) (h : Kept s₀ s) :
    Kept s₀ (takeClaim j l s) := by
  unfold takeClaim
  try dsimp only
  all_goals first | exact h | simp (maxDischargeDepth := 12) [h]

@[simp] theorem attemptEvent_kept (j l : Nat) (h : Kept s₀ s) :
    Kept s₀ (attemptEvent j l s) := by
  unfold attemptEvent
  try dsimp only
  all_goals first | exact h | simp (maxDischargeDepth := 12) [h]

@[simp] theorem modActive_kept (f : Leg → Leg) (h : Kept s₀ s) :
    Kept s₀ (modActive f s) := by
  unfold modActive
  try dsimp only
  repeat' split
  all_goals first | exact h | simp (maxDischargeDepth := 12) [h]

@[simp] theorem noteEvent_kept (k : NoteKind) (h : Kept s₀ s) :
    Kept s₀ (noteEvent k s) := by
  unfold noteEvent
  try dsimp only
  all_goals first | exact h | simp (maxDischargeDepth := 12) [h]

@[simp] theorem lineSentEvent_kept (h : Kept s₀ s) :
    Kept s₀ (lineSentEvent s) := by
  unfold lineSentEvent
  try dsimp only
  all_goals first | exact h | simp (maxDischargeDepth := 12) [h]

@[simp] theorem applyResult_kept (j l : Nat) (x : Job) (g : Leg) (res : LegResult) (h : Kept s₀ s) :
    Kept s₀ (applyResult j l x g res s) := by
  unfold applyResult
  try dsimp only
  repeat' split
  all_goals first | exact h | simp (maxDischargeDepth := 12) [h]

@[simp] theorem startIdle_kept (h : Kept s₀ s) :
    Kept s₀ (startIdle s) := by
  unfold startIdle
  split
  · exact setAux_kept _ (setDrum_kept _ h fun _ k => k)
  · exact h

@[simp] theorem endEvent_kept (j l : Nat) (res : LegResult) (h : Kept s₀ s) :
    Kept s₀ (endEvent j l res s) := by
  unfold endEvent
  try dsimp only
  repeat' split
  all_goals first | exact h | simp (maxDischargeDepth := 12) [h]

/-! ### The drum -/

theorem toStopped_right (d : Drum) : drumRight d.toStopped := by
  simp [drumRight, drumRow, Drum.toStopped, Drum.idled]

theorem toBraking_right (d : Drum) : drumRight d.toBraking := by
  simp [drumRight, drumRow, Drum.toBraking, Drum.idled]

theorem toFault_right (c : Option FaultCause) (d : Drum) : drumRight (d.toFault c) := by
  simp [drumRight, drumRow, Drum.toFault, Drum.idled]

/-- A drum with a demand and a target enters SPINUP with its relations right. -/
theorem toSpinup_right (d : Drum) (h : d.demand ≠ none) (g : d.target ≠ none) :
    drumRight d.toSpinup := by
  simp [drumRight, drumRow, Drum.toSpinup, h, g]

/-- In a running state there is a demand and a target, and the brake is off. -/
theorem running_demand (d : Drum) (h : drumRight d) (g : d.state.running = true) :
    d.demand ≠ none ∧ d.target ≠ none ∧ d.brake = false := by
  obtain ⟨row, tgt, -⟩ := h
  have : d.demand ≠ none ∧ d.brake = false := by
    cases hs : d.state <;> simp_all [drumRow, DrumState.running]
  exact ⟨this.1, fun k => this.1 (tgt.mp k), this.2⟩

/-- A drum that holds, or comes into, a lock is running. -/
theorem tracking_running (st : DrumState) (h : st.tracking = true) : st.running = true := by
  cases st <;> simp_all [DrumState.running, DrumState.tracking]

/-- A change to a tracking state that keeps demand, target and brake, and has a duty in range. -/
theorem tracking_right (d e : Drum) (h : drumRight d) (g : d.state.running = true)
    (k : e.state.tracking = true) (hd : e.demand = d.demand ∧ e.target = d.target ∧ e.brake = d.brake)
    (u : e.duty ≤ 1023) (t : e.spinupTime = none ∧ e.brakingTime = none) : drumRight e := by
  obtain ⟨a, b, c⟩ := running_demand d h g
  refine ⟨?_, ?_, u, ?_, ?_⟩
  · cases hs : e.state <;> simp_all [drumRow, DrumState.tracking]
  · rw [hd.1, hd.2.1]; exact h.2.1
  · cases hs : e.state <;> simp_all [DrumState.tracking]
  · cases hs : e.state <;> simp_all [DrumState.tracking]


@[simp] theorem drumStopped_kept (h : Kept s₀ s) :
    Kept s₀ (drumStopped s) := causeDrum_kept (setDrum_kept _ h fun _ _ => toStopped_right _)

@[simp] theorem drumBraking_kept (h : Kept s₀ s) :
    Kept s₀ (drumBraking s) := setDrum_kept _ h fun _ _ => toBraking_right _

@[simp] theorem countIndex_kept (h : Kept s₀ s) :
    Kept s₀ (countIndex s) := setAux_kept _ (setDrum_kept _ h fun _ k => k)

/-! ### The ring and the modulator -/

@[simp] theorem setSlot_kept (i : Nat) (x : Slot) (h : Kept s₀ s) :
    Kept s₀ (State.setSlot s i x) := by
  unfold State.setSlot
  try dsimp only
  all_goals first | exact h | simp (maxDischargeDepth := 12) [h]

@[simp] theorem emptyRing_kept (h : Kept s₀ s) :
    Kept s₀ (emptyRing s) := by
  unfold emptyRing
  try dsimp only
  all_goals first | exact h | simp (maxDischargeDepth := 12) [h]

@[simp] theorem unsend_kept (h : Kept s₀ s) :
    Kept s₀ (unsend s) := by
  unfold unsend
  try dsimp only
  all_goals first | exact h | simp (maxDischargeDepth := 12) [h]

@[simp] theorem modSilent_kept (h : Kept s₀ s) :
    Kept s₀ (modSilent s) := by
  unfold modSilent
  try dsimp only
  all_goals first | exact h | simp (maxDischargeDepth := 12) [h]

@[simp] theorem modTone_kept (f : Nat) (h : Kept s₀ s) :
    Kept s₀ (modTone f s) := by
  unfold modTone
  try dsimp only
  all_goals first | exact h | simp (maxDischargeDepth := 12) [h]

@[simp] theorem modMode_kept (m : Mode) (f : Nat) (h : Kept s₀ s) :
    Kept s₀ (modMode m f s) := by
  unfold modMode
  try dsimp only
  all_goals first | exact h | simp (maxDischargeDepth := 12) [h]

@[simp] theorem startPair_kept (k : KeySym) (h : Kept s₀ s) :
    Kept s₀ (startPair k s) := by
  unfold startPair
  try dsimp only
  all_goals first | exact h | simp (maxDischargeDepth := 12) [h]

@[simp] theorem markTone_kept (h : Kept s₀ s) :
    Kept s₀ (markTone s) := by
  unfold markTone
  try dsimp only
  repeat' split
  all_goals first | exact h | simp (maxDischargeDepth := 12) [h]

@[simp] theorem startMark_kept (h : Kept s₀ s) :
    Kept s₀ (startMark s) := by
  unfold startMark
  try dsimp only
  all_goals first | exact h | simp (maxDischargeDepth := 12) [h]

@[simp] theorem stopMark_kept (h : Kept s₀ s) :
    Kept s₀ (stopMark s) := by
  unfold stopMark
  try dsimp only
  all_goals first | exact h | simp (maxDischargeDepth := 12) [h]

@[simp] theorem blackHold_kept (h : Kept s₀ s) :
    Kept s₀ (blackHold s) := by
  unfold blackHold
  try dsimp only
  all_goals first | exact h | simp (maxDischargeDepth := 12) [h]

@[simp] theorem bridgeMode_kept (h : Kept s₀ s) :
    Kept s₀ (bridgeMode s) := by
  unfold bridgeMode
  try dsimp only
  all_goals first | exact h | simp (maxDischargeDepth := 12) [h]

@[simp] theorem stopMode_kept (h : Kept s₀ s) :
    Kept s₀ (stopMode s) := by
  unfold stopMode
  try dsimp only
  all_goals first | exact h | simp (maxDischargeDepth := 12) [h]

@[simp] theorem phasingMode_kept (target : Nat) (h : Kept s₀ s) :
    Kept s₀ (phasingMode target s) := by
  unfold phasingMode
  try dsimp only
  all_goals first | exact h | simp (maxDischargeDepth := 12) [h]

/-! ### The scanner and the head -/

@[simp] theorem abandonFilling_kept (h : Kept s₀ s) :
    Kept s₀ (abandonFilling s) := by
  unfold abandonFilling
  try dsimp only
  repeat' split
  all_goals first | exact h | simp (maxDischargeDepth := 12) [h]

@[simp] theorem scanIdle_kept (h : Kept s₀ s) :
    Kept s₀ (scanIdle s) := by
  unfold scanIdle
  try dsimp only
  all_goals first | exact h | simp (maxDischargeDepth := 12) [h]

@[simp] theorem scanHalt_kept (h : Kept s₀ s) :
    Kept s₀ (scanHalt s) := by
  unfold scanHalt
  try dsimp only
  repeat' split
  all_goals first | exact h | simp (maxDischargeDepth := 12) [h]

@[simp] theorem scanResume_kept (h : Kept s₀ s) :
    Kept s₀ (scanResume s) := by
  unfold scanResume
  try dsimp only
  repeat' split
  all_goals first | exact h | simp (maxDischargeDepth := 12) [h]

@[simp] theorem scanTransmission_kept (h : Kept s₀ s) :
    Kept s₀ (scanTransmission s) := by
  unfold scanTransmission
  try dsimp only
  repeat' split
  all_goals first | exact h | simp (maxDischargeDepth := 12) [h]

@[simp] theorem scanPicture_kept (h : Kept s₀ s) :
    Kept s₀ (scanPicture s) := by
  unfold scanPicture
  try dsimp only
  repeat' split
  all_goals first | exact h | simp (maxDischargeDepth := 12) [h]

@[simp] theorem scanFinished_kept (h : Kept s₀ s) :
    Kept s₀ (scanFinished s) := by
  unfold scanFinished
  try dsimp only
  repeat' split
  all_goals first | exact h | simp (maxDischargeDepth := 12) [h]

@[simp] theorem scanWaitTest_kept (h : Kept s₀ s) :
    Kept s₀ (scanWaitTest s) := by
  unfold scanWaitTest
  try dsimp only
  repeat' split
  all_goals first | exact h | simp (maxDischargeDepth := 12) [h]

@[simp] theorem scanPositioned_kept (p : Nat) (h : Kept s₀ s) :
    Kept s₀ (scanPositioned p s) := by
  unfold scanPositioned
  try dsimp only
  repeat' split
  all_goals first | exact h | simp (maxDischargeDepth := 12) [h]

@[simp] theorem headPulse_kept (forward : Bool) (h : Kept s₀ s) :
    Kept s₀ (headPulse forward s) := by
  unfold headPulse
  try dsimp only
  all_goals first | exact h | simp (maxDischargeDepth := 12) [h]

@[simp] theorem headPositioned_kept (h : Kept s₀ s) :
    Kept s₀ (headPositioned s) := by
  unfold headPositioned
  try dsimp only
  all_goals first | exact h | simp (maxDischargeDepth := 12) [h]

@[simp] theorem headMoving_kept (h : Kept s₀ s) :
    Kept s₀ (headMoving s) := by
  unfold headMoving
  try dsimp only
  all_goals first | exact h | simp (maxDischargeDepth := 12) [h]

@[simp] theorem homeReached_kept (h : Kept s₀ s) :
    Kept s₀ (homeReached s) := by
  unfold homeReached
  try dsimp only
  repeat' split
  all_goals first | exact h | simp (maxDischargeDepth := 12) [h]

@[simp] theorem enterHoming_kept (h : Kept s₀ s) :
    Kept s₀ (enterHoming s) := by
  unfold enterHoming
  try dsimp only
  repeat' split
  all_goals first | exact h | simp (maxDischargeDepth := 12) [h]

@[simp] theorem positionIdle_kept (p : Nat) (h : Kept s₀ s) :
    Kept s₀ (positionIdle p s) := by
  unfold positionIdle
  try dsimp only
  repeat' split
  all_goals first | exact h | simp (maxDischargeDepth := 12) [h]

@[simp] theorem positioningRequest_kept (p : Nat) (h : Kept s₀ s) :
    Kept s₀ (positioningRequest p s) := by
  unfold positioningRequest
  try dsimp only
  repeat' split
  all_goals first | exact h | simp (maxDischargeDepth := 12) [h]

@[simp] theorem scanStep_kept (h : Kept s₀ s) :
    Kept s₀ (scanStep s) := by
  unfold scanStep
  try dsimp only
  repeat' split
  all_goals first | exact h | simp (maxDischargeDepth := 12) [h]

/-! ### The line unit and the dialer -/

@[simp] theorem enterLine_kept (st : LineState) (h : Kept s₀ s) :
    Kept s₀ (enterLine st s) := by
  unfold enterLine
  have h' := setAux_kept { s.aux with detTime := 0, sinceSymbol := none } (setLine_right_kept (s := s)
    { s.line with
      state := st
      hook := st.hookClosed
      relay := st == .talk
      detector := st.detector
      timer := none } h fun _ => ⟨rfl, rfl, rfl⟩)
  dsimp only
  split
  · exact causeLine_kept h'
  · exact h'

@[simp] theorem enterGuard_kept (h : Kept s₀ s) :
    Kept s₀ (enterGuard s) := by
  unfold enterGuard
  try dsimp only
  all_goals first | exact h | simp (maxDischargeDepth := 12) [h]

@[simp] theorem dialStep_kept (st : DialerState) (us : Nat) (h : Kept s₀ s) :
    Kept s₀ (dialStep st us s) := by
  unfold dialStep
  try dsimp only
  all_goals first | exact h | simp (maxDischargeDepth := 12) [h]

@[simp] theorem stopDialer_kept (h : Kept s₀ s) :
    Kept s₀ (stopDialer s) := by
  unfold stopDialer
  try dsimp only
  all_goals first | exact h | simp (maxDischargeDepth := 12) [h]

@[simp] theorem dialBreak_kept (r : PulseRate) (h : Kept s₀ s) :
    Kept s₀ (dialBreak r s) := by
  unfold dialBreak
  try dsimp only
  all_goals first | exact h | simp (maxDischargeDepth := 12) [h]

@[simp] theorem dialTone_kept (k : KeySym) (h : Kept s₀ s) :
    Kept s₀ (dialTone k s) := by
  unfold dialTone
  try dsimp only
  all_goals first | exact h | simp (maxDischargeDepth := 12) [h]

@[simp] theorem dialPulse_kept (r : PulseRate) (d : Fin 10) (h : Kept s₀ s) :
    Kept s₀ (dialPulse r d s) := by
  unfold dialPulse
  try dsimp only
  all_goals first | exact h | simp (maxDischargeDepth := 12) [h]

@[simp] theorem beginSymbol_kept (d : DialSpec) (x : DialSym) (h : Kept s₀ s) :
    Kept s₀ (beginSymbol d x s) := by
  unfold beginSymbol
  try dsimp only
  repeat' split
  all_goals first | exact h | simp (maxDischargeDepth := 12) [h]

@[simp] theorem enterTalk_kept (h : Kept s₀ s) :
    Kept s₀ (enterTalk s) := by
  unfold enterTalk
  try dsimp only
  all_goals first | exact h | simp (maxDischargeDepth := 12) [h]

@[simp] theorem enterAwaitReady_kept (h : Kept s₀ s) :
    Kept s₀ (enterAwaitReady s) := by
  unfold enterAwaitReady
  try dsimp only
  all_goals first | exact h | simp (maxDischargeDepth := 12) [h]

@[simp] theorem dialComplete_kept (h : Kept s₀ s) :
    Kept s₀ (dialComplete s) := by
  unfold dialComplete
  try dsimp only
  repeat' split
  all_goals first | exact h | simp (maxDischargeDepth := 12) [h]

@[simp] theorem dialNext_kept (h : Kept s₀ s) :
    Kept s₀ (dialNext s) := by
  unfold dialNext
  try dsimp only
  repeat' split
  all_goals first | exact h | simp (maxDischargeDepth := 12) [h]

@[simp] theorem symbolDone_kept (h : Kept s₀ s) :
    Kept s₀ (symbolDone s) := by
  unfold symbolDone
  try dsimp only
  all_goals first | exact h | simp (maxDischargeDepth := 12) [h]

@[simp] theorem enterDial_kept (h : Kept s₀ s) :
    Kept s₀ (enterDial s) := by
  unfold enterDial
  try dsimp only
  all_goals first | exact h | simp (maxDischargeDepth := 12) [h]

@[simp] theorem enterSeize_kept (h : Kept s₀ s) :
    Kept s₀ (enterSeize s) := by
  unfold enterSeize
  try dsimp only
  all_goals first | exact h | simp (maxDischargeDepth := 12) [h]

@[simp] theorem callGone_kept (h : Kept s₀ s) :
    Kept s₀ (callGone s) := by
  unfold callGone
  try dsimp only
  all_goals first | exact h | simp (maxDischargeDepth := 12) [h]

@[simp] theorem legEndReport_kept (h : Kept s₀ s) :
    Kept s₀ (legEndReport s) := by
  unfold legEndReport
  try dsimp only
  repeat' split
  all_goals first | exact h | simp (maxDischargeDepth := 12) [h]

@[simp] theorem callEnd_kept (res : LegResult) (loopLoss : Bool) (h : Kept s₀ s) :
    Kept s₀ (callEnd res loopLoss s) := by
  unfold callEnd
  split
  · exact h
  · rename_i j l _
    have t := setModu_kept (stopMark (stopDialer (legEndReport (endEvent j l res s)))).modu.callEnd
      (stopMark_kept (stopDialer_kept (legEndReport_kept (endEvent_kept j l res h))))
    refine callGone_kept ?_
    split
    · exact enterLine_kept _ (setLine_kept _ t rfl rfl rfl rfl)
    · exact enterGuard_kept (setLine_kept _ t rfl rfl rfl rfl)

@[simp] theorem talkRelease_kept (e : TalkEnding) (h : Kept s₀ s) :
    Kept s₀ (talkRelease e s) := by
  unfold talkRelease
  try dsimp only
  all_goals first | exact h | simp (maxDischargeDepth := 12) [h]

@[simp] theorem beginClosing_kept (c : Closing) (h : Kept s₀ s) :
    Kept s₀ (beginClosing c s) := by
  unfold beginClosing
  try dsimp only
  all_goals first | exact h | simp (maxDischargeDepth := 12) [h]

@[simp] theorem bridgeEntry_kept (h : Kept s₀ s) :
    Kept s₀ (bridgeEntry s) := by
  unfold bridgeEntry
  try dsimp only
  all_goals first | exact h | simp (maxDischargeDepth := 12) [h]

@[simp] theorem bridgeResume_kept (h : Kept s₀ s) :
    Kept s₀ (bridgeResume s) := by
  unfold bridgeResume
  try dsimp only
  all_goals first | exact h | simp (maxDischargeDepth := 12) [h]

@[simp] theorem transmissionBegin_kept (h : Kept s₀ s) :
    Kept s₀ (transmissionBegin s) := by
  unfold transmissionBegin
  try dsimp only
  all_goals first | exact h | simp (maxDischargeDepth := 12) [h]

@[simp] theorem linePrepared_kept (h : Kept s₀ s) :
    Kept s₀ (linePrepared s) := by
  unfold linePrepared
  try dsimp only
  repeat' split
  all_goals first | exact h | simp (maxDischargeDepth := 12) [h]

@[simp] theorem lineWithdrawn_kept (h : Kept s₀ s) :
    Kept s₀ (lineWithdrawn s) := by
  unfold lineWithdrawn
  try dsimp only
  all_goals first | exact h | simp (maxDischargeDepth := 12) [h]

@[simp] theorem lineLamp_kept (h : Kept s₀ s) :
    Kept s₀ (lineLamp s) := by
  unfold lineLamp
  try dsimp only
  repeat' split
  all_goals first | exact h | simp (maxDischargeDepth := 12) [h]

@[simp] theorem lineFault_kept (h : Kept s₀ s) :
    Kept s₀ (lineFault s) := by
  unfold lineFault
  try dsimp only
  repeat' split
  all_goals first | exact h | simp (maxDischargeDepth := 12) [h]

@[simp] theorem lineLost_kept (h : Kept s₀ s) :
    Kept s₀ (lineLost s) := by
  unfold lineLost
  try dsimp only
  repeat' split
  all_goals first | exact h | simp (maxDischargeDepth := 12) [h]

@[simp] theorem lineLocked_kept (r : Rpm) (h : Kept s₀ s) :
    Kept s₀ (lineLocked r s) := by
  unfold lineLocked
  try dsimp only
  repeat' split
  all_goals first | exact h | simp (maxDischargeDepth := 12) [h]

@[simp] theorem lineSlipRev_kept (h : Kept s₀ s) :
    Kept s₀ (lineSlipRev s) := by
  unfold lineSlipRev
  try dsimp only
  repeat' split
  all_goals first | exact h | simp (maxDischargeDepth := 12) [h]

@[simp] theorem lineIndex_kept (h : Kept s₀ s) :
    Kept s₀ (lineIndex s) := by
  unfold lineIndex
  try dsimp only
  repeat' split
  all_goals first | exact h | simp (maxDischargeDepth := 12) [h]

@[simp] theorem linePhasingComplete_kept (h : Kept s₀ s) :
    Kept s₀ (linePhasingComplete s) := by
  unfold linePhasingComplete
  try dsimp only
  repeat' split
  all_goals first | exact h | simp (maxDischargeDepth := 12) [h]

@[simp] theorem linePictureComplete_kept (h : Kept s₀ s) :
    Kept s₀ (linePictureComplete s) := by
  unfold linePictureComplete
  try dsimp only
  repeat' split
  all_goals first | exact h | simp (maxDischargeDepth := 12) [h]

@[simp] theorem enterAnswerback_kept (h : Kept s₀ s) :
    Kept s₀ (enterAnswerback s) := by
  unfold enterAnswerback
  try dsimp only
  all_goals first | exact h | simp (maxDischargeDepth := 12) [h]

@[simp] theorem abortCall_kept (h : Kept s₀ s) :
    Kept s₀ (abortCall s) := by
  unfold abortCall
  try dsimp only
  repeat' split
  all_goals first | exact h | simp (maxDischargeDepth := 12) [h]

@[simp] theorem takeSymbol_kept (k : KeySym) (h : Kept s₀ s) :
    Kept s₀ (takeSymbol k s) := by
  unfold takeSymbol
  try dsimp only
  repeat' split
  all_goals first | exact h | simp (maxDischargeDepth := 12) [h]

/-! ### Preparation and capture -/

@[simp] theorem beginPreparation_kept (samples lineCount : Nat) (speed : Rpm) (resume : Nat) (h : Kept s₀ s) :
    Kept s₀ (beginPreparation samples lineCount speed resume s) := by
  unfold beginPreparation
  try dsimp only
  all_goals first | exact h | simp (maxDischargeDepth := 12) [h]

@[simp] theorem sendPrepared_kept (h : Kept s₀ s) :
    Kept s₀ (sendPrepared s) := by
  unfold sendPrepared
  try dsimp only
  all_goals first | exact h | simp (maxDischargeDepth := 12) [h]

@[simp] theorem enterPrepared_kept (h : Kept s₀ s) :
    Kept s₀ (enterPrepared s) := by
  unfold enterPrepared
  try dsimp only
  repeat' split
  all_goals first | exact h | simp (maxDischargeDepth := 12) [h]

@[simp] theorem darkDone_kept (sum samples : Nat) (h : Kept s₀ s) :
    Kept s₀ (darkDone sum samples s) := by
  unfold darkDone
  try dsimp only
  all_goals first | exact h | simp (maxDischargeDepth := 12) [h]

@[simp] theorem lampFailure_kept (h : Kept s₀ s) :
    Kept s₀ (lampFailure s) := by
  unfold lampFailure
  try dsimp only
  all_goals first | exact h | simp (maxDischargeDepth := 12) [h]

@[simp] theorem whiteDone_kept (meas : Nat) (h : Kept s₀ s) :
    Kept s₀ (whiteDone meas s) := by
  unfold whiteDone
  try dsimp only
  repeat' split
  all_goals first | exact h | simp (maxDischargeDepth := 12) [h]

@[simp] theorem scanLost_kept (h : Kept s₀ s) :
    Kept s₀ (scanLost s) := by
  unfold scanLost
  try dsimp only
  repeat' split
  all_goals first | exact h | simp (maxDischargeDepth := 12) [h]

@[simp] theorem scanLocked_kept (r : Rpm) (h : Kept s₀ s) :
    Kept s₀ (scanLocked r s) := by
  unfold scanLocked
  try dsimp only
  repeat' split
  all_goals first | exact h | simp (maxDischargeDepth := 12) [h]

@[simp] theorem lampHold_kept (h : Kept s₀ s) :
    Kept s₀ (lampHold s) := by
  unfold lampHold
  try dsimp only
  repeat' split
  all_goals first | exact h | simp (maxDischargeDepth := 12) [h]

@[simp] theorem trackDone_kept (meas : Nat) (h : Kept s₀ s) :
    Kept s₀ (trackDone meas s) := by
  unfold trackDone
  try dsimp only
  repeat' split
  all_goals first | exact h | simp (maxDischargeDepth := 12) [h]

@[simp] theorem captureBegin_kept (h : Kept s₀ s) :
    Kept s₀ (captureBegin s) := by
  unfold captureBegin
  try dsimp only
  repeat' split
  all_goals first | exact h | simp (maxDischargeDepth := 12) [h]

@[simp] theorem captureDone_kept (f : Filling) (levels : List Nat) (h : Kept s₀ s) :
    Kept s₀ (captureDone f levels s) := by
  unfold captureDone
  try dsimp only
  all_goals first | exact h | simp (maxDischargeDepth := 12) [h]

@[simp] theorem writeLevel_kept (samples r : Nat) (h : Kept s₀ s) :
    Kept s₀ (writeLevel samples r s) := by
  unfold writeLevel
  try dsimp only
  repeat' split
  all_goals first | exact h | simp (maxDischargeDepth := 12) [h]

@[simp] theorem shortLine_kept (h : Kept s₀ s) :
    Kept s₀ (shortLine s) := by
  unfold shortLine
  try dsimp only
  repeat' split
  all_goals first | exact h | simp (maxDischargeDepth := 12) [h]

@[simp] theorem trackSample_kept (samples k r : Nat) (h : Kept s₀ s) :
    Kept s₀ (trackSample samples k r s) := by
  unfold trackSample
  try dsimp only
  repeat' split
  all_goals first | exact h | simp (maxDischargeDepth := 12) [h]

@[simp] theorem whiteSample_kept (samples k r : Nat) (h : Kept s₀ s) :
    Kept s₀ (whiteSample samples k r s) := by
  unfold whiteSample
  try dsimp only
  repeat' split
  all_goals first | exact h | simp (maxDischargeDepth := 12) [h]

@[simp] theorem scanSample_kept (k r : Nat) (h : Kept s₀ s) :
    Kept s₀ (scanSample k r s) := by
  unfold scanSample
  try dsimp only
  repeat' split
  all_goals first | exact h | simp (maxDischargeDepth := 12) [h]

@[simp] theorem darkEnd_kept (h : Kept s₀ s) :
    Kept s₀ (darkEnd s) := by
  unfold darkEnd
  try dsimp only
  repeat' split
  all_goals first | exact h | simp (maxDischargeDepth := 12) [h]

@[simp] theorem scanSpanEnd_kept (h : Kept s₀ s) :
    Kept s₀ (scanSpanEnd s) := by
  unfold scanSpanEnd
  try dsimp only
  repeat' split
  all_goals first | exact h | simp (maxDischargeDepth := 12) [h]

@[simp] theorem warmIndex_kept (h : Kept s₀ s) :
    Kept s₀ (warmIndex s) := by
  unfold warmIndex
  try dsimp only
  repeat' split
  all_goals first | exact h | simp (maxDischargeDepth := 12) [h]

@[simp] theorem darkIndex_kept (h : Kept s₀ s) :
    Kept s₀ (darkIndex s) := by
  unfold darkIndex
  try dsimp only
  repeat' split
  all_goals first | exact h | simp (maxDischargeDepth := 12) [h]

@[simp] theorem scanIndex_kept (h : Kept s₀ s) :
    Kept s₀ (scanIndex s) := by
  unfold scanIndex
  try dsimp only
  repeat' split
  all_goals first | exact h | simp (maxDischargeDepth := 12) [h]

/-! ### The picture -/

@[simp] theorem spanDecision_kept (h : Kept s₀ s) :
    Kept s₀ (spanDecision s) := by
  unfold spanDecision
  try dsimp only
  repeat' split
  all_goals first | exact h | simp (maxDischargeDepth := 12) [h]

@[simp] theorem modPosition_kept (k : Nat) (h : Kept s₀ s) :
    Kept s₀ (modPosition k s) := by
  unfold modPosition
  try dsimp only
  repeat' split
  all_goals first | exact h | simp (maxDischargeDepth := 12) [h]

@[simp] theorem endSend_kept (h : Kept s₀ s) :
    Kept s₀ (endSend s) := by
  unfold endSend
  try dsimp only
  repeat' split
  all_goals first | exact h | simp (maxDischargeDepth := 12) [h]

@[simp] theorem modSpanEnd_kept (h : Kept s₀ s) :
    Kept s₀ (modSpanEnd s) := by
  unfold modSpanEnd
  try dsimp only
  repeat' split
  all_goals first | exact h | simp (maxDischargeDepth := 12) [h]

@[simp] theorem modRevolution_kept (h : Kept s₀ s) :
    Kept s₀ (modRevolution s) := by
  unfold modRevolution
  try dsimp only
  repeat' split
  all_goals first | exact h | simp (maxDischargeDepth := 12) [h]

@[simp] theorem modPhasingIndex_kept (h : Kept s₀ s) :
    Kept s₀ (modPhasingIndex s) := by
  unfold modPhasingIndex
  try dsimp only
  repeat' split
  all_goals first | exact h | simp (maxDischargeDepth := 12) [h]

/-! ### The position timer -/

@[simp] theorem loadTimer_kept (samples : Nat) (speed : Rpm) (h : Kept s₀ s) :
    Kept s₀ (loadTimer samples speed s) := by
  unfold loadTimer
  try dsimp only
  all_goals first | exact h | simp (maxDischargeDepth := 12) [h]

@[simp] theorem beginPosition_kept (k sample : Nat) (h : Kept s₀ s) :
    Kept s₀ (beginPosition k sample s) := by
  unfold beginPosition
  try dsimp only
  all_goals first | exact h | simp (maxDischargeDepth := 12) [h]

@[simp] theorem spanEndReport_kept (h : Kept s₀ s) :
    Kept s₀ (spanEndReport s) := by
  unfold spanEndReport
  try dsimp only
  all_goals first | exact h | simp (maxDischargeDepth := 12) [h]

@[simp] theorem holdPeriod_kept (p : Option Nat) (h : Kept s₀ s) :
    Kept s₀ (holdPeriod p s) := by
  unfold holdPeriod
  try dsimp only
  all_goals first | exact h | simp (maxDischargeDepth := 12) [h]

@[simp] theorem indexSpanEnd_kept (h : Kept s₀ s) :
    Kept s₀ (indexSpanEnd s) := by
  unfold indexSpanEnd
  try dsimp only
  repeat' split
  all_goals first | exact h | simp (maxDischargeDepth := 12) [h]

@[simp] theorem startRevolution_kept (h : Kept s₀ s) :
    Kept s₀ (startRevolution s) := by
  unfold startRevolution
  try dsimp only
  all_goals first | exact h | simp (maxDischargeDepth := 12) [h]

@[simp] theorem timerIndex_kept (period : Option Nat) (scan phase : Bool) (sample : Nat) (h : Kept s₀ s) :
    Kept s₀ (timerIndex period scan phase sample s) := by
  unfold timerIndex
  try dsimp only
  repeat' split
  all_goals first | exact h | simp (maxDischargeDepth := 12) [h]

/-! ### The drum and its reports -/

@[simp] theorem reportLocked_kept (r : Rpm) (h : Kept s₀ s) :
    Kept s₀ (reportLocked r s) := by
  unfold reportLocked
  try dsimp only
  all_goals first | exact h | simp (maxDischargeDepth := 12) [h]

@[simp] theorem reportLost_kept (h : Kept s₀ s) :
    Kept s₀ (reportLost s) := by
  unfold reportLost
  try dsimp only
  all_goals first | exact h | simp (maxDischargeDepth := 12) [h]

@[simp] theorem scanRetested_kept (r : State) (h : Kept s₀ s) : Kept s₀ (scanRetested r s) := by
  unfold scanRetested
  split <;> simp [h]

/-- A test made with the drum not LOCKED changes nothing (R87). -/
theorem scanRetested_eq (r t : State) (h : t.drum.state ≠ .locked) : scanRetested r t = t := by
  have hd : scanDrumLocked t = false := by
    unfold scanDrumLocked
    split
    · simp [Drum.lockedAt, h]
    · rfl
  simp [scanRetested, scanWaitTest, hd]

@[simp] theorem scanFault_kept (h : Kept s₀ s) : Kept s₀ (scanFault s) :=
  scanRetested_kept _ (scanLost_kept h)

@[simp] theorem reportFault_kept (h : Kept s₀ s) :
    Kept s₀ (reportFault s) := by
  unfold reportFault
  try dsimp only
  all_goals first | exact h | simp (maxDischargeDepth := 12) [h]

/-! The reports leave the drum record as it is. -/

@[simp] theorem lineWithdrawn_drum (s : State) : (lineWithdrawn s).drum = s.drum := rfl

@[simp] theorem scanLost_drum (s : State) : (scanLost s).drum = s.drum := by
  unfold scanLost
  dsimp only
  repeat' split
  all_goals simp

@[simp] theorem cause_drum (s : State) (c d p) : (s.cause c d p).drum = s.drum := by
  unfold State.cause
  dsimp only
  repeat' split
  all_goals rfl

@[simp] theorem causeDrum_drum (s : State) : s.causeDrum.drum = s.drum := cause_drum s _ _ _

@[simp] theorem modLeg_drum (s : State) (j l f) : (s.modLeg j l f).drum = s.drum := by
  unfold State.modLeg
  split <;> rfl

@[simp] theorem noteEvent_drum (k : NoteKind) (s : State) : (noteEvent k s).drum = s.drum := by
  unfold noteEvent modActive
  split
  · exact modLeg_drum ..
  · rfl

@[simp] theorem lineSlipRev_drum (s : State) : (lineSlipRev s).drum = s.drum := by
  unfold lineSlipRev
  split <;> simp

@[simp] theorem enterLine_drum (st : LineState) (s : State) : (enterLine st s).drum = s.drum := by
  unfold enterLine
  dsimp only
  split
  · exact cause_drum ..
  · rfl

@[simp] theorem scanHalt_drum (s : State) : (scanHalt s).drum = s.drum := by
  unfold scanHalt abandonFilling
  dsimp only
  repeat' split
  all_goals rfl

@[simp] theorem bridgeMode_drum (s : State) : (bridgeMode s).drum = s.drum := by
  simp [bridgeMode, modMode, unsend, stopMark]

@[simp] theorem lineLost_drum (s : State) : (lineLost s).drum = s.drum := by
  unfold lineLost
  split
  · unfold bridgeEntry
    simp [State.startLimit]
  · rfl

@[simp] theorem reportLost_drum (s : State) : (reportLost s).drum = s.drum := by
  unfold reportLost
  rw [lineLost_drum, scanLost_drum]


@[simp] theorem drumLost_kept (h : Kept s₀ s) (g : s.drum.state.running = true) :
    Kept s₀ (drumLost s) := by
  unfold drumLost
  have h' := causeDrum_kept (reportLost_kept h)
  refine scanRetested_kept _ (setDrum_kept _ h' fun _ k => ?_)
  rw [causeDrum_drum, reportLost_drum] at k ⊢
  obtain ⟨a, b, -⟩ := running_demand _ k g
  exact toSpinup_right _ a b

/-- The LOST event, whole: the reports, the DRUM cause, SPINUP. The scanner's test on its return to
WAIT_DRUM finds the drum in SPINUP (R54, R87, R92). -/
theorem drumLost_eq (s : State) :
    drumLost s = (reportLost s).causeDrum.setDrum (reportLost s).causeDrum.drum.toSpinup := by
  unfold drumLost
  exact scanRetested_eq _ _ (by simp [Drum.toSpinup])

@[simp] theorem faultEntry_kept (c : Option FaultCause) (h : Kept s₀ s) :
    Kept s₀ (faultEntry c s) := holdQueue_kept _ (setDrum_kept _ h fun _ _ => toFault_right _ _)

@[simp] theorem drumFault_kept (c : Option FaultCause) (h : Kept s₀ s) :
    Kept s₀ (drumFault c s) := by
  unfold drumFault
  try dsimp only
  all_goals first | exact h | simp (maxDischargeDepth := 12) [h]

/-! At an index. In the states that hold a lock, `Kept` from the state whose drum was tracking. -/

theorem correctedDuty_le (u : Nat) (e : Int) (gain : Nat) : correctedDuty u e gain ≤ 1023 := by
  unfold correctedDuty
  omega

theorem enterLocked_kept (r : Rpm) (h : Kept s₀ s) (g : s.drum.state.tracking = true) :
    Kept s₀ (enterLocked r s) := by
  refine reportLocked_kept r (setDrum_kept _ h fun _ k => ?_)
  have hs := tracking_running _ g
  refine tracking_right s.drum _ k hs rfl ⟨rfl, rfl, rfl⟩ k.2.2.1 ⟨?_, ?_⟩
  · by_contra n
    have := k.2.2.2.1.mp n
    simp [this, DrumState.tracking] at g
  · by_contra n
    have := k.2.2.2.2.mp n
    simp [this, DrumState.tracking] at g

theorem lockingIndex_kept (r : Rpm) (e : Int) (h : Kept s₀ s) (g : s.drum.state.tracking = true) :
    Kept s₀ (lockingIndex r e s) := by
  have h' (n) : Kept s₀ (s.setDrum { s.drum with lockCount := n }) := setDrum_kept _ h fun _ k => k
  unfold lockingIndex
  dsimp only
  repeat' split
  · exact enterLocked_kept r (h' _) g
  · exact h' _
  · exact h' _

theorem lockedIndex_kept (r : Rpm) (e : Int) (h : Kept s₀ s) (g : s.drum.state.tracking = true) :
    Kept s₀ (lockedIndex r e s) := by
  unfold lockedIndex
  split
  · exact h
  · refine setDrum_kept _ h fun _ k => ?_
    refine tracking_right s.drum _ k (tracking_running _ g) rfl ⟨rfl, rfl, rfl⟩ k.2.2.1 ⟨?_, ?_⟩
    · by_contra n
      simp [k.2.2.2.1.mp n, DrumState.tracking] at g
    · by_contra n
      simp [k.2.2.2.2.mp n, DrumState.tracking] at g

theorem slipIndex_kept (r : Rpm) (e : Int) (h : Kept s₀ s) (g : s.drum.state.tracking = true) :
    Kept s₀ (slipIndex r e s) := by
  unfold slipIndex
  dsimp only
  have h₁ : Kept s₀ (lineSlipRev (s.setDrum { s.drum with slipRevs := s.drum.slipRevs + 1 })) :=
    lineSlipRev_kept (setDrum_kept _ h fun _ k => k)
  have g₁ : (lineSlipRev (s.setDrum { s.drum with
      slipRevs := s.drum.slipRevs + 1 })).drum.state.tracking = true := by
    rw [lineSlipRev_drum]; exact g
  revert h₁ g₁
  generalize lineSlipRev _ = u
  intro h₁ g₁
  generalize (if e.natAbs ≤ _ then u.drum.goodCount + 1 else 0) = n
  have h₂ : Kept s₀ (u.setDrum { u.drum with goodCount := n }) := setDrum_kept _ h₁ fun _ k => k
  split
  · exact enterLocked_kept r h₂ g₁
  · split
    · exact drumLost_kept h₂ (tracking_running _ g₁)
    · exact h₂

theorem spinupIndex_kept (r : Rpm) (p : Nat) (h : Kept s₀ s) (g : s.drum.state = .spinup) :
    Kept s₀ (spinupIndex r p s) := by
  unfold spinupIndex
  split
  · refine setDrum_kept _ h fun d k => ?_
    have run : s.drum.state.running = true := by rw [g]; rfl
    refine tracking_right s.drum _ k run rfl ⟨rfl, rfl, rfl⟩ ?_ ⟨rfl, ?_⟩
    · obtain ⟨a, b, c⟩ := d
      cases r <;> assumption
    · show s.drum.brakingTime = none
      by_contra n
      rw [k.2.2.2.2.mp n] at g
      cases g
  · exact h

theorem corrected_kept (e : Int) (h : Kept s₀ s) (g : s.drum.state.tracking = true) (c : Settings) :
    Kept s₀ (s.setDrum (corrected c e s.drum)) := by
  refine setDrum_kept _ h fun _ k => ?_
  refine tracking_right s.drum _ k (tracking_running _ g) g ⟨rfl, rfl, rfl⟩
    (correctedDuty_le _ _ _) ⟨?_, ?_⟩
  · show s.drum.spinupTime = none
    by_contra n
    simp [k.2.2.2.1.mp n, DrumState.tracking] at g
  · show s.drum.brakingTime = none
    by_contra n
    simp [k.2.2.2.2.mp n, DrumState.tracking] at g


@[simp] theorem drumIndex_kept (h : Kept s₀ s) :
    Kept s₀ (drumIndex s) := by
  have h' := countIndex_kept h
  unfold drumIndex
  dsimp only
  split
  · exact drumBraking_kept h'
  · rename_i hs
    refine setDrum_kept _ h' fun _ k => ⟨k.1, k.2.1, k.2.2.1, k.2.2.2.1, ?_⟩
    simp [countIndex, hs]
  · exact h'
  · rename_i hs
    split
    · exact spinupIndex_kept _ _ h' hs
    · exact h'
  all_goals
    rename_i hs
    have g : (countIndex s).drum.state.tracking = true := by
      show s.drum.state.tracking = true
      rw [hs]; rfl
    split
    · first
      | exact lockingIndex_kept _ _ (corrected_kept _ h' g _) g
      | exact lockedIndex_kept _ _ (corrected_kept _ h' g _) g
      | exact slipIndex_kept _ _ (corrected_kept _ h' g _) g
    · exact h'

/-! A demand on a drum that is not in FAULT. -/

theorem retarget_right (k : Demand) (r : Rpm) (d : Drum) (h : drumRight d)
    (g : d.state.running = true) :
    drumRight (retarget r { d with demand := some k, idleTime := none }) := by
  obtain ⟨a, b, c⟩ := running_demand d h g
  obtain ⟨row, tgt, u, sp, br⟩ := h
  unfold retarget
  by_cases ht : d.target = some r <;> cases hs : d.state <;>
    simp_all [drumRight, drumRow, DrumState.running, DrumState.tracking, Drum.toLocking]

theorem demandDrum_kept (k : Demand) (r : Rpm) (h : Kept s₀ s) (g : s.drum.state ≠ .fault) :
    Kept s₀ (demandDrum k r s) := by
  unfold demandDrum
  dsimp only
  split
  · exact setDrum_kept _ h fun _ _ => toSpinup_right _ (by simp) (by simp)
  · rename_i n
    have run : s.drum.state.running = true := by
      cases hs : s.drum.state <;> simp_all [DrumState.running]
    have h' := setDrum_kept (retarget r { s.drum with demand := some k, idleTime := none }) h
      fun _ m => retarget_right k r s.drum m run
    split
    · refine drumLost_kept h' ?_
      show (retarget r _).state.running = true
      unfold retarget
      repeat' split
      · exact run
      · rfl
      · exact run
    · exact h'


@[simp] theorem giveSpeed_kept (r : Rpm) (h : Kept s₀ s) :
    Kept s₀ (giveSpeed r s) := by
  unfold giveSpeed
  split
  · exact causeFault_kept (scanFault_kept (faultEntry_kept _ h))
  · rename_i n
    refine demandDrum_kept _ _ h fun k => n ?_
    simp [startFaults, k]

@[simp] theorem openCover_kept (h : Kept s₀ s) :
    Kept s₀ (openCover s) := by
  have h' : Kept s₀ (s.setDrum { s.drum with coverOpen := true }) := setDrum_kept _ h fun _ k => k
  unfold openCover
  dsimp only
  repeat' split
  · exact causeFault_kept (scanRetested_kept _ (drumBraking_kept (causeDrum_kept (reportLost_kept h'))))
  · exact causeFault_kept (drumBraking_kept h')
  · exact h'

/-! ### The arbiter -/

@[simp] theorem beginCall_kept (j l : Nat) (x : Job) (g : Leg) (b : DialBuf) (h : Kept s₀ s) :
    Kept s₀ (beginCall j l x g b s) := by
  unfold beginCall
  try dsimp only
  repeat' split
  all_goals first | exact h | simp (maxDischargeDepth := 12) [h]

@[simp] theorem noRouteEnd_kept (j l : Nat) (h : Kept s₀ s) :
    Kept s₀ (noRouteEnd j l s) := by
  unfold noRouteEnd
  try dsimp only
  all_goals first | exact h | simp (maxDischargeDepth := 12) [h]

@[simp] theorem grantTalk_kept (p : PendingTalk) (h : Kept s₀ s) :
    Kept s₀ (grantTalk p s) := by
  unfold grantTalk
  try dsimp only
  all_goals first | exact h | simp (maxDischargeDepth := 12) [h]

theorem arbiterLook_kept (n : Nat) (h : Kept s₀ s) : Kept s₀ (arbiterLook n s) := by
  induction n generalizing s with
  | zero => exact h
  | succ n ih =>
    unfold arbiterLook
    repeat' split
    all_goals first
      | exact h
      | exact grantTalk_kept _ h
      | exact beginCall_kept _ _ _ _ _ (takeClaim_kept _ _ h)
      | exact ih (noRouteEnd_kept _ _ (takeClaim_kept _ _ h))


@[simp] theorem prompt_kept (h : Kept s₀ s) :
    Kept s₀ (prompt s) := arbiterLook_kept 5 h

/-! ### The requests of chapter 1 -/

@[simp] theorem commitJob_kept (j : Nat) (x : Job) (h : Kept s₀ s) :
    Kept s₀ (commitJob j x s) := by
  unfold commitJob
  try dsimp only
  all_goals first | exact h | simp (maxDischargeDepth := 12) [h]

@[simp] theorem cancelIdle_kept (j : Nat) (x : Job) (h : Kept s₀ s) :
    Kept s₀ (cancelIdle j x s) := by
  unfold cancelIdle
  try dsimp only
  repeat' split
  all_goals first | exact h | simp (maxDischargeDepth := 12) [h]

@[simp] theorem cancelActive_kept (j : Nat) (x : Job) (h : Kept s₀ s) :
    Kept s₀ (cancelActive j x s) := by
  unfold cancelActive
  try dsimp only
  all_goals first | exact h | simp (maxDischargeDepth := 12) [h]

@[simp] theorem mountJob_kept (j : Nat) (x : Job) (h : Kept s₀ s) :
    Kept s₀ (mountJob j x s) := by
  unfold mountJob
  try dsimp only
  all_goals first | exact h | simp (maxDischargeDepth := 12) [h]

@[simp] theorem unmountJob_kept (j : Nat) (x : Job) (h : Kept s₀ s) :
    Kept s₀ (unmountJob j x s) := by
  unfold unmountJob
  try dsimp only
  all_goals first | exact h | simp (maxDischargeDepth := 12) [h]

@[simp] theorem skipLeg_kept (j l : Nat) (h : Kept s₀ s) :
    Kept s₀ (skipLeg j l s) := by
  unfold skipLeg
  try dsimp only
  repeat' split
  all_goals first | exact h | simp (maxDischargeDepth := 12) [h]

@[simp] theorem releaseHold_kept (h : Kept s₀ s) :
    Kept s₀ (releaseHold s) := by
  unfold releaseHold
  try dsimp only
  repeat' split
  all_goals first | exact h | simp (maxDischargeDepth := 12) [h]

/-! ### The requests of chapter 3 -/

@[simp] theorem stopDrum_kept (h : Kept s₀ s) :
    Kept s₀ (stopDrum s) := by
  unfold stopDrum
  try dsimp only
  repeat' split
  all_goals first | exact h | simp (maxDischargeDepth := 12) [h]

/-! ### Index, positions and head steps -/

@[simp] theorem takeIndex_kept (sample : Nat) (drumFirst : Bool) (h : Kept s₀ s) :
    Kept s₀ (takeIndex sample drumFirst s) := by
  unfold takeIndex
  try dsimp only
  repeat' split
  all_goals first | exact h | simp (maxDischargeDepth := 12) [h]

@[simp] theorem takePulse_kept (sample : Nat) (h : Kept s₀ s) :
    Kept s₀ (takePulse sample s) := by
  unfold takePulse
  try dsimp only
  repeat' split
  all_goals first | exact h | simp (maxDischargeDepth := 12) [h]

@[simp] theorem senseHome_kept (home : Bool) (h : Kept s₀ s) : Kept s₀ (senseHome home s) := setPins_kept _ h

@[simp] theorem homingStep_kept (home : Bool) (h : Kept s₀ s) :
    Kept s₀ (homingStep home s) := by
  unfold homingStep
  try dsimp only
  repeat' split
  all_goals first | exact h | simp (maxDischargeDepth := 12) [h]

@[simp] theorem movingStep_kept (home : Bool) (h : Kept s₀ s) :
    Kept s₀ (movingStep home s) := by
  unfold movingStep
  try dsimp only
  repeat' split
  all_goals first | exact h | simp (maxDischargeDepth := 12) [h]

@[simp] theorem failHoming_kept (h : Kept s₀ s) :
    Kept s₀ (failHoming s) := by
  unfold failHoming
  try dsimp only
  all_goals first | exact h | simp (maxDischargeDepth := 12) [h]

@[simp] theorem endScanStep_kept (home : Bool) (h : Kept s₀ s) :
    Kept s₀ (endScanStep home s) := by
  unfold endScanStep
  try dsimp only
  repeat' split
  all_goals first | exact h | simp (maxDischargeDepth := 12) [h]

/-! ### Tones and dialling -/

@[simp] theorem updateDac_kept (h : Kept s₀ s) :
    Kept s₀ (updateDac s) := by
  unfold updateDac
  try dsimp only
  repeat' split
  all_goals first | exact h | simp (maxDischargeDepth := 12) [h]

@[simp] theorem markSilence_kept (h : Kept s₀ s) :
    Kept s₀ (markSilence s) := by
  unfold markSilence
  try dsimp only
  all_goals first | exact h | simp (maxDischargeDepth := 12) [h]

@[simp] theorem markNext_kept (h : Kept s₀ s) :
    Kept s₀ (markNext s) := by
  unfold markNext
  try dsimp only
  repeat' split
  all_goals first | exact h | simp (maxDischargeDepth := 12) [h]

/-! ### The call -/

@[simp] theorem endSeize_kept (loop : Bool) (h : Kept s₀ s) :
    Kept s₀ (endSeize loop s) := by
  unfold endSeize
  try dsimp only
  repeat' split
  all_goals first | exact h | simp (maxDischargeDepth := 12) [h]

@[simp] theorem takeReady_kept (h : Kept s₀ s) :
    Kept s₀ (takeReady s) := by
  unfold takeReady
  try dsimp only
  repeat' split
  all_goals first | exact h | simp (maxDischargeDepth := 12) [h]

@[simp] theorem endStopTime_kept (h : Kept s₀ s) :
    Kept s₀ (endStopTime s) := by
  unfold endStopTime
  try dsimp only
  repeat' split
  all_goals first | exact h | simp (maxDischargeDepth := 12) [h]

@[simp] theorem endWindow_kept (h : Kept s₀ s) :
    Kept s₀ (endWindow s) := by
  unfold endWindow
  try dsimp only
  repeat' split
  all_goals first | exact h | simp (maxDischargeDepth := 12) [h]

@[simp] theorem loseLoop_kept (h : Kept s₀ s) :
    Kept s₀ (loseLoop s) := by
  unfold loseLoop
  try dsimp only
  repeat' split
  all_goals first | exact h | simp (maxDischargeDepth := 12) [h]

@[simp] theorem changeSense_kept (present : Bool) (h : Kept s₀ s) :
    Kept s₀ (changeSense present s) := setLine_kept _ (setPins_kept _ h) rfl rfl rfl rfl

/-! ### The slip unit -/

@[simp] theorem collect_kept (r : SlipRec) (h : Kept s₀ s) :
    Kept s₀ (collect r s) := by
  unfold collect
  try dsimp only
  all_goals first | exact h | simp (maxDischargeDepth := 12) [h]

@[simp] theorem collectionOff_kept (h : Kept s₀ s) :
    Kept s₀ (collectionOff s) := by
  unfold collectionOff
  have h' : Kept s₀ (s.setSlips { s.slips with collection := false }) := setSlips_kept _ h
  revert h'
  generalize s.setSlips _ = u
  generalize List.map _ _ = ns
  revert u
  induction ns with
  | nil => intro u h'; exact h'
  | cons n ns ih => intro u h'; exact ih _ (removeSlip_kept n h')

@[simp] theorem printStep_kept (paperOut busy : Bool) (p : Printing) (ch : Byte) (h : Kept s₀ s) :
    Kept s₀ (printStep paperOut busy p ch s) := by
  unfold printStep
  try dsimp only
  repeat' split
  all_goals first | exact h | simp (maxDischargeDepth := 12) [h]

/-! ### The settings store and the clock -/

@[simp] theorem idleCompared_kept (n : Nat) (h : Kept s₀ s) :
    Kept s₀ (idleCompared n s) := by
  unfold idleCompared
  try dsimp only
  repeat' split
  all_goals first | exact h | simp (maxDischargeDepth := 12) [h]

@[simp] theorem compareRetries_kept (h : Kept s₀ s) :
    Kept s₀ (compareRetries s) := by
  unfold compareRetries
  try dsimp only
  repeat' split
  all_goals first | exact h | simp (maxDischargeDepth := 12) [h]

/-! ### Attention and resets -/

@[simp] theorem clearLegEnd_kept (h : Kept s₀ s) :
    Kept s₀ (clearLegEnd s) := by
  unfold clearLegEnd
  try dsimp only
  repeat' split
  all_goals first | exact h | simp (maxDischargeDepth := 12) [h]

end Sys2Proof.Laws
end

