-- ==== Sys2Proof/Laws/Line.lean ====
section
/-! SUPPORT. What the operations of the line, the tones, the keypad, the head, the clock and the lamps do, once each. -/

namespace Sys2Proof.Laws

open Machine

/-- Seconds in µs. -/
theorem sec_eq (n : Nat) : sec n = 1000000 * n := Nat.mul_comm _ _

/-- Milliseconds in µs. -/
theorem msec_eq (n : Nat) : msec n = 1000 * n := Nat.mul_comm _ _

/-- Entering a line state is what R122 and R150 say of it. -/
theorem enterLine_eq (st : LineState) (s : State) : enterLine st s = lineBecomes st s := by
  by_cases h : s.line.state = st <;>
    simp only [enterLine, lineBecomes, ne_eq, h, not_true, not_false_eq_true, if_true, if_false] <;> rfl

/-- The arbiter grants nothing unless the line is IDLE (R123). -/
theorem prompt_of_not_idle (s : State) (h : s.line.state ≠ .idle) : prompt s = s := by
  simp [prompt, arbiterLook, h]

/-- A limit has run out exactly when it is timed with nothing left (R121). -/
theorem limitDue_iff (l : Limit) (s : State) :
    s.limitDue l = true ↔ s.line.timer = some { limit := l, left := 0 } := by
  unfold State.limitDue
  cases h : s.line.timer with
  | none => simp
  | some t => obtain ⟨a, b⟩ := t; simp

/-- Latches cleared leave ATTN low (R181). -/
theorem cleared_eq (a : Attn) : a.cleared = { a with latches := 0, line := false } := by
  simp [Attn.cleared, Attn.refresh, Attn.asserted]

/-- The ring once the sends are taken back, slot by slot (R116). -/
theorem unsend_ring (s : State) : (unsend s).ring = s.ring.map Slot.unsent := by
  apply Vector.ext
  intro i hi
  simp [unsend, State.setRing, State.setModu]

/-- The jobs once the clock has wrapped, entry by entry (R194). -/
theorem wrapJobs_jobs (s : State) : (wrapJobs s).jobs =
    s.jobs.map fun e => e.map fun x => { x with legs := x.legs.map Leg.wrapped } := by
  apply Vector.ext
  intro i hi
  simp [wrapJobs, State.setJobs]

/-- A slot is FULL after the sends are taken back exactly when it was FULL or SENDING (R106, R116). -/
theorem unsent_full_iff (r : Vector Slot 4) (i n : Nat) (ls : List Nat) :
    (r[i]? = some (.sending n ls) ∨ r[i]? = some (.full n ls)) ↔
      (r.map Slot.unsent)[i]? = some (.full n ls) := by
  by_cases hi : i < 4
  · simp only [Vector.getElem?_map]
    rw [Vector.getElem?_eq_getElem hi]
    cases r[i] <;> simp [Slot.unsent]
  · simp [hi]

/-- The lowest FREE slot, when one is FREE (R105). -/
theorem lowestFree_eq {r : Vector Slot 4} {i : Nat} (h : r[i]? = some Slot.free)
    (hl : ∀ j : Nat, j < i → r[j]? ≠ some Slot.free) : lowestFree r = some i := by
  have hi : i < 4 := by
    by_contra hc
    rw [Vector.getElem?_eq_none (by omega)] at h
    simp at h
  simp only [lowestFree, slotIndices, List.find?_range_eq_some, beq_iff_eq, List.mem_range]
  exact ⟨h, hi, fun j hj => by simpa using hl j hj⟩

/-- Every keypad symbol is found from its two tones (R38, R129). -/
theorem keyOf_tones (k : KeySym) : keyOf? (rowTone k) (colTone k) = some k := by
  cases k with
  | digit d => revert d; decide
  | star => decide
  | hash => decide

/-- When a pair is taken as a symbol (R129). -/
theorem symbolTaken_iff (held gap : Nat) (s : State) : symbolTaken held gap s = true ↔
    s.line.detector = .digits ∧ 40000 ≤ held ∧ 40000 ≤ s.aux.detTime ∧
      ∀ since, s.aux.sinceSymbol = some since → 40000 ≤ gap ∧ held + 40000 ≤ since := by
  have h40 : symbolHold = 40000 := rfl
  simp only [symbolTaken, partedBySilence, h40, Bool.and_eq_true, beq_iff_eq, decide_eq_true_eq,
    Option.all_eq_true, and_assoc, Nat.le_min]

/-- The digits at the front of a buffer, and what follows them (R143). -/
theorem leadingDigits_append (code : List (Fin 10)) (rest : List KeySym)
    (h : ∀ d ks, rest ≠ .digit d :: ks) :
    leadingDigits (code.map KeySym.digit ++ rest) = (code, rest) := by
  induction code with
  | nil =>
    cases rest with
    | nil => rfl
    | cons a r =>
      cases a with
      | digit d => exact absurd rfl (h d r)
      | star => rfl
      | hash => rfl
  | cons c cs ih => simp [leadingDigits, ih]

/-- The digits taken and what follows them make the buffer again (R143). -/
theorem leadingDigits_join (ks : List KeySym) :
    ks = (leadingDigits ks).1.map KeySym.digit ++ (leadingDigits ks).2 := by
  induction ks with
  | nil => rfl
  | cons a r ih =>
    cases a with
    | digit d =>
      simp only [leadingDigits, Prod.map, List.map_cons, List.cons_append, id]
      rw [← ih]
    | star => rfl
    | hash => rfl

/-- A scan step touches the head, its pins and its step time alone (R80). -/
theorem scanStep_keeps (s : State) : scanStep s =
    { s with
      head := (scanStep s).head, pins := (scanStep s).pins
      aux := { s.aux with headTime := (scanStep s).aux.headTime } } := by
  simp only [scanStep]
  split <;> rfl

/-- A bit of the number that bits make is that bit. -/
theorem bitsValue_testBit (bs : List Bool) (n : Nat) : (bitsValue bs).testBit n = bs.getD n false := by
  induction bs generalizing n with
  | nil => simp [bitsValue]
  | cons b bs ih =>
    cases n with
    | zero => cases b <;> simp [bitsValue, Nat.testBit_zero]
    | succ n =>
      have : bitsValue (b :: bs) / 2 = bitsValue bs := by
        cases b
        · simp [bitsValue]
        · simp [bitsValue]; omega
      rw [Nat.testBit_succ, this, ih]
      simp

/-- Once the frame is latched, each lamp shows its condition (R186). -/
theorem latchLamps_bit (p : Pins) (s : State) (n : Nat) (h : n < 16) :
    ((p.shiftLamps (lampBits s)).latchLamps).lampBoard.getLsbD n = (lampConditions s).getD n false := by
  simp only [Pins.latchLamps, Pins.shiftLamps, lampBits, List.reverse_reverse, BitVec.getLsbD_ofNat,
    bitsValue_testBit]
  simp [h]

/-- The home switch reached: H 0 and valid, OK, and then IDLE, the positioned report, or MOVING (R77). -/
theorem homeReached_eq (s : State) : homeReached s =
    let t := s.setHead { s.head with line := 0, valid := true, lastHoming := some .ok }
    if s.head.target = none then t.setHead { t.head with motion := .idle }
    else if s.head.target = some 0 then headPositioned t
    else headMoving t := by
  unfold homeReached
  cases h : s.head.target with
  | none => simp
  | some n => cases n <;> simp

/-- A normalised sample lies in 0 to 1024 (R95). -/
theorem normalised_le (d w r : Nat) : normalised d w r ≤ 1024 := by
  unfold normalised
  rcases Nat.eq_zero_or_pos (w - d) with h | h
  · simp [h]
  · exact Nat.div_le_of_le_mul (by nlinarith [Nat.min_le_right (r - d) (w - d)])

end Sys2Proof.Laws
end

