-- ==== Sys2Proof/Laws/Links.lean ====
section
/-! SUPPORT. What the link operations and the passing of time do, once each. -/

namespace Sys2Proof.Laws

open Machine

variable {c : Code} {lk : Link} {b : Byte} {args : List Byte} {s : State}

/-- A frame that arrives is the frame the link takes. -/
theorem frame?_of_arrives (h : Arrives c lk b args s) :
    frame? lk b s = some { cmd := c.byte, n := args.length, args := args } := by
  obtain ⟨hs, r, hr, hc, h | ⟨n, hn, hle, hlen, ha⟩⟩ := h
  · obtain ⟨hl, hb, ha⟩ := h
    simp [frame?, hs, hr, ReqBuf.complete?, hl, hb, ha, hc]
  · have hl : r.args.length + 1 = n.toNat := by rw [hlen, ha]; simp
    simp [frame?, hs, hr, ReqBuf.complete?, hn, hl, hc, ← ha, hlen]

/-- A frame that arrives has at most 64 argument bytes. -/
theorem arrives_length_le (h : Arrives c lk b args s) : args.length ≤ 64 := by
  obtain ⟨-, r, -, -, ⟨-, -, ha⟩ | ⟨n, -, hle, hlen, -⟩⟩ := h
  · simp [ha]
  · omega

/-- A request that arrives is answered by the link's checks, or by its block. -/
theorem request_of_arrives (serve : Serve) (h : Arrives c lk b args s) :
    request c lk b serve s = .next (answer c lk { cmd := c.byte, n := args.length, args := args } serve s) := by
  have h2 : ¬ 64 < args.length := by have := arrives_length_le h; omega
  simp [request, frame?_of_arrives h]
  omega

/-- The link's checks let an admitted request pass. -/
theorem linkCheck_of_admitted {n : Nat} (h : Admitted c lk n s) : linkCheck c n lk (takeRequest lk s) = none := by
  obtain ⟨h1, h2, h3, h4⟩ := h
  have hm : (takeRequest lk s).modes = s.modes := by cases lk <;> rfl
  simp only [linkCheck, hm]
  rw [if_neg (by omega), if_neg (by simp [h3]), if_neg h4]

/-- A request that is taken is answered by its block, from the state that holds it taken. -/
theorem request_of_taken (serve : Serve) (h : Taken c lk b args s) :
    request c lk b serve s =
      .next (placeReply lk (serve args (takeRequest lk s)).1 (serve args (takeRequest lk s)).2) := by
  rw [request_of_arrives serve h.arrives]
  simp only [answer, linkCheck_of_admitted h.admitted]

/-! ### A request taken and a reply placed change the link's record alone -/

@[simp] theorem takeRequest_pending (lk : Link) (s : State) : (takeRequest lk s).pending = s.pending := by cases lk <;> rfl
@[simp] theorem takeRequest_jobs (lk : Link) (s : State) : (takeRequest lk s).jobs = s.jobs := by cases lk <;> rfl
@[simp] theorem takeRequest_commitCounter (lk : Link) (s : State) : (takeRequest lk s).commitCounter = s.commitCounter := by cases lk <;> rfl
@[simp] theorem takeRequest_mountQueue (lk : Link) (s : State) : (takeRequest lk s).mountQueue = s.mountQueue := by cases lk <;> rfl
@[simp] theorem takeRequest_routes (lk : Link) (s : State) : (takeRequest lk s).routes = s.routes := by cases lk <;> rfl
@[simp] theorem takeRequest_drum (lk : Link) (s : State) : (takeRequest lk s).drum = s.drum := by cases lk <;> rfl
@[simp] theorem takeRequest_posTimer (lk : Link) (s : State) : (takeRequest lk s).posTimer = s.posTimer := by cases lk <;> rfl
@[simp] theorem takeRequest_head (lk : Link) (s : State) : (takeRequest lk s).head = s.head := by cases lk <;> rfl
@[simp] theorem takeRequest_scan (lk : Link) (s : State) : (takeRequest lk s).scan = s.scan := by cases lk <;> rfl
@[simp] theorem takeRequest_ring (lk : Link) (s : State) : (takeRequest lk s).ring = s.ring := by cases lk <;> rfl
@[simp] theorem takeRequest_modu (lk : Link) (s : State) : (takeRequest lk s).modu = s.modu := by cases lk <;> rfl
@[simp] theorem takeRequest_markGen (lk : Link) (s : State) : (takeRequest lk s).markGen = s.markGen := by cases lk <;> rfl
@[simp] theorem takeRequest_dialer (lk : Link) (s : State) : (takeRequest lk s).dialer = s.dialer := by cases lk <;> rfl
@[simp] theorem takeRequest_dialBuf (lk : Link) (s : State) : (takeRequest lk s).dialBuf = s.dialBuf := by cases lk <;> rfl
@[simp] theorem takeRequest_line (lk : Link) (s : State) : (takeRequest lk s).line = s.line := by cases lk <;> rfl
@[simp] theorem takeRequest_slips (lk : Link) (s : State) : (takeRequest lk s).slips = s.slips := by cases lk <;> rfl
@[simp] theorem takeRequest_deskAttn (lk : Link) (s : State) : (takeRequest lk s).deskAttn = s.deskAttn := by cases lk <;> rfl
@[simp] theorem takeRequest_panelAttn (lk : Link) (s : State) : (takeRequest lk s).panelAttn = s.panelAttn := by cases lk <;> rfl
@[simp] theorem takeRequest_modes (lk : Link) (s : State) : (takeRequest lk s).modes = s.modes := by cases lk <;> rfl
@[simp] theorem takeRequest_settings (lk : Link) (s : State) : (takeRequest lk s).settings = s.settings := by cases lk <;> rfl
@[simp] theorem takeRequest_curve (lk : Link) (s : State) : (takeRequest lk s).curve = s.curve := by cases lk <;> rfl
@[simp] theorem takeRequest_clock (lk : Link) (s : State) : (takeRequest lk s).clock = s.clock := by cases lk <;> rfl
@[simp] theorem takeRequest_pins (lk : Link) (s : State) : (takeRequest lk s).pins = s.pins := by cases lk <;> rfl
@[simp] theorem takeRequest_aux (lk : Link) (s : State) : (takeRequest lk s).aux = s.aux := by cases lk <;> rfl

@[simp] theorem takeRequest_job (lk : Link) (s : State) (j : Nat) : (takeRequest lk s).job? j = s.job? j := by cases lk <;> rfl
@[simp] theorem takeRequest_stamp (lk : Link) (s : State) : (takeRequest lk s).stamp = s.stamp := by cases lk <;> rfl
@[simp] theorem takeRequest_mounted (lk : Link) (s : State) : (takeRequest lk s).mounted? = s.mounted? := by cases lk <;> rfl
@[simp] theorem takeRequest_legActive (lk : Link) (s : State) : (takeRequest lk s).legActive = s.legActive := by cases lk <;> rfl
@[simp] theorem takeRequest_leg (lk : Link) (s : State) (j l : Nat) : (takeRequest lk s).leg? j l = s.leg? j l := by cases lk <;> rfl
@[simp] theorem takeRequest_attn (lk : Link) (s : State) (m : Link) : (takeRequest lk s).attn m = s.attn m := by cases lk <;> cases m <;> rfl

@[simp] theorem placeReply_pending (lk : Link) (r : Reply) (s : State) : (placeReply lk r s).pending = s.pending := by cases lk <;> rfl
@[simp] theorem placeReply_jobs (lk : Link) (r : Reply) (s : State) : (placeReply lk r s).jobs = s.jobs := by cases lk <;> rfl
@[simp] theorem placeReply_commitCounter (lk : Link) (r : Reply) (s : State) : (placeReply lk r s).commitCounter = s.commitCounter := by cases lk <;> rfl
@[simp] theorem placeReply_mountQueue (lk : Link) (r : Reply) (s : State) : (placeReply lk r s).mountQueue = s.mountQueue := by cases lk <;> rfl
@[simp] theorem placeReply_routes (lk : Link) (r : Reply) (s : State) : (placeReply lk r s).routes = s.routes := by cases lk <;> rfl
@[simp] theorem placeReply_drum (lk : Link) (r : Reply) (s : State) : (placeReply lk r s).drum = s.drum := by cases lk <;> rfl
@[simp] theorem placeReply_posTimer (lk : Link) (r : Reply) (s : State) : (placeReply lk r s).posTimer = s.posTimer := by cases lk <;> rfl
@[simp] theorem placeReply_head (lk : Link) (r : Reply) (s : State) : (placeReply lk r s).head = s.head := by cases lk <;> rfl
@[simp] theorem placeReply_scan (lk : Link) (r : Reply) (s : State) : (placeReply lk r s).scan = s.scan := by cases lk <;> rfl
@[simp] theorem placeReply_ring (lk : Link) (r : Reply) (s : State) : (placeReply lk r s).ring = s.ring := by cases lk <;> rfl
@[simp] theorem placeReply_modu (lk : Link) (r : Reply) (s : State) : (placeReply lk r s).modu = s.modu := by cases lk <;> rfl
@[simp] theorem placeReply_markGen (lk : Link) (r : Reply) (s : State) : (placeReply lk r s).markGen = s.markGen := by cases lk <;> rfl
@[simp] theorem placeReply_dialer (lk : Link) (r : Reply) (s : State) : (placeReply lk r s).dialer = s.dialer := by cases lk <;> rfl
@[simp] theorem placeReply_dialBuf (lk : Link) (r : Reply) (s : State) : (placeReply lk r s).dialBuf = s.dialBuf := by cases lk <;> rfl
@[simp] theorem placeReply_line (lk : Link) (r : Reply) (s : State) : (placeReply lk r s).line = s.line := by cases lk <;> rfl
@[simp] theorem placeReply_slips (lk : Link) (r : Reply) (s : State) : (placeReply lk r s).slips = s.slips := by cases lk <;> rfl
@[simp] theorem placeReply_deskAttn (lk : Link) (r : Reply) (s : State) : (placeReply lk r s).deskAttn = s.deskAttn := by cases lk <;> rfl
@[simp] theorem placeReply_panelAttn (lk : Link) (r : Reply) (s : State) : (placeReply lk r s).panelAttn = s.panelAttn := by cases lk <;> rfl
@[simp] theorem placeReply_modes (lk : Link) (r : Reply) (s : State) : (placeReply lk r s).modes = s.modes := by cases lk <;> rfl
@[simp] theorem placeReply_settings (lk : Link) (r : Reply) (s : State) : (placeReply lk r s).settings = s.settings := by cases lk <;> rfl
@[simp] theorem placeReply_curve (lk : Link) (r : Reply) (s : State) : (placeReply lk r s).curve = s.curve := by cases lk <;> rfl
@[simp] theorem placeReply_clock (lk : Link) (r : Reply) (s : State) : (placeReply lk r s).clock = s.clock := by cases lk <;> rfl
@[simp] theorem placeReply_pins (lk : Link) (r : Reply) (s : State) : (placeReply lk r s).pins = s.pins := by cases lk <;> rfl
@[simp] theorem placeReply_aux (lk : Link) (r : Reply) (s : State) : (placeReply lk r s).aux = s.aux := by cases lk <;> rfl

@[simp] theorem placeReply_job (lk : Link) (r : Reply) (s : State) (j : Nat) : (placeReply lk r s).job? j = s.job? j := by cases lk <;> rfl
@[simp] theorem placeReply_stamp (lk : Link) (r : Reply) (s : State) : (placeReply lk r s).stamp = s.stamp := by cases lk <;> rfl
@[simp] theorem placeReply_mounted (lk : Link) (r : Reply) (s : State) : (placeReply lk r s).mounted? = s.mounted? := by cases lk <;> rfl
@[simp] theorem placeReply_legActive (lk : Link) (r : Reply) (s : State) : (placeReply lk r s).legActive = s.legActive := by cases lk <;> rfl
@[simp] theorem placeReply_leg (lk : Link) (r : Reply) (s : State) (j l : Nat) : (placeReply lk r s).leg? j l = s.leg? j l := by cases lk <;> rfl
@[simp] theorem placeReply_attn (lk : Link) (r : Reply) (s : State) (m : Link) : (placeReply lk r s).attn m = s.attn m := by cases lk <;> cases m <;> rfl

end Sys2Proof.Laws
end

