-- ==== Sys2Proof/WellFormed.lean ====
section
/-! DEFINITION. When a command's operands are values the hardware can present. -/

namespace Sys2Proof

/-- A photocell reading is 0 to 4095 (R85); the other operands may take any value of their type. -/
def Instr.wellFormed : Instr → Bool
  | .index _ r _ => decide (r ≤ 4095)
  | .encoderPulse _ r => decide (r ≤ 4095)
  | .positionStart _ r => decide (r ≤ 4095)
  | _ => true

end Sys2Proof
end

