-- ==== Sys2Proof/Tests/Slice0.lean ====
section
/-! SUPPORT. Tests on small states, each of one command, with the expected values taken from the spec's worked
examples and tables; and, for every statement with hypotheses, a witness: concrete states that meet them. -/

namespace Sys2Proof.Tests

open Machine

/-! ### Small states -/

/-- The state a command leaves. -/
def after (i : Instr) (s : State) : State :=
  match exec i s with
  | .next t => t
  | .fault _ => s
  | .refused _ => s

/-- The last byte of a frame with these arguments: the last of them, or the length byte 0. -/
def lastOf (args : List Byte) : Byte := args.getLastD 0

/-- A link in a REQUEST select that has received a frame but for its last byte. -/
def asking (c : Code) (lk : Link) (args : List Byte) (s : State) : State :=
  s.setLink lk { s.link lk with
    select := .request
    request := some
      { cmd := c.byte
        len := if args = [] then none else some (BitVec.ofNat 8 args.length)
        args := args.dropLast } }

/-- The state a request leaves, sent on a link with these arguments. -/
def sends (i : Link → Byte → Instr) (c : Code) (lk : Link) (args : List Byte) (s : State) : State :=
  after (i lk (lastOf args)) (asking c lk args s)

/-- The reply frame a link holds. -/
def answered (lk : Link) (s : State) : List Byte :=
  ((s.link lk).reply.map fun p => p.reply.frame).getD []

/-- The frame that `asking` prepares arrives with its last byte. -/
theorem arrives_asking (c : Code) (lk : Link) (args : List Byte) (s : State) (h : args.length ≤ 64) :
    Arrives c lk (lastOf args) args (asking c lk args s) := by
  refine ⟨by cases lk <;> rfl, _, by cases lk <;> rfl, rfl, ?_⟩
  by_cases ha : args = []
  · subst ha; exact Or.inl ⟨rfl, rfl, rfl⟩
  · refine Or.inr ⟨BitVec.ofNat 8 args.length, if_neg ha, ?_, ?_, ?_⟩
    · simp only [BitVec.toNat_ofNat]; omega
    · simp only [BitVec.toNat_ofNat]; omega
    · simp only [lastOf, List.getLastD_eq_getLast?, List.getLast?_eq_some_getLast ha, Option.getD_some]
      exact (List.dropLast_append_getLast ha).symm

/-- It is taken when the link lets it pass. -/
theorem taken_asking (c : Code) (lk : Link) (args : List Byte) (s : State) (h : args.length ≤ 64)
    (ha : c.lo ≤ args.length ∧ args.length ≤ c.hi ∧ c.permits lk = true ∧
      ¬ (lk = .desk ∧ s.modes.localMode = true ∧ c.shut = true)) :
    Taken c lk (lastOf args) args (asking c lk args s) := by
  refine ⟨arrives_asking c lk args s h, ha.1, ha.2.1, ha.2.2.1, ?_⟩
  have hm : (asking c lk args s).modes = s.modes := by cases lk <;> rfl
  rw [hm]
  exact ha.2.2.2

/-- A dial string of one digit, by tone. -/
def dial1 : DialSpec := { string := [.digit 1], mode := .tone, rate := .pps10 }

/-- A leg with an explicit route, in a state. -/
def legIn (st : LegState) : Leg :=
  { route := .explicit dial1, state := st, attempts := 1, linesSent := 0, notBefore := none
    lastReason := none, firstAttempt := some ⟨3, 100⟩, endTime := some ⟨3, 200⟩, answerback := none
    garbled := false, notes := { short := 0, fill := 0, slip := 0, lamp := 0, bridge := 0 }
    slipOwed := false }

/-- A job of the panel's with these legs, in a state. -/
def jobIn (st : JobState) (legs : List Leg) : Job :=
  { state := st, owner := .panel, priority := 1, slug := none, speed := .rpm60, samples := 1024
    lineCount := 100, retries := 2, commitNumber := some 0, openTime := ⟨3, 0⟩, commitTime := none
    mountTime := none, cancelPending := false, legs := legs }

/-- Reset with a job in entry 0. -/
def withJob (x : Job) : State := State.reset.setJob 0 (some x)

/-- Reset with the line in a state, its outputs as R122 gives them. -/
def lineAt (st : LineState) : State :=
  { State.reset with line := { LineRec.reset with
    state := st, hook := st.hookClosed, relay := st == .talk, detector := st.detector } }

/-- A limit of the state timer that has run out. -/
def runOut (l : Limit) (s : State) : State :=
  { s with line := { s.line with timer := some { limit := l, left := 0 } } }

/-- A leg's call in a line state: job 0 MOUNTED, its leg 0 ACTIVE. -/
def callAt (st : LineState) : State :=
  { (lineAt st).setJob 0 (some (jobIn .mounted [legIn .active])) with
    line := { (lineAt st).line with
      kind := some .leg, active := some (0, 0), jobSpeed := some .rpm60, jobS := some 1024
      jobT := some 100 } }

/-- Reset with a drum record. -/
def drumIs (d : Drum) : State := { State.reset with drum := d }

/-- A drum in a state under JOB demand for 60 rpm, `us` after its last index. -/
def drumAt (st : DrumState) (us : Nat) : State :=
  drumIs { Drum.reset with
    state := st, target := some .rpm60, demand := some .job, duty := 400, indexTime := us
    indexHeld := true, spinupTime := if st = .spinup then some 0 else none }

/-- A slip record. -/
def slipN (n : Nat) (printed collected : Bool) : SlipRec :=
  { number := n, job := 0, leg := 0, owner := .panel, slug := none, routeText := [49], station := [0]
    attempts := 1, linesSent := 100, lineCount := 100, firstAttempt := ⟨3, 100⟩, endTime := ⟨3, 200⟩
    outcome := .confirmed, reason := none, answerback := none, garbled := false
    notes := { short := 0, fill := 0, slip := 0, lamp := 0, bridge := 0 }, printed := printed
    collected := collected }

/-- Reset with these slips in the queue. -/
def withSlips (rs : List SlipRec) : State := { State.reset with slips := { SlipUnit.reset with queue := rs } }

/-- Reset with the scanner in a state, for S 1024 and T 100 at 60 rpm. -/
def scanIn (c : Scanner) : State := { State.reset with scan := { c with
  jobS := some 1024, jobT := some 100, jobSpeed := some .rpm60 } }

/-- The position timer running a job of S 256 (G 32, N 288) at 60 rpm, at position `k`. -/
def timerAt (src : PosSource) (k : Option Nat) : State :=
  { State.reset with posTimer :=
    { running := true, samples := some 256, gap := some 32, positions := some 288, speed := some .rpm60
      source := some src, heldPeriod := some 1000000, interval := k.map fun _ => 55555, counter := k
      lastRev := none } }

/-- Reset with the modulator in a mode and the gap 32. -/
def modIn (m : Mode) (slot : Option Nat) (lead : Bool) (ring : Vector Slot 4) : State :=
  { timerAt .timer (some 0) with
    modu := { Modulator.reset with
      mode := m, sendingSlot := slot, lead := lead, linesCopy := some 0, lineCount := some 100 }
    ring := ring }

/-! ### Well-formedness -/

/-- A photocell reading above 4095 is refused, on each row that carries one (R85). -/
theorem test_wellFormed_refuses_samples :
    ¬ (Instr.index 0 4096 true).wellFormed = true ∧ ¬ (Instr.encoderPulse 0 4096).wellFormed = true ∧
    ¬ (Instr.positionStart 0 4096).wellFormed = true ∧ (Instr.index 0 4095 true).wellFormed = true := by
  decide

/-- No word spells a command: the table gives no row bits. -/
theorem test_no_word_spells_a_command : decodeTableWord 32 5 = none := by decide

/-! ### The links and attention (chapter 9) -/

/-- A first byte 0xFF begins a READ select, any other a REQUEST select (R172). -/
theorem test_selectStart :
    (after (.selectStart 0 .desk 0xFF) State.reset).deskLink.select = .read ∧
    (after (.selectStart 0 .panel 0x50) State.reset).panelLink.request =
      some { cmd := 0x50, len := none, args := [] } := by decide

/-- The length byte of 3 joins the buffer (R173). -/
theorem test_byteClock :
    (after (.byteClock 0 .desk 3) (after (.selectStart 0 .desk 0x49) State.reset)).deskLink.request =
      some { cmd := 0x49, len := some 3, args := [] } := by decide

/-- A release before the last byte drops the request (R173). -/
theorem test_selectRelease :
    (after (.selectRelease 0 .desk false) (after (.selectStart 0 .desk 0x49) State.reset)).deskLink =
      LinkRec.reset := by decide

/-- The last byte of IDENTIFY's nine is read out and the buffer is EMPTY (R175, R178). -/
theorem test_replyRead :
    let s := State.reset.setLink .panel { LinkRec.reset with
      select := .read, replyState := .sending
      reply := some { reply := { result := .ok, data := .bytes (identity .panel) }, sent := 8 } }
    (after (.replyRead 0 .panel) s).panelLink.dout = 1 ∧
      (after (.replyRead 0 .panel) s).panelLink.replyState = .empty := by decide

/-- A frame of 65 bytes is refused at its length byte, an unknown command at its last (R174). -/
theorem test_unknownRequest :
    let s := after (.selectStart 0 .desk 0x60) State.reset
    answered .desk (after (.unknownRequest .desk 65) s) = [0x03, 0] ∧
      answered .desk (after (.unknownRequest .desk 0) s) = [0x02, 0] := by decide

/-- IDENTIFY answers NDWX, 1, 0 and the link's number (R178). -/
theorem test_identify :
    answered .panel (sends .identify codeIdentify .panel [] State.reset) =
      [0, 7, 0x4E, 0x44, 0x57, 0x58, 1, 0, 1] := by decide

/-- READ_ATTN of latches JOB, LINE and SLIP with reset's settings: 0x15, 0x7F, 0, 1 (R182). -/
theorem test_readAttn :
    let s := { State.reset with panelAttn := { Attn.reset with latches := 0x15 } }
    let t := sends .readAttn codeReadAttn .panel [] s
    answered .panel t = [0, 7, 0x15, 0x7F, 0, 1, 0, 0, 0] ∧ t.panelAttn.latches = 0 := by decide

/-- SET_ATTN with the global mask clear asserts ATTN for a latched cause at once (R181, R183). -/
theorem test_setAttn :
    let s := { State.reset with deskAttn := { Attn.reset with latches := 0x01 } }
    (sends .setAttn codeSetAttn .desk [0x7F, 0x00, 0x00] s).deskAttn.line = true ∧
      answered .desk (sends .setAttn codeSetAttn .desk [0x80, 0x00, 0x00] s) = [0x04, 0] := by decide

/-- SET_MODES turns attended off and clears the leg-end flag; the desk may not send it (R184). -/
theorem test_setModes :
    let s := { State.reset with modes := { localMode := false, attended := true, legEnd := true } }
    (sends .setModes codeSetModes .panel [1, 0] s).modes =
      { localMode := true, attended := false, legEnd := false } ∧
      answered .desk (sends .setModes codeSetModes .desk [1, 0] s) = [0x05, 0] := by decide

/-- The lamp frame of a drum in FAULT with the queue held and no paper: bits 6, 8 and 9 (R186). -/
theorem test_lampFrame :
    let s := { drumIs { Drum.reset with state := .fault, brake := true } with
      mountQueue := { entries := [], hold := some .drumFault } }
    (after (.lampFrame 0 true) s).pins.lampBoard = 0x0340 := by decide

/-- The frame of a line in TALK goes out bit 15 first: the hook's bit 0 is the last of sixteen clocks, bit 4
the fifth from the end, and one latch pulse follows (R186). -/
theorem test_lampFrame_order :
    let t := after (.lampFrame 0 false) (lineAt .talk)
    t.pins.lampSent = List.replicate 11 false ++ [true, false, false, false, true] ∧
      t.pins.lampClocks = 16 ∧ t.pins.lampLatches = 1 ∧ t.pins.lampBoard = 0x0011 := by decide

/-- MACHINE_RESET keeps the next slip number and brakes a drum that is locked (R66, R170). -/
theorem test_machineReset :
    let s := { drumAt .locked 1000 with slips := { SlipUnit.reset with nextNumber := 77 } }
    let t := sends .machineReset codeMachineReset .panel [] s
    t.drum.state = .braking ∧ t.slips.nextNumber = 77 ∧ answered .panel t = [0, 0] := by decide

/-- MACHINE_RESET lets a scan step with none owed go on, and its end is taken; with one owed the count is no
longer sure (R82). -/
theorem test_machineReset_step :
    let s (owed : Nat) : State := { State.reset with
      head := { Head.reset with motion := .step, line := 5, valid := true, owed := owed } }
    let t := sends .machineReset codeMachineReset .panel [] (s 0)
    t.head.motion = .step ∧ (after (.scanStepEnd 40000 false) t).head = { Head.reset with line := 5, valid := true } ∧
      (sends .machineReset codeMachineReset .panel [] (s 1)).head.valid = false := by decide

/-- Power-on reset sets the next slip number to 1 and the global masks (R152, R187). -/
theorem test_powerOnReset :
    let s := { drumAt .locked 1000 with slips := { SlipUnit.reset with nextNumber := 77 } }
    let t := after (.powerOnReset true false false false false) s
    t.drum = { Drum.reset with coverOpen := true } ∧ t.slips.nextNumber = 1 ∧
      t.deskAttn.globalMask = true := by decide

/-! ### Jobs (chapter 1) -/

/-- OPEN_JOB of a 1024 by 900 picture at 60 rpm with 2 retries takes entry 0; S of 1000 is no multiple of
64 (R4). -/
theorem test_openJob :
    let t := sends .openJob codeOpenJob .desk [2, 60, 4, 0, 3, 132, 2, 65] State.reset
    (t.job? 0).map (fun x => (x.owner, x.samples, x.lineCount, x.slug)) = some (.desk, 1024, 900, some [65]) ∧
      answered .desk (sends .openJob codeOpenJob .desk [2, 60, 3, 232, 3, 132, 2] State.reset) = [4, 0] := by
  decide

/-- ADD_LEG of directory route 5 to a LOADING job gives leg 0 (R5). -/
theorem test_addLeg :
    let t := sends .addLeg codeAddLeg .panel [0, 0, 5] (withJob (jobIn .loading []))
    (t.leg? 0 0).map (fun g => g.route) = some (.directory 5) ∧ answered .panel t = [0, 1, 0] := by decide

/-- COMMIT_JOB makes the job QUEUED with the counter's number, which then rises (R6). -/
theorem test_commitJob :
    let t := sends .commitJob codeCommitJob .panel [0] (withJob (jobIn .loading [legIn .pending]))
    t.mountQueue.entries = [0] ∧ t.commitCounter = 1 ∧ answered .panel t = [0, 2, 0, 0] := by decide

/-- CANCEL_JOB ends the waiting leg and the job (R19). -/
theorem test_cancelJob :
    let t := sends .cancelJob codeCancelJob .panel [0] (withJob (jobIn .loading [legIn .pending]))
    (t.job? 0).map (fun x => x.state) = some .cancelled ∧
      (t.leg? 0 0).map (fun g => g.state) = some .cancelled := by decide

/-- CLEAR_JOB frees a terminal job, and refuses one whose slip is owed with SLIP_OWED (R23). -/
theorem test_clearJob :
    (sends .clearJob codeClearJob .panel [0] (withJob (jobIn .done [legIn .confirmed]))).job? 0 = none ∧
    answered .panel (sends .clearJob codeClearJob .panel [0]
      (withJob (jobIn .done [{ legIn .confirmed with slipOwed := true }]))) = [0x0D, 0] := by decide

/-- Three queued jobs of priority 1, the last raised to 2, and the queue after it: it goes to the head (R7,
R22). -/
theorem test_setPriority :
    let s := { (withJob (jobIn .queued [legIn .pending])).setJob 1 (some { jobIn .queued [legIn .pending] with
      commitNumber := some 1 }) with mountQueue := { entries := [0, 1], hold := none } }
    (sends .setPriority codeSetPriority .panel [1, 2] s).mountQueue.entries = [1, 0] := by decide

/-- MOUNT starts the job's pending leg, whose route is explicit: the line seizes (R10, R12). -/
theorem test_mount :
    let s := { withJob (jobIn .queued [legIn .pending]) with mountQueue := { entries := [0], hold := none } }
    let t := sends .mount codeMount .panel [0] s
    t.line.state = .seize ∧ t.mountQueue.entries = [] ∧ t.drum.state = .spinup := by decide

/-- UNMOUNT puts the job back in the queue and drops its resume points (R11). -/
theorem test_unmount :
    let t := sends .unmount codeUnmount .panel [0]
      (withJob (jobIn .mounted [{ legIn .retryWait with linesSent := 40 }]))
    t.mountQueue.entries = [0] ∧ (t.leg? 0 0).map (fun g => g.linesSent) = some 0 := by decide

/-- SKIP_LEG of the last leg that waits ends the job: with no leg delivered it is FAILED (R18, R21). -/
theorem test_skipLeg :
    let t := sends .skipLeg codeSkipLeg .panel [0, 0] (withJob (jobIn .mounted [legIn .pending]))
    (t.job? 0).map (fun x => x.state) = some .failed ∧ t.slips.queue.length = 1 := by decide

/-- READ_JOB and READ_LEG of entry 16 are refused BAD_ARGUMENT (R3, R24). -/
theorem test_readJob_readLeg :
    answered .desk (sends .readJob codeReadJob .desk [16] State.reset) = [4, 0] ∧
    answered .desk (sends .readLeg codeReadLeg .desk [16, 0] State.reset) = [4, 0] := by decide

/-- READ_QUEUE shows the hold and the entries; HOLD_QUEUE and RELEASE_QUEUE set and clear it (R8, R9). -/
theorem test_queue_hold :
    let s := sends .holdQueue codeHoldQueue .panel [] State.reset
    s.mountQueue.hold = some .operator ∧
      ((sends .readQueue codeReadQueue .desk [] s).deskLink.reply.map fun p => p.reply.data) =
        some (.queue (some .operator) [] none) ∧
      (sends .releaseQueue codeReleaseQueue .panel [] s).mountQueue.hold = none := by decide

/-! ### Routes and the dialer (chapter 2) -/

/-- WRITE_ROUTE of index 5, TONE, 10 pps, "12P", label "A", code "7"; ERASE_ROUTE empties it; a * in a PULSE
route is ROUTE_BAD (R28 to R31). -/
theorem test_routes :
    let t := sends .writeRoute codeWriteRoute .desk [5, 0, 10, 3, 49, 50, 80, 1, 65, 1, 55] State.reset
    t.routes[5] = some { label := [65], code := some [7]
                         dial := { string := [.digit 1, .digit 2, .pause], mode := .tone, rate := .pps10 } } ∧
      (sends .eraseRoute codeEraseRoute .desk [5] t).routes[5] = none ∧
      ((sends .readRoute codeReadRoute .desk [5] State.reset).deskLink.reply.map fun p => p.reply.data) =
        some .routeEmpty ∧
      answered .desk (sends .writeRoute codeWriteRoute .desk [5, 1, 10, 1, 42, 1, 65, 0] State.reset) =
        [0x0F, 0] := by decide

/-- A state in DIAL with a pulse string of one digit. -/
def dialling (d : DialSpec) (st : DialerState) (breaks : Nat) : State :=
  { lineAt .dial with
    dialBuf := some { source := .explicit, dial := d, code := none }
    dialer := { state := st, position := 0, breaks := breaks, left := 0 } }

/-- A pulse string of one digit 0. -/
def pulse0 : DialSpec := { string := [.digit 0], mode := .pulse, rate := .pps20 }

/-- At 20 pps with MAKE_BREAK 33:67 a break lasts 33 ms and a make 17 ms (R39). -/
theorem test_pulse_times :
    let g := { Settings.default with makeBreak := .mb3367 }
    (after (.breakEnd 0) { dialling pulse0 .breaking 10 with settings := g }).dialer =
      { state := .making, position := 0, breaks := 9, left := 17000 } ∧
    (after (.makeEnd 0) { dialling pulse0 .making 9 with settings := g }).dialer.left = 33000 ∧
    (after (.makeEnd 0) { dialling pulse0 .making 0 with settings := g }).dialer.left = 700000 := by decide

/-- The end of the inter-digit pause of the last digit is dial complete: a leg awaits the ready tone (R39,
R41). -/
theorem test_interdigitEnd :
    (after (.interdigitEnd 0) { dialling pulse0 .interdigit 0 with
      line := (callAt .dial).line }).line.state = .awaitReady := by decide

/-- After TONE_ON comes TONE_OFF of 80 ms, silent; after it the digit is complete (R38). -/
theorem test_tone_digit :
    (after (.toneOnEnd 0) (dialling dial1 .toneOn 0)).dialer.left = 80000 ∧
    (after (.toneOnEnd 0) (dialling dial1 .toneOn 0)).modu.mode = .silent ∧
    (after (.toneOffEnd 0) (dialling dial1 .toneOff 0)).dialer.position = 1 := by decide

/-- A P and an F each end alone, and the next symbol begins at once: digit 1 sounds 697 and 1209 Hz, with the
increments 2379 and 4127 (R40, R117). -/
theorem test_pause_and_flash :
    let d : DialSpec := { string := [.pause, .digit 1], mode := .tone, rate := .pps10 }
    (after (.pauseEnd 0) (dialling d .pause 0)).markGen.rowInc = 2379 ∧
    (after (.flashEnd 0) (dialling d .flash 0)).markGen.colInc = 4127 := by decide

/-! ### The drum (chapter 3) -/

/-- DRUM_RUN at 90 rpm from rest: SPINUP under MANUAL demand; 75 rpm is refused (R57). -/
theorem test_drumRun :
    let t := sends .drumRun codeDrumRun .panel [90] State.reset
    t.drum.state = .spinup ∧ t.drum.demand = some .manual ∧ t.drum.target = some .rpm90 ∧
      answered .panel (sends .drumRun codeDrumRun .panel [75] State.reset) = [4, 0] := by decide

/-- DRUM_STOP: a faulted drum still for 2 s stops, one turning is braked (R58). -/
theorem test_drumStop :
    let d := { Drum.reset with state := .fault, brake := true, faultCause := some .spinupLimit }
    (sends .drumStop codeDrumStop .panel [] (drumIs { d with indexTime := 2000000 })).drum.state = .stopped ∧
    (sends .drumStop codeDrumStop .panel [] (drumIs { d with indexTime := 1999999 })).drum.state =
      .braking := by decide

/-- READ_DRUM shows the class 1 tolerance of 1000 µs at 60 rpm (R46, R65). -/
theorem test_readDrum :
    (match (sends .readDrum codeReadDrum .desk [] (drumAt .locked 5)).deskLink.reply.map
        fun p => p.reply.data with
      | some (.drum v) => (v.tolerance, v.nominal)
      | _ => (none, none)) = (some 1000, some 1000000) := by decide

/-- A drum at 120 rpm given 60 rpm measures -500000 and its duty falls to 0 (R49); a first index at rest
brakes (R61). -/
theorem test_index_correction :
    (after (.index 0 0 true) (drumAt .locking 500000)).drum.duty = 0 ∧
    (after (.index 0 0 true) (drumAt .locking 500000)).drum.lastError = some (-500000) ∧
    (after (.index 0 0 true) State.reset).drum.state = .braking := by decide

/-- A revolution 1001 µs out at class 1 returns the lock count to 0; the eighth within 1000 locks (R50). -/
theorem test_index_lock :
    let s := drumAt .locking 1001000
    (after (.index 0 0 false) { s with drum := { s.drum with lockCount := 7 } }).drum.state = .locked ∧
    (after (.index 16 0 false) { s with drum := { s.drum with lockCount := 7 } }).drum.lockCount = 0 := by
  decide

/-- The index timeout at 60 rpm is 2,000,000 µs: SPINUP again at full duty (R53, R54). -/
theorem test_indexTimeout :
    (after (.indexTimeout 0) (drumAt .locked 2000000)).drum.state = .spinup ∧
    (after (.indexTimeout 0) (drumAt .locked 1999999)).drum.state = .locked := by decide

/-- A spin-up of 20 s faults the drum and holds the queue (R48, R63). -/
theorem test_spinupLimit :
    let s := drumAt .spinup 0
    let t := after (.spinupLimitExpiry 0) { s with drum := { s.drum with spinupTime := some 20000000 } }
    t.drum.faultCause = some .spinupLimit ∧ t.mountQueue.hold = some .drumFault := by decide

/-- A braked drum stops 2 s after its last index, with a DRUM cause (R60). -/
theorem test_brakingStillness :
    let t := after (.brakingStillness 0) (drumIs { Drum.reset with
      state := .braking, brake := true, brakingTime := some 2000000 })
    t.drum.state = .stopped ∧ t.drum.brake = false ∧ t.deskAttn.latches = 8 := by decide

/-- Under JOB demand 60 s of idle time brake the drum (R59). -/
theorem test_idleStop :
    let s := drumAt .locked 10
    (after (.idleStop 0) { s with drum := { s.drum with idleTime := some 60 } }).drum.state = .braking ∧
    (after (.idleStop 0) { s with drum := { s.drum with idleTime := some 59 } }).drum.state = .locked := by
  decide

/-- A cover opened in SPINUP brakes with FAULT alone, in LOCKED with DRUM as well (R62). -/
theorem test_cover :
    (after (.coverOpen 0) (drumAt .spinup 0)).deskAttn.latches = 64 ∧
    (after (.coverOpen 0) (drumAt .locked 0)).deskAttn.latches = 72 ∧
    (after (.coverClose 0) (drumIs { Drum.reset with coverOpen := true })).drum = Drum.reset := by decide

/-! ### Positions, head, scanner and tones (chapters 4 to 6) -/

/-- At S 256 and a held period of 1 s the interval is floor(16,000,000 / 288) = 55,555 (R70). -/
theorem test_index_interval :
    let t := after (.index 0 7 true) (timerAt .timer none)
    t.posTimer.interval = some 55555 ∧ t.posTimer.counter = some 0 ∧ t.pins.photocell = 7 := by decide

/-- Position 1 begins one interval after the index (R71). -/
theorem test_positionStart :
    (after (.positionStart 55555 9) (timerAt .timer (some 0))).posTimer.counter = some 1 ∧
    (after (.positionStart 55554 9) (timerAt .timer (some 0))).posTimer.counter = some 0 := by decide

/-- The span of S 256 ends 288 intervals after the index, once (R71). -/
theorem test_spanEnd :
    (after (.spanEnd 15999840) (timerAt .timer (some 287))).aux.spanEnded = true ∧
    (after (.spanEnd 15999839) (timerAt .timer (some 287))).aux.spanEnded = false := by decide

/-- An encoder pulse begins the next position; the first past N - 1 ends the span (R72). -/
theorem test_encoderPulse :
    (after (.encoderPulse 0 5) (timerAt .encoder (some 286))).posTimer.counter = some 287 ∧
    (after (.encoderPulse 0 5) (timerAt .encoder (some 287))).aux.spanEnded = true := by decide

/-- A head moving to line 3 rises to 3 and is IDLE (R78); a homing step onto the switch gives H 0 (R77). -/
theorem test_headStep :
    let s := { State.reset with
      head := { Head.reset with motion := .moving, line := 2, valid := true, target := some 3 } }
    (after (.headStep 40000 false) s).head = { Head.reset with line := 3, valid := true } ∧
    (after (.headStep 40000 true) { State.reset with
      head := { Head.reset with motion := .homing, line := 9, target := some 0 } }).head =
      { Head.reset with valid := true, lastHoming := some .ok } := by decide

/-- HEAD_STEP brings the level of HD_HOME when no step is due, and a homing that then begins finds the switch
closed (R77). -/
theorem test_headStep_level :
    let s := after (.headStep 0 true) State.reset
    s.pins.home = true ∧ s.pins.hdSteps = 0 ∧
      (positioningRequest 0 s).head = { Head.reset with valid := true, lastHoming := some .ok } := by decide

/-- After 4100 steps the homing has failed, with a FAULT cause (R79). -/
theorem test_homingFailure :
    let s := { State.reset with
      head := { Head.reset with motion := .homing, target := some 5 }
      aux := { Aux.reset with homingSteps := 4100 } }
    (after (.homingFailure 0) s).head.lastHoming = some .failed ∧
      (after (.homingFailure 0) s).deskAttn.latches = 64 := by decide

/-- A homing begun after a failed one reads FAILED, and OK at the switch (R79). -/
theorem test_homing_after_failure :
    let s := positioningRequest 5 { State.reset with head := { Head.reset with lastHoming := some .failed } }
    s.head.motion = .homing ∧ s.head.lastHoming = some .failed ∧
      (after (.headStep 40000 true) s).head.lastHoming = some .ok := by decide

/-- An owed step is given when the step before it ends (R80). -/
theorem test_scanStepEnd :
    let s := { State.reset with head := { Head.reset with motion := .step, line := 5, valid := true, owed := 1 } }
    (after (.scanStepEnd 40000 false) s).head.owed = 0 ∧
      (after (.scanStepEnd 40000 false) s).head.motion = .step := by decide

/-- With D 200 and W 3400 a sample of 1900 gives q 544, i 8, f 32 and the level 135 on the default curve
(R95, R96, R193). -/
theorem test_level : levelOf defaultCurve 200 3400 1900 = 135 ∧ normalised 200 3400 1900 = 544 := by decide

/-- With W 3400 a reading of 3405 keeps it, and one of 3320 lowers it to 3390 (R93). -/
theorem test_tracking : trackedWhite 3400 3405 = 3400 ∧ trackedWhite 3400 3320 = 3390 := by decide

/-- Level 0 is 1500 Hz and level 255 is 2300 Hz; 2800 Hz has the increment 9557 (R110). -/
theorem test_tones :
    levelFreq 1500 2300 0 = 1500 ∧ levelFreq 1500 2300 255 = 2300 ∧ phaseStep 2800 = 9557 := by decide

/-- One update of a 2300 Hz tone from 0: the accumulator is the increment 7851, the entry its top 8 bits
(R109). -/
theorem test_phaseUpdate :
    let s := { State.reset with
      modu := ({ Modulator.reset with mode := .picture } : Modulator).tone 2300
      aux := { Aux.reset with tonesDue := 1 } }
    (after (.phaseUpdate 0) s).modu.acc = 7851 ∧ (after (.phaseUpdate 0) s).modu.dac = 213 := by decide

/-- The mark of station "0" with 212 lines sent: * 0 * 0 2 1 2 # (R118). -/
theorem test_mark :
    markSymbols [0] 212 =
      [.star, .digit 0, .star, .digit 0, .digit 2, .digit 1, .digit 2, .hash] ∧
    (after (.markStepEnd 0) { State.reset with markGen := { MarkGen.reset with
      step := .silence, symbols := [.hash] } }).modu.mode = .blackHold := by decide

/-! ### The line (chapter 7) -/

/-- TALK with no route from IDLE seizes; held in GUARD; refused in PICTURE (R147). -/
theorem test_talk :
    (sends .talk codeTalk .panel [] State.reset).line.state = .seize ∧
    (sends .talk codeTalk .panel [] (lineAt .guard)).line.pendingTalk = some { route := none } ∧
    answered .panel (sends .talk codeTalk .panel [] (lineAt .picture)) = [0x0A, 0] := by decide

/-- END_TALK from TALK: GUARD for 2 s; from IDLE it is refused WRONG_STATE (R145, R149). -/
theorem test_endTalk :
    (sends .endTalk codeEndTalk .panel [] (lineAt .talk)).line.timer =
      some { limit := .guardTime, left := 2000000 } ∧
    answered .panel (sends .endTalk codeEndTalk .panel [] State.reset) = [0x09, 0] := by decide

/-- READ_LINE shows the line's state (R150). -/
theorem test_readLine :
    (match (sends .readLine codeReadLine .desk [] (lineAt .guard)).deskLink.reply.map
        fun p => p.reply.data with
      | some (.line v) => some v.state
      | _ => none) = some .guard := by decide

/-- No loop at the end of the seize window ends a leg LINE_DEAD, to be tried again (R125, R15). -/
theorem test_seizeWindowEnd :
    let t := after (.seizeWindowEnd 0 false) (runOut .seizeWindow (callAt .seize))
    t.line.state = .guard ∧ (t.leg? 0 0).map (fun g => (g.state, g.lastReason)) =
      some (.retryWait, some .lineDead) := by decide

/-- 1125 Hz held for 2 s is a ready tone of 1100 Hz, 1126 Hz is not (R128). -/
theorem test_readyEvent :
    let s := { callAt .awaitReady with aux := { Aux.reset with readyHz := 1100, detTime := 2000000 } }
    (after (.readyEvent 0 1125 2000000) s).line.state = .prepareWait ∧
      (after (.readyEvent 0 1126 2000000) s).line.state = .awaitReady := by decide

/-- The limits before the transmission end a leg NO_ANSWER and NOT_READY (R130, R132). -/
theorem test_answer_and_prepare_limits :
    ((after (.answerTimeoutExpiry 0) (runOut .answerTimeout (callAt .awaitReady))).leg? 0 0).map
      (fun g => g.lastReason) = some (some .noAnswer) ∧
    ((after (.prepareLimitExpiry 0) (runOut .prepareLimit (callAt .prepareWait))).leg? 0 0).map
      (fun g => g.lastReason) = some (some .notReady) := by decide

/-- BRIDGE_LIMIT begins a closing of 3 s of stop tone (R139, R140). -/
theorem test_bridgeLimit :
    let t := after (.bridgeLimitExpiry 0) (runOut .bridgeLimit (callAt .bridge))
    t.line.closing = some .bridgeLimit ∧ t.line.timer = some { limit := .stopTime, left := 3000000 } ∧
      t.modu.freq = some 1000 := by decide

/-- After STOP_TIME in STOP the answerback window of 10 s runs (R141). -/
theorem test_stopTime :
    let t := after (.stopTimeExpiry 0) (runOut .stopTime (callAt .stop))
    t.line.state = .answerback ∧ t.line.timer = some { limit := .answerbackWindow, left := 10000000 } := by
  decide

/-- The answerback 42*8# confirms a call that expects 42, or nothing; another code is a wrong station; with no
* it is garbled (R143). -/
theorem test_answerback :
    answerbackResult (some [4, 2]) [.digit 4, .digit 2, .star, .digit 8, .hash] =
      .delivered .confirmed (some { code := [4, 2], grade := 8 }) false ∧
    answerbackResult (some [4, 3]) [.digit 4, .digit 2, .star, .digit 8, .hash] =
      .delivered .wrongStation (some { code := [4, 2], grade := 8 }) false ∧
    answerbackResult none [.digit 4, .digit 2, .hash] = .delivered .unconfirmed none true := by decide

/-- 770 and 1336 Hz are the 5, after 40 ms of pair (R38, R129). -/
theorem test_symbolDetected :
    let s := { callAt .answerback with aux := { Aux.reset with detTime := 40000 } }
    (after (.symbolDetected 0 770 1336 40000 0) s).line.answerback = [.digit 5] ∧
      (after (.symbolDetected 0 770 1336 39999 0) s).line.answerback = [] := by decide

/-- R129: a pair named again while it is held, with whatever silence before it, is the same symbol; after 40 ms
of silence and 40 ms of tones the next is taken. -/
theorem test_symbolDetected_long_pair_is_one_symbol :
    let s := { callAt .answerback with aux := { Aux.reset with detTime := 40000 } }
    let t := after (.symbolDetected 0 770 1336 40000 50000) s
    (after (.symbolDetected 1600000 770 1336 140000 50000) t).line.answerback = [.digit 5] ∧
    (after (.symbolDetected 1280000 941 1336 40000 40000) t).line.answerback = [.digit 5, .digit 0] ∧
    (after (.symbolDetected 1280000 941 1336 40001 40000) t).line.answerback = [.digit 5] := by decide

/-- Nothing heard in the window is UNCONFIRMED; something heard runs the deadline of 10 s (R142). -/
theorem test_answerbackWindow :
    let s := runOut .answerbackWindow (callAt .answerback)
    ((after (.answerbackWindowExpiry 0) s).leg? 0 0).map (fun g => (g.state, g.garbled)) =
      some (.unconfirmed, false) ∧
    (after (.answerbackWindowExpiry 0) { s with line := { s.line with answerback := [.star] } }).line.timer =
      some { limit := .answerbackDeadline, left := 10000000 } := by decide

/-- The deadline garbles (R142). -/
theorem test_answerbackDeadline :
    ((after (.answerbackDeadline 0) (runOut .answerbackDeadline (callAt .answerback))).leg? 0 0).map
      (fun g => (g.state, g.garbled)) = some (.unconfirmed, true) := by decide

/-- A loop lost for 400 ms in PICTURE drops the call (R127). -/
theorem test_loopLost :
    let s := callAt .picture
    ((after (.loopLost 0) { s with line := { s.line with monitor := some 400000 } }).leg? 0 0).map
      (fun g => g.lastReason) = some (some .dropped) := by decide

/-- The loop sense returns: the absent time is 0 (R127). -/
theorem test_loopSenseChange :
    let s := callAt .picture
    let t := after (.loopSenseChange 0 true) { s with line := { s.line with monitor := some 399999 } }
    t.line.monitor = some 0 ∧ t.pins.loop = true := by decide

/-- After GUARD_TIME the line is IDLE, and a pending talk seizes it at once (R145, R123). -/
theorem test_guardTime :
    let s := runOut .guardTime (lineAt .guard)
    (after (.guardTimeExpiry 0) s).line.state = .idle ∧
    (after (.guardTimeExpiry 0) { s with line := { s.line with pendingTalk := some { route := none } } }).line.state =
      .seize := by decide

/-! ### Slips (chapter 8) -/

/-- COLLECT_SLIP sets the oldest record's flag; a printed one then leaves the queue (R157, R165). -/
theorem test_collectSlip :
    ((sends .collectSlip codeCollectSlip .desk [] (withSlips [slipN 1 false false])).slips.queue.map
      fun (r : SlipRec) => r.collected) = [true] ∧
    (sends .collectSlip codeCollectSlip .desk [] (withSlips [slipN 1 true false])).slips.queue = [] ∧
    answered .desk (sends .collectSlip codeCollectSlip .desk [] State.reset) = [0x10, 0] := by decide

/-- REPRINT_SLIP with a copy held prints it at once on an idle printer (R160, R164). -/
theorem test_reprintSlip :
    let s := { State.reset with slips := { SlipUnit.reset with copy := some (slipN 9 true true) } }
    (sends .reprintSlip codeReprintSlip .panel [] s).slips.printing =
      some { item := .copy, line := 1, chars := 0, restarted := false } := by decide

/-- SET_COLLECTION OFF removes the printed records (R166). -/
theorem test_setCollection :
    ((sends .setCollection codeSetCollection .panel [0] (withSlips [slipN 1 true false, slipN 2 false false])).slips.queue.map
      fun (r : SlipRec) => r.number) = [2] := by decide

/-- READ_SLIP_STATE shows next number 1 (R167). -/
theorem test_readSlipState :
    (match (sends .readSlipState codeReadSlipState .panel [] State.reset).panelLink.reply.map
        fun p => p.reply.data with
      | some (.slipState v) => v.nextNumber
      | _ => 0) = 1 := by decide

/-- A printer at line 1 of a slip. -/
def printingAt (line chars : Nat) : State :=
  { State.reset with slips := { SlipUnit.reset with
    queue := [slipN 1 false false], printer := .printing
    printing := some { item := .record 1, line := line, chars := chars, restarted := false } } }

/-- The slip begins with W; with no paper the printer waits (R159, R162, R169). -/
theorem test_printCharacter :
    (after (.printCharacter 0 false false) (printingAt 1 0)).pins.prData = some 87 ∧
    (after (.printCharacter 0 true false) (printingAt 1 0)).slips.printer = .paperWait ∧
    ((after (.printCharacter 0 false false) (printingAt 9 24)).slips.queue.map
      fun (r : SlipRec) => r.printed) = [true] := by decide

/-- Paper clears: the slip starts again from line 1, marked restarted once a character had gone (R162). -/
theorem test_paperOutClears :
    let s := printingAt 3 2
    (after (.paperOutClears 0) { s with slips := { s.slips with printer := .paperWait } }).slips.printing =
      some { item := .record 1, line := 1, chars := 0, restarted := true } := by decide

/-- BUSY for 10 s faults the printer, and BUSY low starts the slip again (R163). -/
theorem test_busy :
    let s := { printingAt 1 0 with aux := { Aux.reset with charTime := 10000000 } }
    let t := after (.busyTimeout 0) s
    t.slips.printer = .fault ∧ (after (.busyLowInFault 0) t).slips.printer = .printing := by decide

/-! ### Settings, curve and clock (chapter 10) -/

/-- INTERDIGIT 750 is brought onto its step of 100; PHASING_REVS 5 to 10; WHITE_HZ 1800 is too near BLACK_HZ
1600 (R189, R190). -/
theorem test_writeSetting :
    answered .panel (sends .writeSetting codeWriteSetting .panel [25, 2, 238] State.reset) = [1, 2, 2, 188] ∧
    answered .panel (sends .writeSetting codeWriteSetting .panel [8, 0, 5] State.reset) = [1, 2, 0, 10] ∧
    answered .panel (sends .writeSetting codeWriteSetting .panel [3, 7, 8]
      { State.reset with settings := { Settings.default with blackHz := 1600 } }) = [4, 0] := by decide

/-- READ_SETTING of WHITE_HZ is 2300, of STATION_CODE the digit 0 (R188, R192). -/
theorem test_readSetting :
    answered .desk (sends .readSetting codeReadSetting .desk [3] State.reset) = [0, 2, 8, 252] ∧
    answered .desk (sends .readSetting codeReadSetting .desk [1] State.reset) = [0, 1, 48] := by decide

/-- READ_CURVE of the default curve; a curve that falls is CURVE_BAD (R193). -/
theorem test_curve :
    answered .desk (sends .readCurve codeReadCurve .desk [] State.reset) =
      [0, 17, 0, 15, 31, 47, 63, 79, 95, 111, 127, 143, 159, 175, 191, 207, 223, 239, 255] ∧
    answered .panel (sends .writeCurve codeWriteCurve .panel (List.replicate 16 9 ++ [8]) State.reset) =
      [0x0E, 0] ∧
    (sends .writeCurve codeWriteCurve .panel (List.replicate 17 9) State.reset).curve =
      Vector.replicate 17 9 := by decide

/-- SET_CLOCK to day 513, 86399, and the second that carries into the next day; READ_CLOCK (R194, R195). -/
theorem test_clock :
    let s := sends .setClock codeSetClock .panel [2, 1, 1, 81, 127] State.reset
    let t := after (.clockSecond 16000000) s
    s.clock = { day := 513, second := 86399, cycles := 0 } ∧ t.clock.day = 514 ∧ t.clock.second = 0 ∧
      answered .panel (sends .readClock codeReadClock .panel [] s) = [0, 5, 2, 1, 1, 81, 127] := by decide

/-- A not-before time of day 0 set on day 65535 is not reached there, and is once the clock has wrapped
(R17, R194). -/
theorem test_retry_across_wrap :
    let due := Stamp.retryAt ⟨65535, 86399⟩ 120
    let s := { withJob (jobIn .mounted [{ legIn .retryWait with notBefore := some due }]) with
      clock := { day := 65535, second := 86399, cycles := 0 } }
    let t := after (.clockSecond 16000000) s
    due.time = ⟨0, 119⟩ ∧ retryReached s = false ∧ t.clock.day = 0 ∧ retryReached t = false ∧
      retryReached { t with clock := { t.clock with second := 119 } } = true := by decide

/-- A step with no command waiting lets one µs pass. -/
theorem test_idle_step :
    (match step State.reset with
      | .next t => t.drum.indexTime
      | _ => 0) = 1 := by decide

/-! ### Witnesses: the step and what commands keep -/

/-- A state with one command waiting. -/
def waiting (i : Instr) : State := { State.reset with pending := [i] }

theorem witness_StepRunsTheFrontCommand : (waiting (.spanEnd 0)).pending = .spanEnd 0 :: [] := rfl

theorem witness_PassingTimeRunsTheTimersAlone : State.reset.pending = [] := rfl

theorem witness_CommandsKeepTheWaitingCommands :
    ∃ t, exec (.coverOpen 16) (waiting (.spanEnd 0)) = .next t := ⟨_, rfl⟩

/-- COVER_OPEN is none of the writing requests, nor a reset. -/
theorem witness_DirectoryAndStoreKeptUntilWritten :
    (∃ t, exec (.coverOpen 16) State.reset = .next t) ∧
    (∀ v w x y z, Instr.coverOpen 16 ≠ .powerOnReset v w x y z) ∧
    (∀ lk b, Instr.coverOpen 16 ≠ .writeRoute lk b) ∧ (∀ lk b, Instr.coverOpen 16 ≠ .eraseRoute lk b) ∧
    (∀ lk b, Instr.coverOpen 16 ≠ .writeSetting lk b) ∧ ∀ lk b, Instr.coverOpen 16 ≠ .writeCurve lk b :=
  ⟨⟨_, rfl⟩, by simp, by simp, by simp, by simp, by simp⟩

theorem witness_LinksLeaveEachOtherAlone :
    (∃ t, exec (.byteClock 0 .desk 3) (after (.selectStart 0 .desk 0x49) State.reset) = .next t) ∧
    (Instr.byteClock 0 .desk 3).link? ≠ some .panel := ⟨⟨_, rfl⟩, by decide⟩

/-- A request on the other link, with a cause latched. -/
theorem witness_AttentionAndModesKeptUntilSetOrRead :
    let s := asking codeReadAttn .desk [] { State.reset with panelAttn := { Attn.reset with latches := 0x40 } }
    (∃ t, exec (.readAttn .desk 0) s = .next t) ∧
    (∀ b, Instr.readAttn .desk 0 ≠ .setAttn .panel b) ∧ (∀ b, Instr.readAttn .desk 0 ≠ .readAttn .panel b) ∧
    (∀ m b, Instr.readAttn .desk 0 ≠ .machineReset m b) ∧
    (∀ lk b, Instr.readAttn .desk 0 ≠ .setModes lk b) ∧ (s.attn .panel).latches.getLsbD 6 = true :=
  ⟨⟨_, rfl⟩, by simp, by simp, by simp, by simp, by decide⟩

theorem witness_FixedJobFieldsAndEndedLegsStay :
    let s := withJob (jobIn .done [legIn .confirmed])
    (∃ t, exec (.coverOpen 0) s = .next t) ∧ (∀ lk b, Instr.coverOpen 0 ≠ .clearJob lk b) ∧
    (∀ lk b, Instr.coverOpen 0 ≠ .machineReset lk b) ∧
    s.job? 0 = some (jobIn .done [legIn .confirmed]) ∧ s.leg? 0 0 = some (legIn .confirmed) ∧
    (legIn .confirmed).state.terminal = true :=
  ⟨⟨_, rfl⟩, by simp, by simp, by decide, by decide, rfl⟩

/-! ### Witnesses: the invariants, each on a state that is not the reset state -/

theorem witness_StepsKeepAttnAndTheLineOutputs :
    let s := { callAt .answerback with
      deskAttn := { Attn.reset with latches := 3, globalMask := false, masks := 1, line := true } }
    AttnApplied s ∧ LineOutputs s ∧ ∃ t, step s = .next t :=
  ⟨⟨rfl, rfl⟩, ⟨rfl, rfl, rfl⟩, _, rfl⟩

theorem witness_StepsKeepDrumAndTimerRecords :
    let s := { drumAt .locked 5 with posTimer := (timerAt .timer (some 287)).posTimer }
    StartDuties s ∧ DrumRecord s ∧ TimerRecord s ∧ ∃ t, step s = .next t := by
  refine ⟨?_, ?_, ?_, _, rfl⟩
  · unfold StartDuties dutiesRight; decide
  · exact ⟨⟨rfl, by decide⟩, by decide, by decide, by decide, by decide⟩
  · unfold TimerRecord timerRight
    exact ⟨by decide, by decide, by decide, 256, rfl, rfl, rfl, by
      intro k hk
      have : k = 287 := by simpa [timerAt, drumAt, drumIs] using hk.symm
      exact Or.inr (by omega)⟩

theorem witness_StepsKeepTheStoreAndTheClockInRange :
    let s := { State.reset with
      settings := { Settings.default with drumIdle := 0, interdigit := 1500 }
      curve := Vector.replicate 17 255, clock := { day := 65535, second := 86399, cycles := 32767 } }
    (SettingsRight s ∧ CurveRises s ∧ ClockRange s) ∧ ∃ t, step s = .next t := by
  refine ⟨⟨?_, ?_, ?_⟩, _, rfl⟩
  · unfold SettingsRight rangesRight spacingRight within; decide
  · unfold CurveRises; decide
  · unfold ClockRange; decide

/-- One QUEUED job in entry 0 of the table. -/
def oneQueued : State :=
  { withJob (jobIn .queued [legIn .pending]) with mountQueue := { entries := [0], hold := none } }

/-- The other entries are FREE. -/
theorem withJob_other (x : Job) (j : Nat) : (withJob x).job? (j + 1) = none := by
  simp only [withJob, State.job?, State.setJob, State.setJobs]
  by_cases h : j + 1 < 16
  · rw [Vector.getElem?_setIfInBounds_ne (by omega)]
    simp [State.reset, h]
  · simp [h]

theorem witness_StepsKeepMountQueueOrdered : MountQueueRight oneQueued ∧ ∃ t, step oneQueued = .next t := by
  refine ⟨⟨by decide, ?_, List.pairwise_singleton _ _⟩, _, rfl⟩
  intro j
  cases j with
  | zero => exact ⟨fun _ => ⟨_, rfl, rfl⟩, fun _ => by decide⟩
  | succ j =>
    have h : oneQueued.job? (j + 1) = none := withJob_other _ j
    constructor
    · intro hm; simp [oneQueued] at hm
    · rintro ⟨x, hx, -⟩; simp [h] at hx

theorem witness_StepsKeepOneMountedOneActive :
    OneMountedOneActive (callAt .picture) ∧ ∃ t, step (callAt .picture) = .next t := by
  have other : ∀ j, (callAt .picture).job? (j + 1) = none := fun j => withJob_other _ j
  have leg0 : ∀ j l, legIsActive (callAt .picture) j l → j = 0 ∧ l = 0 := by
    rintro j l ⟨g, hg, -⟩
    cases j with
    | zero =>
      cases l with
      | zero => exact ⟨rfl, rfl⟩
      | succ l =>
        have : (callAt .picture).leg? 0 (l + 1) = none := rfl
        simp [this] at hg
    | succ j => simp [State.leg?, other j] at hg
  refine ⟨⟨?_, ?_, ?_⟩, _, rfl⟩
  · intro i j x y hx hy _ _
    cases i with
    | zero =>
      cases j with
      | zero => rfl
      | succ j => simp [other j] at hy
    | succ i => simp [other i] at hx
  · intro j l h
    obtain ⟨rfl, rfl⟩ := leg0 j l h
    exact ⟨_, rfl, rfl⟩
  · intro i l j m h h'
    obtain ⟨rfl, rfl⟩ := leg0 i l h
    obtain ⟨rfl, rfl⟩ := leg0 j m h'
    exact ⟨rfl, rfl⟩

theorem witness_StepsKeepSlipQueueAndOwedList :
    let s := { withJob (jobIn .done [{ legIn .confirmed with slipOwed := true }]) with
      slips := { SlipUnit.reset with
        queue := (List.range 8).map fun n => slipN (n + 1) false false
        owed := [(0, 0)], nextNumber := 9999 } }
    SlipQueueRight s ∧ ∃ t, step s = .next t := by
  refine ⟨⟨by decide, by decide, by decide, ?_, by unfold within; decide⟩, _, rfl⟩
  intro j l h
  simp at h
  obtain ⟨rfl, rfl⟩ := h
  exact ⟨_, rfl, rfl, rfl⟩

theorem witness_StepsKeepLinkRecords :
    let s := asking codeSetAttn .desk [1, 2, 0] (State.reset.setLink .panel { LinkRec.reset with
      replyState := .sending
      reply := some { reply := { result := .ok, data := .bytes [7, 8] }, sent := 3 } })
    LinkRecords s ∧ ∃ t, step s = .next t := by
  refine ⟨⟨⟨?_, rfl⟩, ?_, Or.inr ⟨rfl, by decide, by decide⟩⟩, _, rfl⟩
  · intro r hr
    have : r = { cmd := 0x49, len := some 3, args := [1, 2] } := by
      simpa [asking, State.setLink, State.setDeskLink, codeSetAttn] using hr.symm
    subst this
    exact ⟨rfl, by decide, by decide⟩
  · intro r hr
    have : (none : Option ReqBuf) = some r := hr
    simp at this

/-! ### Witnesses: the links -/

theorem witness_LinkChecksRefuseInOrder :
    (Instr.drumRun .desk 60).request? = some (codeDrumRun, .desk, 60) ∧
    (Arrives codeDrumRun .panel 0 [] (asking codeDrumRun .panel [] State.reset) ∧
      ¬ Admitted codeDrumRun .panel 0 State.reset) ∧
    (Arrives codeDrumRun .desk 60 [60] (asking codeDrumRun .desk [60] State.reset) ∧
      ¬ Admitted codeDrumRun .desk 1 State.reset) ∧
    let s := { State.reset with modes := { localMode := true, attended := false, legEnd := false } }
    Arrives codeSetClock .desk 0 [0, 1, 0, 0, 0] (asking codeSetClock .desk [0, 1, 0, 0, 0] s) ∧
      ¬ Admitted codeSetClock .desk 5 (asking codeSetClock .desk [0, 1, 0, 0, 0] s) :=
  ⟨rfl, ⟨arrives_asking _ _ [] _ (by decide), by unfold Admitted; decide⟩,
   ⟨arrives_asking _ _ [60] _ (by decide), by unfold Admitted; decide⟩,
   arrives_asking _ _ [0, 1, 0, 0, 0] _ (by decide), by unfold Admitted; decide⟩

theorem witness_UnknownAndOverlongRequestsAreRefused :
    let r : ReqBuf := { cmd := 0x60, len := none, args := [] }
    let s := State.reset.setLink .desk { LinkRec.reset with select := .request, request := some r }
    (s.link .desk).select = .request ∧ (s.link .desk).request = some r ∧ 64 < (65 : Byte).toNat ∧
    codeTable.all (fun c => decide (c.byte ≠ r.cmd)) = true ∧
    let q : ReqBuf := { cmd := 0x60, len := some 1, args := [] }
    q.len = some 1 ∧ (1 : Byte).toNat ≤ 64 ∧ q.args.length + 1 = (1 : Byte).toNat := by decide

/-- A link that waits, that receives, that reads an empty, a working and a held reply of two bytes. -/
theorem witness_ASelectMovesItsBytesOneByOne :
    LinkRec.reset.select = .none ∧
    (∃ r : ReqBuf, r.len = none ∧ (64 : Byte) ≠ 0 ∧ (64 : Byte).toNat ≤ 64) ∧
    (∃ (r : ReqBuf) (n : Byte), r.len = some n ∧ r.args.length + 1 < n.toNat) ∧
    (∃ l : LinkRec, l.select = .read ∧ l.replyState = .empty) ∧
    (∃ l : LinkRec, l.select = .request ∧ l.request = none ∧ l.replyState = .working) ∧
    (∃ (l : LinkRec) (p : RepBuf), l.select = .read ∧ l.replyState = .ready ∧ l.reply = some p ∧
      p.reply.frame[p.sent]? = some 0 ∧ p.sent + 1 < p.reply.frame.length) ∧
    ∃ (l : LinkRec) (p : RepBuf), l.select ≠ .none ∧ l.replyState = .sending ∧ l.reply = some p ∧
      p.sent + 1 = p.reply.frame.length :=
  ⟨rfl, ⟨⟨0, none, []⟩, rfl, by decide, by decide⟩, ⟨⟨0, some 3, [1]⟩, 3, rfl, by decide⟩,
   ⟨{ LinkRec.reset with select := .read }, rfl, rfl⟩,
   ⟨{ LinkRec.reset with select := .request, replyState := .working }, rfl, rfl, rfl⟩,
   ⟨{ LinkRec.reset with
      select := .read, replyState := .ready, reply := some ⟨⟨.ok, .empty⟩, 0⟩ }, _, rfl, rfl, rfl, rfl,
      by decide⟩,
   ⟨{ LinkRec.reset with
      select := .read, replyState := .sending, reply := some ⟨⟨.ok, .empty⟩, 1⟩ }, _, by decide, rfl, rfl,
      rfl⟩⟩

/-- A cause the links enable after reset, and one a link does not. -/
theorem witness_CauseEventsLatchEnabledCauses :
    State.reset.panelAttn.enables &&& Cause.fault.bit ≠ 0 ∧
    ({ Attn.reset with enables := 0x3F } : Attn).enables &&& Cause.fault.bit = 0 := by decide

theorem witness_AttentionReadAndWritten :
    Taken codeReadAttn .panel 0 [] (asking codeReadAttn .panel [] State.reset) ∧
    Taken codeSetAttn .desk 1 [127, 127, 1] (asking codeSetAttn .desk [127, 127, 1] State.reset) ∧
    Taken codeSetModes .panel 2 [1, 2] (asking codeSetModes .panel [1, 2] State.reset) :=
  ⟨taken_asking _ _ [] _ (by decide) (by decide), taken_asking _ _ [127, 127, 1] _ (by decide) (by decide),
   taken_asking _ _ [1, 2] _ (by decide) (by decide)⟩

/-! ### Witnesses: jobs -/

/-- A route that passes, one that does not for its mode, and a stored route; a directory index at its end, an
explicit route, and bytes that are none. -/
theorem witness_RouteCheckPassesExactlyTheDialableRoutes :
    dialCheck 0 10 [49] = some dial1 ∧ dialBytes dial1 = 0 :: 10 :: [49] ∧ dialRight dial1 ∧
    dialCheck 1 10 [42] = none ∧
    storedRoute { index := 23, mode := 0, rate := 10, syms := [49], label := [126], code := [57] } =
      some { label := [126], dial := dial1, code := some [9] } ∧
    parseRoute [0, 23] = .ok (.directory 23) ∧ parseRoute [1, 0, 10, 49] = .ok (.explicit dial1) ∧
    parseRoute [1, 1, 10, 42] = .error .routeBad ∧
    ∀ bs ∈ ([[], [2], [0], [0, 24], [0, 23, 0], [1], [1, 0]] : List (List Byte)),
      parseRoute bs = .error .badArgument := by
  refine ⟨by decide, by decide, ?_, by decide, by decide, by decide, by decide, by decide, by decide⟩
  unfold dialRight
  decide

theorem witness_RequestsNamingAJobAreCheckedInOrder :
    Taken codeMount .panel 16 [16] (asking codeMount .panel [16] State.reset) ∧
    (Taken codeMount .panel 15 [15] (asking codeMount .panel [15] State.reset) ∧
      (asking codeMount .panel [15] State.reset).job? 15 = none) ∧
    let x := jobIn .loading []
    let s := asking codeAddLeg .desk [0, 0, 5] (withJob x)
    Taken codeAddLeg .desk 5 [0, 0, 5] s ∧ s.job? 0 = some x ∧ x.owner ≠ .desk :=
  ⟨taken_asking _ _ [16] _ (by decide) (by decide),
   ⟨taken_asking _ _ [15] _ (by decide) (by decide), by decide⟩,
   taken_asking _ _ [0, 0, 5] _ (by decide) (by decide), by decide, by decide⟩

/-- Every entry taken. -/
def fullTable : State := { State.reset with jobs := Vector.replicate 16 (some (jobIn .loading [])) }

/-- S 2048 and T 4000 with a free table and a full one, and S 2049. -/
theorem witness_OpenJobFillsTheLowestFreeEntry :
    let good : List Byte := [3, 120, 8, 0, 15, 160, 7]
    Taken codeOpenJob .desk 7 good (asking codeOpenJob .desk good State.reset) ∧
    (256 ≤ 256 * (8 : Byte).toNat + (0 : Byte).toNat ∧ 256 * (8 : Byte).toNat + (0 : Byte).toNat ≤ 2048 ∧
      64 ∣ 256 * (8 : Byte).toNat + (0 : Byte).toNat ∧
      256 * (15 : Byte).toNat + (160 : Byte).toNat ≤ 4000) ∧
    (asking codeOpenJob .desk good State.reset).job? 0 = none ∧
    Taken codeOpenJob .desk 7 good (asking codeOpenJob .desk good fullTable) ∧
    (∀ i, i < 16 → (asking codeOpenJob .desk good fullTable).job? i ≠ none) ∧
    let bad : List Byte := [3, 120, 8, 1, 15, 160, 7]
    Taken codeOpenJob .desk 7 bad (asking codeOpenJob .desk bad State.reset) ∧
      ¬ 64 ∣ 256 * (8 : Byte).toNat + (1 : Byte).toNat :=
  ⟨taken_asking _ _ [3, 120, 8, 0, 15, 160, 7] _ (by decide) (by decide), by decide, by decide,
   taken_asking _ _ [3, 120, 8, 0, 15, 160, 7] _ (by decide) (by decide), by decide,
   taken_asking _ _ [3, 120, 8, 1, 15, 160, 7] _ (by decide) (by decide), by decide⟩

/-- Room for a fourth leg, no room for a fifth, a job past LOADING, and a route that fails. -/
theorem witness_AddLegAppendsAPendingLeg :
    let at4 (n : Nat) (st : JobState) := jobIn st (List.replicate n (legIn .pending))
    (∀ n : Fin 5, ∀ st ∈ [JobState.loading, .queued],
      (asking codeAddLeg .panel [0, 0, 23] (withJob (at4 n st))).job? 0 = some (at4 n st)) ∧
    (∀ x, Taken codeAddLeg .panel 23 [0, 0, 23] (asking codeAddLeg .panel [0, 0, 23] (withJob x))) ∧
    parseRoute [0, 23] = .ok (.directory 23) ∧ parseRoute [0, 24] = .error .badArgument :=
  ⟨by decide, fun x => taken_asking _ _ [0, 0, 23] _ (by decide) (by
    exact ⟨by decide, by decide, by decide, by simp⟩), rfl, rfl⟩

theorem witness_CommitJobQueuesByPriorityAndNumber :
    let x := jobIn .loading [legIn .pending]
    let s := asking codeCommitJob .panel [0] (withJob x)
    Taken codeCommitJob .panel 0 [0] s ∧ s.job? 0 = some x ∧ x.owner = .panel ∧ x.state = .loading ∧
      x.legs ≠ [] ∧ 0 ∉ s.mountQueue.entries ∧
    (asking codeCommitJob .panel [0] (withJob (jobIn .loading []))).job? 0 = some (jobIn .loading []) ∧
    (asking codeCommitJob .panel [0] (withJob (jobIn .done []))).job? 0 = some (jobIn .done []) :=
  ⟨taken_asking _ _ [0] _ (by decide) (by decide), by decide, rfl, rfl, by decide, by decide, by decide,
   by decide⟩

/-- A job that may be cancelled, one that may not, one whose cancel is pending, one with its leg ACTIVE. -/
theorem witness_CancelJobEndsTheJobOrAsksForAnAbort :
    (∀ x : Job, Taken codeCancelJob .panel 0 [0] (asking codeCancelJob .panel [0] (withJob x))) ∧
    (∀ x ∈ [jobIn .queued [legIn .pending], jobIn .done [legIn .confirmed],
        { jobIn .mounted [legIn .active] with cancelPending := true }, jobIn .mounted [legIn .active]],
      (asking codeCancelJob .panel [0] (withJob x)).job? 0 = some x) ∧
    endedJob .done ∧ (¬ endedJob .mounted) ∧ (jobIn .mounted [legIn .active]).cancelPending = false ∧
    (∃ g ∈ (jobIn .mounted [legIn .active]).legs, g.state = .active) ∧
    cancelledSlips 0 (jobIn .queued [legIn .pending]) ≠ [] ∧ cancelledSlips 0 (jobIn .mounted [legIn .active]) = [] ∧
    ∀ g ∈ (jobIn .queued [legIn .pending]).legs, g.state ≠ .active := by
  refine ⟨fun x => taken_asking _ _ [0] _ (by decide) ⟨by decide, by decide, by decide, by simp⟩, by decide,
    Or.inl rfl, by simp [endedJob], rfl, by decide, by decide, by decide, by decide⟩

theorem witness_ClearJobAndSetPriorityChangeOneEntry :
    (∀ x ∈ [jobIn .done [legIn .confirmed], jobIn .done [{ legIn .confirmed with slipOwed := true }],
        jobIn .mounted []], (asking codeClearJob .panel [0] (withJob x)).job? 0 = some x) ∧
    Taken codeClearJob .panel 0 [0] (asking codeClearJob .panel [0] (withJob (jobIn .done []))) ∧
    (∀ p ∈ [(3 : Byte), 4], Taken codeSetPriority .panel p [0, p] (asking codeSetPriority .panel [0, p] oneQueued)) ∧
    (asking codeSetPriority .panel [0, 3] oneQueued).mountQueue.entries.Nodup := by
  refine ⟨by decide, taken_asking _ _ [0] _ (by decide) (by decide), ?_, by decide⟩
  intro p _
  exact taken_asking _ _ [0, p] _ (by simp) ⟨by simp [codeSetPriority], by simp [codeSetPriority], rfl, by simp⟩

/-- A drum STOPPED with its cover closed and one QUEUED job, and a drum that turns; a job that is MOUNTED, with
and without an ACTIVE leg, and one that is not. -/
theorem witness_MountAndUnmountMoveAJobOutOfAndIntoTheQueue :
    Taken codeMount .panel 0 [0] (asking codeMount .panel [0] oneQueued) ∧
    (asking codeMount .panel [0] oneQueued).job? 0 = some (jobIn .queued [legIn .pending]) ∧
    (asking codeMount .panel [0] oneQueued).drum.state = .stopped ∧
    (asking codeMount .panel [0] oneQueued).mounted? = none ∧
    (drumAt .locked 0).drum.state ≠ .stopped ∧
    (∀ x : Job, Taken codeUnmount .panel 0 [0] (asking codeUnmount .panel [0] (withJob x))) ∧
    (∀ x ∈ [jobIn .mounted [legIn .active], jobIn .mounted [legIn .retryWait], jobIn .queued []],
      (asking codeUnmount .panel [0] (withJob x)).job? 0 = some x) ∧
    0 ∉ (asking codeUnmount .panel [0] (withJob (jobIn .mounted [legIn .retryWait]))).mountQueue.entries := by
  refine ⟨taken_asking _ _ [0] _ (by decide) (by decide), by decide, by decide, by decide, by decide,
    fun x => taken_asking _ _ [0] _ (by decide) ⟨by decide, by decide, by decide, by simp⟩, by decide, by decide⟩

theorem witness_SkipLegAndTheQueueHold :
    (∀ x : Job, Taken codeSkipLeg .panel 0 [0, 0] (asking codeSkipLeg .panel [0, 0] (withJob x))) ∧
    (∀ x ∈ [jobIn .queued [legIn .pending], jobIn .mounted [legIn .active], jobIn .mounted [legIn .failed],
        jobIn .loading [legIn .pending], jobIn .queued []],
      (asking codeSkipLeg .panel [0, 0] (withJob x)).job? 0 = some x) ∧
    Taken codeHoldQueue .panel 0 [] (asking codeHoldQueue .panel [] State.reset) ∧
    Taken codeReleaseQueue .panel 0 [] (asking codeReleaseQueue .panel [] State.reset) :=
  ⟨fun x => taken_asking _ _ [0, 0] _ (by decide) ⟨by decide, by decide, by decide, by simp⟩, by decide,
   taken_asking _ _ [] _ (by decide) (by decide), taken_asking _ _ [] _ (by decide) (by decide)⟩

/-- An attempted leg that ends with room for its slip; a job whose legs have ended, and one with a leg that
waits. -/
theorem witness_LegsAndJobsEndAsTheyStand :
    let x := jobIn .mounted [legIn .active]
    (withJob x).job? 0 = some x ∧ x.legs[0]? = some (legIn .active) ∧ 1 ≤ (legIn .active).attempts ∧
    (withJob x).slips.queue.length < 8 ∧
    let y := jobIn .queued [legIn .confirmed, legIn .failed]
    (withJob y).job? 0 = some y ∧ (∀ g ∈ y.legs, g.state.terminal = true) ∧ jobEndsAs y .partly ∧
    (∃ g ∈ x.legs, g.state.terminal = false) ∧
    ((callAt .picture).line.active = some (0, 0) ∧ (callAt .picture).job? 0 = some x ∧
      (legIn .active).state = .active ∧ State.reset.line.active = none) := by
  refine ⟨by decide, rfl, by decide, by decide, by decide, by decide, ?_, by decide, by decide⟩
  unfold jobEndsAs
  decide

/-! ### Witnesses: reads, routes, slips, settings, clock -/

theorem witness_ReadingRequestsAnswerTheStateAndChangeNothing :
    Arrives codeReadQueue .desk 0 [] (asking codeReadQueue .desk [] State.reset) ∧
    (∀ i ∈ [(23 : Byte), 24], Arrives codeReadRoute .desk i [i] (asking codeReadRoute .desk [i] State.reset)) ∧
    Arrives codeReadSlipState .panel 0 [] (asking codeReadSlipState .panel [] State.reset) ∧
    (∀ n ∈ [(0 : Byte), 1, 29, 30],
      Arrives codeReadSetting .desk n [n] (asking codeReadSetting .desk [n] State.reset)) ∧
    Arrives codeIdentify .panel 0 [] (asking codeIdentify .panel [] State.reset) :=
  ⟨arrives_asking _ _ [] _ (by decide), fun i _ => arrives_asking _ _ [i] _ (by simp),
   arrives_asking _ _ [] _ (by decide), fun n _ => arrives_asking _ _ [n] _ (by simp),
   arrives_asking _ _ [] _ (by decide)⟩

theorem witness_RecordsAreReadAsTheyStand :
    (∀ j ∈ [(0 : Byte), 15, 16], Arrives codeReadJob .desk j [j] (asking codeReadJob .desk [j] oneQueued)) ∧
    (asking codeReadJob .desk [0] oneQueued).job? 0 = some (jobIn .queued [legIn .pending]) ∧
    (asking codeReadJob .desk [15] oneQueued).job? 15 = none ∧
    Arrives codeReadLeg .desk 0 [0, 0] (asking codeReadLeg .desk [0, 0] oneQueued) ∧
    Arrives codeReadCurve .desk 0 [] (asking codeReadCurve .desk [] State.reset) ∧
    Arrives codeReadClock .desk 0 [] (asking codeReadClock .desk [] State.reset) ∧
    Arrives codeReadDrum .desk 0 [] (asking codeReadDrum .desk [] State.reset) ∧
    Arrives codeReadLine .desk 0 [] (asking codeReadLine .desk [] State.reset) :=
  ⟨fun j _ => arrives_asking _ _ [j] _ (by simp), by decide, by decide,
   arrives_asking _ _ [0, 0] _ (by decide), arrives_asking _ _ [] _ (by decide),
   arrives_asking _ _ [] _ (by decide), arrives_asking _ _ [] _ (by decide),
   arrives_asking _ _ [] _ (by decide)⟩

/-- A frame of a route, with index 23 or 24, that passes the check; one that fails it; one whose lengths do
not add up; and ERASE_ROUTE. -/
theorem witness_RoutesAreReplacedWholeAndErased :
    let f (i sym : Byte) : RouteFrame :=
      { index := i, mode := 1, rate := 10, syms := [sym], label := [65], code := [] }
    let bytes (i sym : Byte) : List Byte := [i, 1, 10, 1, sym, 1, 65, 0]
    (∀ i ∈ [(23 : Byte), 24], ∀ sym ∈ [(49 : Byte), 42],
      bytes i sym = [(f i sym).index, (f i sym).mode, (f i sym).rate, BitVec.ofNat 8 (f i sym).syms.length] ++
        (f i sym).syms ++ [BitVec.ofNat 8 (f i sym).label.length] ++ (f i sym).label ++
        [BitVec.ofNat 8 (f i sym).code.length] ++ (f i sym).code) ∧
    (storedRoute (f 23 49)).isSome = true ∧ storedRoute (f 23 42) = none ∧
    (∀ i sym, Taken codeWriteRoute .desk 0 (bytes i sym) (asking codeWriteRoute .desk (bytes i sym) State.reset)) ∧
    Taken codeWriteRoute .desk 9 [0, 0, 10, 9, 9, 9, 9]
      (asking codeWriteRoute .desk [0, 0, 10, 9, 9, 9, 9] State.reset) ∧
    ∀ i ∈ [(23 : Byte), 24], Taken codeEraseRoute .desk i [i] (asking codeEraseRoute .desk [i] State.reset) :=
  ⟨by decide, by decide, by decide,
   fun i sym => taken_asking _ _ [i, 1, 10, 1, sym, 1, 65, 0] _ (by simp)
    ⟨by simp [codeWriteRoute], by simp [codeWriteRoute], by decide, by simp [State.reset]⟩,
   taken_asking _ _ [0, 0, 10, 9, 9, 9, 9] _ (by decide) (by decide),
   fun i _ => taken_asking _ _ [i] _ (by simp)
    ⟨by simp [codeEraseRoute], by simp [codeEraseRoute], by decide, by simp [State.reset]⟩⟩

theorem witness_SlipRequestsCollectReprintAndRemove :
    let s := withSlips [slipN 1 false true, slipN 2 true false]
    Taken codeCollectSlip .desk 0 [] (asking codeCollectSlip .desk [] s) ∧
    (asking codeCollectSlip .desk [] s).slips.queue = [slipN 1 false true] ++ slipN 2 true false :: [] ∧
    (∀ o ∈ [slipN 1 false true], o.collected = true) ∧ (slipN 2 true false).collected = false ∧
    (s.slips.queue.map fun (o : SlipRec) => o.number).Nodup ∧
    Taken codeReprintSlip .panel 0 [] (asking codeReprintSlip .panel [] s) ∧
    (∀ v ∈ [(0 : Byte), 1, 2], Taken codeSetCollection .panel v [v] (asking codeSetCollection .panel [v] s)) ∧
    (asking codeSetCollection .panel [0] s).slips.collection = true ∧
    (asking codeSetCollection .panel [0] s).slips.owed = [] :=
  ⟨taken_asking _ _ [] _ (by decide) (by decide), by decide, by decide, rfl, by decide,
   taken_asking _ _ [] _ (by decide) (by decide),
   fun v _ => taken_asking _ _ [v] _ (by simp)
    ⟨by simp [codeSetCollection], by simp [codeSetCollection], by decide, by simp⟩, by decide, by decide⟩

/-- A full queue, two of its records printed, with one slip owed. -/
def owing : State := { withJob (jobIn .done [{ legIn .confirmed with slipOwed := true }]) with
  slips := { SlipUnit.reset with
    queue := (List.range 8).map fun n => slipN (n + 1) (decide (n < 2)) false
    owed := [(0, 0)], nextNumber := 9999 } }

/-- SET_COLLECTION OFF with that slip owed. -/
theorem witness_SlipRequestsWithASlipOwed :
    Taken codeSetCollection .panel 0 [0] (asking codeSetCollection .panel [0] owing) ∧
    SlipQueueRight (asking codeSetCollection .panel [0] owing) ∧
    (asking codeSetCollection .panel [0] owing).slips.collection = true ∧
    ((asking codeSetCollection .panel [0] owing).slips.queue.map fun (o : SlipRec) => o.number).Nodup ∧
    (asking codeSetCollection .panel [0] owing).slips.owed.take 2 = [(0, 0)] := by
  refine ⟨taken_asking _ _ [0] _ (by decide) (by decide), ⟨by decide, fun _ => by decide, by decide, ?_,
    show 1 ≤ 9999 ∧ 9999 ≤ 9999 by decide⟩,
    by decide, by decide, by decide⟩
  intro j l h
  have : (j, l) ∈ [((0 : Nat), (0 : Nat))] := h
  simp only [List.mem_singleton, Prod.mk.injEq] at this
  obtain ⟨rfl, rfl⟩ := this
  exact ⟨_, rfl, rfl, rfl⟩

/-- WRITE_SETTING of numbers 0, 1, 2, 15, 24 and 30 at the ends of their ranges. -/
theorem witness_SettingsAreBroughtIntoRangeAndStored :
    (∀ n hi lo : Byte, Taken codeWriteSetting .panel lo [n, hi, lo]
      (asking codeWriteSetting .panel [n, hi, lo] State.reset)) ∧
    (settingKind? 2 = some (.number 1000 2000 1) ∧ settingKind? 25 = some (.number 100 1500 100) ∧
      settingKind? 28 = some (.number 1 10 1)) ∧
    Taken codeWriteSetting .panel 57 [1, 49, 57] (asking codeWriteSetting .panel [1, 49, 57] State.reset) ∧
    digitsText [1, 9] = [49, 57] ∧ State.reset.legActive = false ∧ (callAt .picture).legActive = true ∧
    (lineAt .talk).line.state = .talk ∧
    ((Settings.default.store 2000 2).blackHz + 300 ≤ (Settings.default.store 2000 2).whiteHz) ∧
    ¬ ((Settings.default.store 1800 3).blackHz + 301 ≤ (Settings.default.store 1800 3).whiteHz) :=
  ⟨fun n hi lo => taken_asking _ _ [n, hi, lo] _ (by simp)
    ⟨by simp [codeWriteSetting], by simp [codeWriteSetting], by decide, by simp⟩, by decide,
   taken_asking _ _ [1, 49, 57] _ (by decide) (by decide), by decide, by decide, by decide, rfl, by decide,
   by decide⟩

theorem witness_CurveAndClockAreSetAndSecondsPass :
    (∀ bs ∈ [List.replicate 17 (255 : Byte), List.replicate 16 1 ++ [0]],
      bs.length = 17) ∧
    Taken codeWriteCurve .panel 255 (List.replicate 17 255)
      (asking codeWriteCurve .panel (List.replicate 17 255) State.reset) ∧
    ((List.replicate 17 (255 : Byte)).map BitVec.toNat).Pairwise (· ≤ ·) ∧
    ¬ ((List.replicate 16 (1 : Byte) ++ [0]).map BitVec.toNat).Pairwise (· ≤ ·) ∧
    (∀ lo ∈ [(127 : Byte), 128], Taken codeSetClock .panel lo [255, 255, 1, 81, lo]
      (asking codeSetClock .panel [255, 255, 1, 81, lo] State.reset)) :=
  ⟨by decide, taken_asking _ _ (List.replicate 17 255) _ (by decide) (by decide), by decide, by decide,
   fun lo _ => taken_asking _ _ [255, 255, 1, 81, lo] _ (by simp)
    ⟨by simp [codeSetClock], by simp [codeSetClock], by decide, by simp⟩⟩

/-! ### Witnesses: the line -/

/-- A route refused, an EMPTY directory entry, a SET one and an explicit one, and the line states of each
clause. -/
theorem witness_TalkIsGrantedHeldOrRefusedByTheLineState :
    (∀ args ∈ [[], [1, 0, 10], [0, 23], [1, 0, 10, 49]], ∀ st ∈ [LineState.idle, .guard, .stop, .answerback, .picture],
      (asking codeTalk .panel args (lineAt st)).line.state = st ∧
      (asking codeTalk .panel args (lineAt st)).line.pendingTalk = none ∧
      (asking codeTalk .panel args (lineAt st)).line.talkAfter = false) ∧
    (Taken codeTalk .panel 0 [] (asking codeTalk .panel [] (lineAt .idle)) ∧
      talkCopies (lineAt .idle) [] none) ∧
    (Taken codeTalk .panel 10 [1, 0, 10] (asking codeTalk .panel [1, 0, 10] (lineAt .idle)) ∧
      parseRoute [1, 0, 10] = .error .routeBad) ∧
    (parseRoute [0, 23] = .ok (.directory 23) ∧ (lineAt .idle).routes[23]? = some none) ∧
    talkCopies (lineAt .idle) [1, 0, 10, 49] (some { source := .explicit, dial := dial1, code := none }) := by
  refine ⟨by decide, ⟨taken_asking _ _ [] _ (by decide) (by decide), Or.inl ⟨rfl, rfl⟩⟩,
    ⟨taken_asking _ _ [1, 0, 10] _ (by decide) (by decide), rfl⟩, ⟨rfl, by decide⟩,
    Or.inr (Or.inr ⟨dial1, rfl, rfl⟩)⟩

theorem witness_EndTalkReleasesWithdrawsOrIsRefused :
    (∀ st, Taken codeEndTalk .panel 0 [] (asking codeEndTalk .panel [] (lineAt st))) ∧
    (∀ st ∈ [LineState.talk, .seize, .dial, .guard, .stop, .answerback, .idle],
      (asking codeEndTalk .panel [] (lineAt st)).line.state = st ∧
      (asking codeEndTalk .panel [] (lineAt st)).line.kind ≠ some .talk) ∧
    (asking codeEndTalk .panel [] { lineAt .seize with
      line := { (lineAt .seize).line with kind := some .talk } }).line.kind = some .talk ∧
    (asking codeEndTalk .panel [] { lineAt .guard with
      line := { (lineAt .guard).line with pendingTalk := some { route := none } } }).line.pendingTalk ≠ none ∧
    (asking codeEndTalk .panel [] { lineAt .stop with
      line := { (lineAt .stop).line with talkAfter := true } }).line.talkAfter = true := by
  refine ⟨fun st => taken_asking _ _ [] _ (by decide) ⟨by decide, by decide, by decide, by simp⟩, by decide,
    by decide, by decide, by decide⟩

/-- One MOUNTED job whose only leg waits, with a route. -/
def mountedWith (r : Route) : State := withJob (jobIn .mounted [{ legIn .pending with route := r }])

/-- Its leg is the next to start. -/
theorem legIsNext_mountedWith (r : Route) :
    legIsNext (mountedWith r) 0 0 (jobIn .mounted [{ legIn .pending with route := r }])
      { legIn .pending with route := r } := by
  refine ⟨rfl, rfl, rfl, fun h => absurd h.1 (show ¬ false = true by decide), ?_, rfl, rfl, Or.inl rfl,
    by omega, rfl, ?_⟩
  · cases r <;> rfl
  · intro h hm
    have : h = { legIn .pending with route := r } := by simpa [jobIn] using hm
    subst this
    simp [legIn]

theorem witness_ArbiterGrantsTheLineInOrder :
    (lineAt .talk).line.state ≠ .idle ∧
    ({ LineRec.reset with pendingTalk := some { route := none } } : LineRec).pendingTalk =
      some { route := none } ∧
    State.reset.mounted? = none ∧
    legIsNext (mountedWith (.explicit dial1)) 0 0
      (jobIn .mounted [{ legIn .pending with route := .explicit dial1 }])
      { legIn .pending with route := .explicit dial1 } ∧
    (mountedWith (.explicit dial1)).drum.state = .stopped ∧
    (mountedWith (.explicit dial1)).drum.coverOpen = false :=
  ⟨by decide, rfl, by decide, legIsNext_mountedWith _, rfl, rfl⟩

/-- The same leg is next over any drum; the drum in each state, its target the job's or another, its index
time at the timeout and past it, and its cover open. -/
theorem witness_ArbiterGrantsTheLine_drums :
    (∀ d : Drum, legIsNext { mountedWith (.explicit dial1) with drum := d } 0 0
      (jobIn .mounted [{ legIn .pending with route := .explicit dial1 }])
      { legIn .pending with route := .explicit dial1 }) ∧
    (∀ st ∈ [DrumState.spinup, .locking, .locked, .slip, .fault], ∀ us ∈ [2000000, 2000001],
      (drumAt st us).drum.state = st ∧ (drumAt st us).drum.target = some .rpm60 ∧
      { (drumAt st us).drum with target := some .rpm120 }.target ≠ some Rpm.rpm60) ∧
    2 * pNom .rpm60 = 2000000 ∧
    ({ Drum.reset with coverOpen := true }.state = .stopped ∧ { Drum.reset with coverOpen := true }.coverOpen = true) :=
  ⟨fun _ => legIsNext_mountedWith _, by decide, by decide, by decide⟩

theorem witness_ALegWithNoRouteFailsAndTheArbiterLooksAgain :
    let s := mountedWith (.directory 23)
    OneMountedOneActive s ∧
    legIsNext s 0 0 (jobIn .mounted [{ legIn .pending with route := .directory 23 }])
      { legIn .pending with route := .directory 23 } ∧
    (jobIn .mounted [{ legIn .pending with route := .directory 23 }]).legs.length ≤ 4 ∧
    s.routes[23]? = some none := by
  refine ⟨⟨?_, ?_, ?_⟩, legIsNext_mountedWith _, by decide, by decide⟩
  · intro i j x y hx hy _ _
    cases i with
    | zero =>
      cases j with
      | zero => rfl
      | succ j => simp [mountedWith, withJob_other] at hy
    | succ i => simp [mountedWith, withJob_other] at hx
  all_goals
    have none_active : ∀ j l, ¬ legIsActive (mountedWith (.directory 23)) j l := by
      rintro j l ⟨g, hg, ha⟩
      cases j with
      | zero =>
        cases l with
        | zero =>
          have : (mountedWith (.directory 23)).leg? 0 0 =
            some { legIn .pending with route := .directory 23 } := rfl
          rw [this] at hg
          cases hg
          simp [legIn] at ha
        | succ l =>
          have : (mountedWith (.directory 23)).leg? 0 (l + 1) = none := rfl
          simp [this] at hg
      | succ j => simp [State.leg?, mountedWith, withJob_other] at hg
  · exact fun j l h => absurd h (none_active j l)
  · exact fun i l j m h => absurd h (none_active i l)

theorem witness_CallEndsByItsResult :
    let s := callAt .picture
    s.line.active = some (0, 0) ∧ s.job? 0 = some (jobIn .mounted [legIn .active]) ∧
    (jobIn .mounted [legIn .active]).legs[0]? = some (legIn .active) ∧ (legIn .active).state = .active := by
  decide

theorem witness_CallEventsUpToTheTransmission :
    (∀ l ∈ [Limit.seizeWindow, .answerTimeout, .prepareLimit, .guardTime],
      (elapse 0 (runOut l (callAt .seize))).line.timer = some { limit := l, left := 0 }) ∧
    (let t := elapse 0 { callAt .awaitReady with aux := { Aux.reset with readyHz := 1100, detTime := 2000000 } }
     t.line.detector = .ready ∧ 1125 ≤ t.aux.readyHz + 25 ∧ t.aux.readyHz ≤ 1125 + 25 ∧
       2000000 ≤ t.aux.detTime) ∧
    (elapse 0 State.reset).line.detector ≠ .ready ∧
    (∀ st ∈ [LineState.seize, .dial, .awaitReady, .prepareWait],
      (callAt st).line.kind = some .leg ∧ (callAt st).line.state = st) ∧
    (lineAt .talk).line.kind ≠ some .leg ∧ (callAt .picture).leg? 0 0 = some (legIn .active) ∧
    ∀ l, ¬ limitRunsOut l (elapse 0 State.reset) := by
  refine ⟨by decide, by decide, by decide, by decide, by decide, by decide, ?_⟩
  intro l h
  have : (elapse 0 State.reset).line.timer = none := rfl
  unfold limitRunsOut at h
  simp [this] at h

theorem witness_ClosingsAndAbortsByTheLineState :
    (callAt .seize).line.state ∈ [LineState.seize, .dial, .awaitReady, .prepareWait] ∧
    ((callAt .bridge).line.state ∈ [LineState.mark, .phasing, .picture, .bridge] ∧
      (callAt .bridge).line.closing = none) ∧
    (callAt .stop).line.state ∈ [LineState.idle, .guard, .stop, .answerback, .talk] ∧
    (let s := scanIn { Scanner.reset with
      state := .capturing, filling := some { slot := 3, line := 7, written := 1 } }
     slotGivenUp { s with ring := s.ring.set 3 (.filling 7 [1]) } = s.ring) ∧
    slotHeld (.sending 0 [5]) = .full 0 [5] ∧ (callAt .mark).scan.filling = none ∧
    (modIn .picture (some 3) false (Vector.replicate 4 (.sending 0 [5]))).ring[3]? = some (.sending 0 [5]) := by
  decide

/-- Each limit run out, a closing of each kind, a pair, and a loop lost in each kind of state. -/
theorem witness_CallEventsFromTheTransmissionOn :
    (∀ l ∈ [Limit.bridgeLimit, .stopTime, .answerbackWindow, .answerbackDeadline],
      (elapse 0 (runOut l (callAt .stop))).line.timer = some { limit := l, left := 0 }) ∧
    (∀ c ∈ [Closing.abort, .bridgeLimit, .drumFault],
      (elapse 0 { callAt .mark with line := { (callAt .mark).line with closing := some c } }).line.closing =
        some c) ∧
    (elapse 0 (callAt .stop)).line.closing = none ∧ (elapse 0 (callAt .stop)).line.state = .stop ∧
    (rowTone .hash = 941 ∧ colTone .hash = 1477 ∧ (elapse 0 (callAt .answerback)).line.detector = .digits ∧
      40000 ≤ (elapse 640000 (callAt .answerback)).aux.detTime ∧
      (elapse 640000 (callAt .answerback)).aux.sinceSymbol = none) ∧
    (elapse 640000 { callAt .answerback with
      aux := { Aux.reset with sinceSymbol := some 40000 } }).aux.sinceSymbol = some 80000 ∧
    (elapse 0 { callAt .talk with line := { (callAt .talk).line with monitor := some 400000 } }).line.monitor =
      some 400000 ∧
    ([.digit 1, .star, .digit 0, .hash] : List KeySym) =
      ([1] : List (Fin 10)).map KeySym.digit ++ [.star, .digit 0, .hash] := by decide

/-- A pair that is no key's, a detector that is off, and a loop that no monitor watches. -/
theorem witness_CallEventsFromTheTransmissionOn_early :
    (∀ k, rowTone k ≠ 696 ∨ colTone k ≠ 1209) ∧ (elapse 0 State.reset).line.detector ≠ .digits ∧
    (∀ l, ¬ limitRunsOut l (elapse 0 State.reset)) ∧ (elapse 0 State.reset).line.monitor = none := by
  refine ⟨?_, by decide, ?_, by decide⟩
  · intro k
    cases k with
    | digit d => revert d; decide
    | star => decide
    | hash => decide
  · intro l h
    have : (elapse 0 State.reset).line.timer = none := rfl
    unfold limitRunsOut at h
    simp [this] at h

/-! ### Witnesses: the drum -/

/-- DRUM_RUN in each kind of state, at each end of the index timeout, and DRUM_STOP. -/
theorem witness_DrumRunAndDrumStopByTheDrumState :
    (∀ s, Taken codeDrumRun .panel 120 [120] (asking codeDrumRun .panel [120] s)) ∧
    (∀ s, Taken codeDrumStop .panel 0 [] (asking codeDrumStop .panel [] s)) ∧
    Taken codeDrumRun .panel 61 [61] (asking codeDrumRun .panel [61] State.reset) ∧
    ((120 : Byte).toNat, Rpm.rpm120) ∈ [(60, Rpm.rpm60), (90, .rpm90), (120, .rpm120)] ∧
    (asking codeDrumRun .panel [120] (callAt .picture)).legActive = true ∧
    (asking codeDrumRun .panel [120] (drumAt .fault 0)).drum.state = .fault ∧
    (∀ st ∈ [DrumState.stopped, .braking, .spinup, .locking, .locked, .slip],
      (asking codeDrumRun .panel [120] (drumAt st 1000001)).legActive = false ∧
      (asking codeDrumRun .panel [120] (drumAt st 1000001)).drum.coverOpen = false ∧
      (asking codeDrumRun .panel [120] (drumAt st 1000001)).drum.state = st ∧
      (asking codeDrumRun .panel [120] (drumAt st 1000001)).drum.target ≠ some .rpm120) ∧
    2 * pNom .rpm120 = 1000000 :=
  ⟨fun s => taken_asking _ _ [120] _ (by decide) ⟨by decide, by decide, by decide, by simp⟩,
   fun s => taken_asking _ _ [] _ (by decide) ⟨by decide, by decide, by decide, by simp⟩,
   taken_asking _ _ [61] _ (by decide) (by decide), by decide, by decide, by decide, by decide, by decide⟩

/-- An index that gives a measured period in each state that uses one, and one that gives none. -/
theorem witness_AnIndexMeasuresCorrectsAndTestsTheDrum :
    (∀ st ∈ [DrumState.stopped, .braking, .fault, .spinup, .locking, .locked, .slip],
      (drumAt st 1).drum.state = st ∧ (drumAt st 1).drum.target = some .rpm60 ∧
      ((drumAt st 1).drum.indexHeld = true ∧ (drumAt st 1).aux.indexOver = false ∧
        0 < (drumAt st 1).drum.indexTime)) ∧
    ¬ (0 < (drumAt .spinup 0).drum.indexTime) ∧ (drumAt .spinup 0).drum.state ∉ [.stopped, .braking] := by
  decide

theorem witness_DrumReportsMeetTheScannerAndTheLine :
    (let s := { scanIn { Scanner.reset with state := .waitDrum, headReady := true } with
      drum := (drumAt .locked 0).drum }
     s.scan.state = .waitDrum ∧ s.scan.headReady = true ∧ s.scan.jobSpeed = some .rpm60 ∧
       s.drum.state = .locked ∧ s.drum.target = some .rpm60) ∧
    (let s := scanIn { Scanner.reset with state := .prepared, report := .held }
     s.scan.state = .prepared ∧ s.scan.report = .held ∧ s.scan.jobSpeed = some .rpm60 ∧
       s.scan.inTransmission = false) ∧
    (scanIn { Scanner.reset with state := .halted }).scan.state ∉ [.waitDrum, .prepared] ∧
    (scanIn { Scanner.reset with state := .warm }).scan.state ∈ [ScanState.dark, .warm, .whiteRef] ∧
    ((callAt .bridge).line.state = .bridge ∧ (callAt .bridge).line.closing = none ∧
      (callAt .bridge).line.jobSpeed = some .rpm60) ∧
    ((callAt .picture).line.state ∈ [LineState.mark, .phasing, .picture] ∧ (callAt .picture).line.kind = some .leg) ∧
    ((callAt .dial).line.state ∈ [LineState.seize, .dial, .awaitReady, .prepareWait] ∧
      (callAt .dial).line.kind = some .leg) ∧
    ((callAt .picture).line.closing = none ∧ (callAt .mark).line.state ≠ .picture ∧
      (callAt .mark).line.state ∉ [LineState.seize, .dial, .awaitReady, .prepareWait]) := by decide

theorem witness_TimedDrumEventsLoseFaultBrakeAndStop :
    (let t := elapse 0 (drumAt .slip 2000000)
     t.drum.state ∈ [DrumState.locking, .locked, .slip] ∧ t.drum.target = some .rpm60) ∧
    (let t := elapse 0 (drumAt .spinup 0)
     t.drum.state = .spinup ∧ t.drum.spinupTime = some 0) ∧
    (let t := elapse 0 (drumIs { Drum.reset with state := .braking, brakingTime := some 2000000 })
     t.drum.state = .braking ∧ t.drum.brakingTime = some 2000000) ∧
    (let t := elapse 0 (drumIs { (drumAt .locked 0).drum with idleTime := some 59 })
     t.drum.state ∈ [DrumState.spinup, .locking, .locked, .slip] ∧ t.drum.demand = some .job ∧
       t.drum.idleTime = some 59) ∧
    ∀ st ∈ [DrumState.locked, .spinup, .stopped],
      (elapse 0 (drumAt st 0)).drum.coverOpen = false ∧ (elapse 0 (drumAt st 0)).drum.state = st := by decide

/-! ### Witnesses: the revolution -/

theorem witness_AnIndexAndItsPositionsReachTheBlocks :
    (∀ src ∈ [PosSource.timer, .encoder], ∀ k ∈ [0, 286, 287],
      let t := elapse 0 (timerAt src (some k))
      t.posTimer.running = true ∧ t.posTimer.counter = some k ∧ t.posTimer.source = some src) ∧
    (elapse 0 State.reset).posTimer.running = false ∧
    (elapse 0 (timerAt .timer none)).posTimer.counter = none := by decide

theorem witness_TheHeadHomesMovesAndSteps :
    ∀ m ∈ [Motion.idle, .homing, .moving, .step],
      let t := elapse 40000 { State.reset with head := { Head.reset with motion := m, valid := true, line := 5 } }
      2500 ≤ t.aux.headTime ∧ t.head.motion = m ∧ t.aux.homingSteps < 4100 ∧
        (elapse 39999 State.reset).aux.headTime < 2500 ∧
        4100 ≤ (elapse 0 { State.reset with aux := { Aux.reset with homingSteps := 4100 } }).aux.homingSteps := by
  decide

/-- A head with its target, one whose last homing failed, and requests below, at and above its line. -/
theorem witness_TheHeadHomesMovesAndSteps_requests :
    (let t := elapse 40000 { State.reset with
      head := { Head.reset with motion := .moving, valid := true, line := 5, target := some 6 } }
     t.head.target = some (t.head.line + 1)) ∧
    ({ Head.reset with lastHoming := some .failed } : Head).lastHoming = some .failed ∧
    (∀ p ∈ [4, 5, 6], p < 5 ∨ p = 5 ∨ 5 < p) := by decide

/-- The scanner in each state a report of the line unit meets, and one the head's report meets. -/
theorem witness_TheScannerMeasuresAndCaptures_reports :
    (∀ st ∈ [ScanState.prepared, .capturing, .halted],
      (scanIn { Scanner.reset with state := st }).scan.state = st) ∧
    (let s := { scanIn { Scanner.reset with state := .waitDrum, headReady := true, resumeLine := some 7 } with
      drum := (drumAt .locked 0).drum }
     s.scan.state = .waitDrum ∧ s.scan.resumeLine = some 7 ∧ s.scan.headReady = true ∧ s.drum.state = .locked ∧
       s.drum.target ≠ none ∧ s.drum.target = s.scan.jobSpeed) := by decide

/-- S 1024: G 128, the band 32 to 95, the span 128 to 1151 (R67). -/
theorem witness_TheScannerMeasuresAndCaptures :
    (∀ st ∈ [ScanState.idle, .dark, .whiteRef, .prepared, .capturing],
      (scanIn { Scanner.reset with state := st }).scan.jobS = some 1024 ∧
      (scanIn { Scanner.reset with state := st, measuring := .running 5 1, tracking := .running 5 1 }).scan.state = st) ∧
    ((1024 / 8 / 4 ≤ 32 ∧ 32 < 3 * (1024 / 8) / 4) ∧ 95 = 3 * (1024 / 8) / 4 - 1 ∧ 128 = 1024 / 8 ∧
      1151 < 1024 + 1024 / 8) ∧
    (let s := { scanIn { Scanner.reset with state := .capturing } with
      head := { Head.reset with valid := true, line := 99 } }
     s.head.line < s.scan.jobT.getD 0 ∧ s.ring[0]? = some Slot.free ∧ s.scan.filling = none) ∧
    (let s := { scanIn { Scanner.reset with
        state := .capturing, filling := some { slot := 3, line := 7, written := 1023 } } with
      ring := State.reset.ring.set 3 (.filling 7 [1]) }
     s.ring[3]? = some (.filling 7 [1]) ∧ s.scan.filling = some { slot := 3, line := 7, written := 1023 }) ∧
    (Scanner.reset.dark + Settings.default.lampMin ≤ 512 ∧ 511 < Scanner.reset.dark + Settings.default.lampMin) := by
  decide

theorem witness_TheModulatorFollowsTheRevolution :
    (modIn .phasing none false (Vector.replicate 4 .free)).posTimer.gap = some 32 ∧
    (let s := modIn .picture (some 3) false (Vector.replicate 4 (.sending 0 [5, 6]))
     s.modu.mode = .picture ∧ s.modu.sendingSlot = some 3 ∧ s.ring[3]? = some (.sending 0 [5, 6]) ∧
       ([5, 6] : List Nat)[33 - 32]? = some 6) ∧
    (let s := modIn .picture none true (Vector.replicate 4 .free)
     s.modu.lead = true ∧ s.modu.sendingSlot = none) ∧
    (let s := modIn .picture none false (#v[.full 8 [9], .free, .full 7 [5], .free])
     s.modu.lead = false ∧ s.modu.linesCopy.getD 0 < s.modu.lineCount.getD 0 ∧
       s.ring[2]? = some (.full 7 [5])) ∧
    ((callAt .phasing).line.state = .phasing ∧ (callAt .phasing).line.closing = none) ∧
    (let s := { callAt .mark with
      drum := (drumAt .locked 0).drum, modu := { Modulator.reset with mode := .blackHold } }
     s.line.state = .mark ∧ s.modu.mode = .blackHold ∧ s.drum.state = .locked ∧
       s.drum.target = s.line.jobSpeed ∧ s.drum.target ≠ none) ∧
    ((callAt .mark).line.state ≠ .phasing ∧ (callAt .mark).line.state ≠ .picture ∧
      (callAt .phasing).line.state ≠ .mark) := by decide

/-- Of the two FULL slots of that ring, slot 2 holds the lower line number. -/
theorem witness_lowest_full_slot :
    ∀ (j m : Nat) (ms : List Nat),
      (#v[Slot.full 8 [9], .free, .full 7 [5], .free] : Vector Slot 4)[j]? = some (Slot.full m ms) → j ≠ 2 → 7 < m := by
  intro j m ms h hj
  rcases j with _ | _ | _ | _ | j
  · simp at h; omega
  · simp at h
  · exact absurd rfl hj
  · simp at h
  · simp at h

theorem witness_LevelsTonesAndDutyLieBetweenTheirEnds :
    defaultCurve.toList.Pairwise (· ≤ ·) ∧ (200 : Nat) < 3400 ∧ (0 : Nat) ≤ 4095 ∧ (0 : Nat) ≤ 200 ∧
    (3400 : Nat) ≤ 4095 ∧ (1500 : Nat) ≤ 2300 ∧ (0 : Nat) ≤ 255 ∧ (2800 : Nat) ≤ 2800 ∧
    (0 ≤ ((400 : Nat) : Int) + 1000 * (64 : Nat) / 4096 ∧ ((400 : Nat) : Int) + 1000 * (64 : Nat) / 4096 ≤ 1023) := by
  decide

/-! ### Witnesses: dialer, mark, printer, lamps, resets -/

theorem witness_TheDialerTakesItsSymbolsInTurn :
    (∀ st ∈ [DialerState.toneOn, .toneOff, .breaking, .making, .interdigit, .pause, .flash],
      let t := elapse 0 (dialling pulse0 st 1)
      t.dialBuf = some { source := .explicit, dial := pulse0, code := none } ∧ t.dialer.left = 0 ∧
        t.dialer.state = st) ∧
    (PulseRate.pps20, MakeBreak.mb4060, 30) ∈ [(PulseRate.pps10, MakeBreak.mb4060, 60), (.pps10, .mb3367, 67),
      (.pps20, .mb4060, 30), (.pps20, .mb3367, 33)] ∧
    (dialling dial1 .idle 0).settings.makeBreak = .mb4060 ∧ pulse0.string[0]? = some (.digit 0) ∧
    pulse0.string.length ≤ 1 ∧ (elapse 0 { dialling dial1 .toneOn 0 with
      dialer := { Dialer.reset with state := .toneOn, left := 1 } }).dialer.left ≠ 0 := by decide

theorem witness_TheMarkIsSentAndTheDacUpdated :
    (∀ st ∈ [MarkStep.idle, .tone, .silence],
      let t := elapse 0 { State.reset with markGen := { MarkGen.reset with step := st, symbols := [.star, .hash] } }
      t.markGen.left = 0 ∧ t.markGen.step = st ∧ t.markGen.symbols[t.markGen.completed + 1]? = some .hash) ∧
    (elapse 0 { State.reset with markGen := { MarkGen.reset with symbols := [.hash] } }).markGen.symbols.length ≤ 1 ∧
    (elapse 0 State.reset).aux.tonesDue = 0 ∧ 0 < (elapse 1000 State.reset).aux.tonesDue := by decide

theorem witness_SlipsAreMadeAndPrintedCharacterByCharacter :
    (let r := { slipN 1 false false with attempts := 9999999999 }
     ∀ n ∈ [r.attempts, r.notes.short, r.notes.fill, r.notes.slip, r.notes.lamp, r.notes.bridge],
       n < 10000000000) ∧
    (let s := withJob (jobIn .done [legIn .confirmed])
     s.routes[23]? = some none ∧
     ({ s with routes := Vector.replicate 24 (some { label := [65], dial := dial1, code := none }) } : State).routes[0]? =
       some (some { label := [65], dial := dial1, code := none }) ∧
     s.job? 0 = some (jobIn .done [legIn .confirmed]) ∧ (legIn .confirmed).firstAttempt = some ⟨3, 100⟩ ∧
       (legIn .confirmed).endTime = some ⟨3, 200⟩ ∧ s.slips.queue.length < 8) ∧
    8 ≤ (withSlips ((List.range 8).map fun n => slipN n false false)).slips.queue.length ∧
    (let s := withSlips [slipN 1 true false, slipN 2 false false]
     s.slips.printer = .idle ∧ s.slips.reprint = false ∧
       s.slips.queue = [slipN 1 true false] ++ slipN 2 false false :: [] ∧
       (∀ o ∈ [slipN 1 true false], o.printed = true) ∧ (slipN 2 false false).printed = false) ∧
    (let t := elapse 0 (printingAt 9 24)
     t.slips.printer = .printing ∧ t.slips.queue = [] ++ slipN 1 false false :: [] ∧
       t.slips.printing = some { item := .record 1, line := 9, chars := 24, restarted := false } ∧
       (slipLine (slipN 1 false false) false false 9 ++ [10])[24]? = some 10) := by decide

theorem witness_APrintedSlipIsMarkedCopiedAndRemoved :
    let s := { withSlips [slipN 1 true false, slipN 2 false true, slipN 3 false false] with
      slips := { SlipUnit.reset with
        queue := [slipN 1 true false, slipN 2 false true, slipN 3 false false], owed := [(0, 0)] } }
    s.slips.queue = [slipN 1 true false] ++ slipN 2 false true :: [slipN 3 false false] ∧
    (s.slips.queue.map fun (o : SlipRec) => o.number).Nodup ∧ s.slips.owed = (0, 0) :: [] ∧
    State.reset.slips.owed = [] := by decide

theorem witness_EachLampShowsItsConditionAsTheFrameBegins :
    50000 ≤ (elapse 0 State.reset).aux.lampTime ∧
    (elapse 0 { State.reset with aux := { Aux.reset with lampTime := 49999 } }).aux.lampTime < 50000 ∧
    ([True, False] : List Prop)[1]? = some False := ⟨by decide, by decide, rfl⟩

theorem witness_ResetsClearWhatTheSpecSaysAndKeepTheRest :
    Taken codeMachineReset .panel 0 [] (asking codeMachineReset .panel [] (callAt .picture)) :=
  taken_asking _ _ [] _ (by decide) (by decide)

end Sys2Proof.Tests
end

/-! What leaves the job table and the entries of the mount queue as they are: one lemma per operation. -/

namespace Sys2Proof.PictureJobs
open Machine

/-- The job table and the entries of the mount queue, which the invariants of R1, R7 and R12 speak of. -/
def table (s : State) : Vector (Option Job) 16 × List Nat := (s.jobs, s.mountQueue.entries)
variable (s : State)

@[simp] theorem setDrum_table (x) : table (s.setDrum x) = table s := (rfl)
@[simp] theorem setPosTimer_table (x) : table (s.setPosTimer x) = table s := (rfl)
@[simp] theorem setHead_table (x) : table (s.setHead x) = table s := (rfl)
@[simp] theorem setScan_table (x) : table (s.setScan x) = table s := (rfl)
@[simp] theorem setRing_table (x) : table (s.setRing x) = table s := (rfl)
@[simp] theorem setModu_table (x) : table (s.setModu x) = table s := (rfl)
@[simp] theorem setMarkGen_table (x) : table (s.setMarkGen x) = table s := (rfl)
@[simp] theorem setDialer_table (x) : table (s.setDialer x) = table s := (rfl)
@[simp] theorem setDialBuf_table (x) : table (s.setDialBuf x) = table s := (rfl)
@[simp] theorem setLine_table (x) : table (s.setLine x) = table s := (rfl)
@[simp] theorem setSlips_table (x) : table (s.setSlips x) = table s := (rfl)
@[simp] theorem setDeskAttn_table (x) : table (s.setDeskAttn x) = table s := (rfl)
@[simp] theorem setPanelAttn_table (x) : table (s.setPanelAttn x) = table s := (rfl)
@[simp] theorem setPins_table (x) : table (s.setPins x) = table s := (rfl)
@[simp] theorem setAux_table (x) : table (s.setAux x) = table s := (rfl)
@[simp] theorem setModes_table (x) : table (s.setModes x) = table s := (rfl)
@[simp] theorem setSettings_table (x) : table (s.setSettings x) = table s := (rfl)
@[simp] theorem setCurve_table (x) : table (s.setCurve x) = table s := (rfl)
@[simp] theorem setClock_table (x) : table (s.setClock x) = table s := (rfl)
@[simp] theorem setDeskLink_table (x) : table (s.setDeskLink x) = table s := (rfl)
@[simp] theorem setPanelLink_table (x) : table (s.setPanelLink x) = table s := (rfl)
@[simp] theorem setCommitCounter_table (x) : table (s.setCommitCounter x) = table s := (rfl)
@[simp] theorem setPending_table (x) : table (s.setPending x) = table s := (rfl)
@[simp] theorem setRoutes_table (x) : table (s.setRoutes x) = table s := (rfl)

@[simp] theorem cause_table (c : Cause) (toDesk toPanel : Bool) :
    table (s.cause c toDesk toPanel) = table s := by unfold State.cause; (repeat' split) <;> simp
@[simp] theorem causeJob_table (owner : Link) : table (s.causeJob owner) = table s := by
  simp [State.causeJob]
@[simp] theorem causeQueue_table : table (s.causeQueue) = table s := (rfl)
@[simp] theorem causeLine_table : table (s.causeLine) = table s := (rfl)
@[simp] theorem causeDrum_table : table (s.causeDrum) = table s := (rfl)
@[simp] theorem causeSlip_table (owner : Link) : table (s.causeSlip owner) = table s := by
  simp [State.causeSlip]
@[simp] theorem causePrinter_table : table (s.causePrinter) = table s := (rfl)
@[simp] theorem causeFault_table : table (s.causeFault) = table s := (rfl)
@[simp] theorem setLink_table (lk : Link) (r : LinkRec) : table (s.setLink lk r) = table s := by
  unfold State.setLink; split <;> simp
@[simp] theorem setAttn_table (lk : Link) (a : Attn) : table (s.setAttn lk a) = table s := by
  unfold State.setAttn; split <;> simp
@[simp] theorem startLimit_table (l : Limit) (us : Nat) : table (s.startLimit l us) = table s := (rfl)
@[simp] theorem elapse_table (dt : Nat) : table (elapse dt s) = table s := (rfl)
@[simp] theorem takeRequest_table (lk : Link) : table (takeRequest lk s) = table s := by simp [takeRequest]
@[simp] theorem placeReply_table (lk : Link) (r : Reply) : table (placeReply lk r s) = table s := by
  simp [placeReply]
@[simp] theorem printerLook_table : table (printerLook s) = table s := by
  unfold printerLook; dsimp only; (repeat' split) <;> rfl
@[simp] theorem beginSlip_table (i : PrintItem) : table (beginSlip i s) = table s := (rfl)
@[simp] theorem modSlip_table (n : Nat) (f : SlipRec → SlipRec) : table (modSlip n f s) = table s := (rfl)
@[simp] theorem restartSlip_table : table (restartSlip s) = table s := by unfold restartSlip; split <;> simp
@[simp] theorem holdQueue_table (r : HoldReason) : table (holdQueue r s) = table s := (rfl)
@[simp] theorem startIdle_table : table (startIdle s) = table s := by unfold startIdle; split <;> simp
@[simp] theorem drumStopped_table : table (drumStopped s) = table s := (rfl)
@[simp] theorem drumBraking_table : table (drumBraking s) = table s := (rfl)
@[simp] theorem countIndex_table : table (countIndex s) = table s := (rfl)
@[simp] theorem setSlot_table (i : Nat) (x : Slot) : table (s.setSlot i x) = table s := (rfl)
@[simp] theorem emptyRing_table : table (emptyRing s) = table s := (rfl)
@[simp] theorem unsend_table : table (unsend s) = table s := (rfl)
@[simp] theorem modSilent_table : table (modSilent s) = table s := (rfl)
@[simp] theorem modTone_table (f : Nat) : table (modTone f s) = table s := (rfl)
@[simp] theorem modMode_table (m : Mode) (f : Nat) : table (modMode m f s) = table s := (rfl)
@[simp] theorem startPair_table (k : KeySym) : table (startPair k s) = table s := (rfl)
@[simp] theorem markTone_table : table (markTone s) = table s := by unfold markTone; split <;> simp
@[simp] theorem startMark_table : table (startMark s) = table s := (rfl)
@[simp] theorem stopMark_table : table (stopMark s) = table s := (rfl)
@[simp] theorem blackHold_table : table (blackHold s) = table s := (rfl)
@[simp] theorem bridgeMode_table : table (bridgeMode s) = table s := (rfl)
@[simp] theorem stopMode_table : table (stopMode s) = table s := (rfl)
@[simp] theorem phasingMode_table (target : Nat) : table (phasingMode target s) = table s := (rfl)
@[simp] theorem abandonFilling_table : table (abandonFilling s) = table s := by
  unfold abandonFilling; split <;> simp
@[simp] theorem scanIdle_table : table (scanIdle s) = table s := by simp [scanIdle]
@[simp] theorem scanHalt_table : table (scanHalt s) = table s := by unfold scanHalt; split <;> simp
@[simp] theorem scanResume_table : table (scanResume s) = table s := by unfold scanResume; split <;> simp
@[simp] theorem scanTransmission_table : table (scanTransmission s) = table s := by
  unfold scanTransmission; split <;> simp
@[simp] theorem scanPicture_table : table (scanPicture s) = table s := by unfold scanPicture; split <;> simp
@[simp] theorem scanFinished_table : table (scanFinished s) = table s := by
  unfold scanFinished; split <;> simp
@[simp] theorem scanWaitTest_table : table (scanWaitTest s) = table s := by
  unfold scanWaitTest; split <;> simp
@[simp] theorem scanPositioned_table (p : Nat) : table (scanPositioned p s) = table s := by
  unfold scanPositioned; split <;> simp
@[simp] theorem headPulse_table (forward : Bool) : table (headPulse forward s) = table s := (rfl)
@[simp] theorem headPositioned_table : table (headPositioned s) = table s := by simp [headPositioned]
@[simp] theorem headMoving_table : table (headMoving s) = table s := (rfl)
@[simp] theorem homeReached_table : table (homeReached s) = table s := by unfold homeReached; split <;> simp
@[simp] theorem enterHoming_table : table (enterHoming s) = table s := by unfold enterHoming; split <;> simp
@[simp] theorem positionIdle_table (p : Nat) : table (positionIdle p s) = table s := by
  unfold positionIdle; (repeat' split) <;> simp
@[simp] theorem positioningRequest_table (p : Nat) : table (positioningRequest p s) = table s := by
  unfold positioningRequest; (repeat' split) <;> simp
@[simp] theorem scanStep_table : table (scanStep s) = table s := by unfold scanStep; split <;> simp
@[simp] theorem enterLine_table (st : LineState) : table (enterLine st s) = table s := by
  unfold enterLine; split <;> simp
@[simp] theorem enterGuard_table : table (enterGuard s) = table s := by simp [enterGuard]
@[simp] theorem dialStep_table (st : DialerState) (us : Nat) : table (dialStep st us s) = table s := (rfl)
@[simp] theorem stopDialer_table : table (stopDialer s) = table s := (rfl)
@[simp] theorem dialBreak_table (r : PulseRate) : table (dialBreak r s) = table s := (rfl)
@[simp] theorem dialTone_table (k : KeySym) : table (dialTone k s) = table s := (rfl)
@[simp] theorem dialPulse_table (r : PulseRate) (d : Fin 10) : table (dialPulse r d s) = table s := (rfl)
@[simp] theorem beginSymbol_table (d : DialSpec) (x : DialSym) : table (beginSymbol d x s) = table s := by
  unfold beginSymbol; (repeat' split) <;> simp
@[simp] theorem enterTalk_table : table (enterTalk s) = table s := by simp [enterTalk]
@[simp] theorem enterAwaitReady_table : table (enterAwaitReady s) = table s := by simp [enterAwaitReady]
@[simp] theorem dialComplete_table : table (dialComplete s) = table s := by
  unfold dialComplete; split <;> simp
@[simp] theorem dialNext_table : table (dialNext s) = table s := by
  unfold dialNext; (repeat' split) <;> simp
@[simp] theorem symbolDone_table : table (symbolDone s) = table s := by simp [symbolDone]
@[simp] theorem enterDial_table : table (enterDial s) = table s := by simp [enterDial]
@[simp] theorem enterSeize_table : table (enterSeize s) = table s := by simp [enterSeize]
@[simp] theorem callGone_table : table (callGone s) = table s := by simp [callGone]
@[simp] theorem legEndReport_table : table (legEndReport s) = table s := by
  unfold legEndReport; split <;> simp
@[simp] theorem talkRelease_table (e : TalkEnding) : table (talkRelease e s) = table s := by
  simp [talkRelease]
@[simp] theorem beginClosing_table (c : Closing) : table (beginClosing c s) = table s := by
  simp [beginClosing]
@[simp] theorem bridgeResume_table : table (bridgeResume s) = table s := by simp [bridgeResume]
@[simp] theorem transmissionBegin_table : table (transmissionBegin s) = table s := by
  simp [transmissionBegin]
@[simp] theorem linePrepared_table : table (linePrepared s) = table s := by
  unfold linePrepared; (repeat' split) <;> simp
@[simp] theorem lineWithdrawn_table : table (lineWithdrawn s) = table s := (rfl)
@[simp] theorem lineLocked_table (r : Rpm) : table (lineLocked r s) = table s := by
  unfold lineLocked; split <;> simp
@[simp] theorem lineIndex_table : table (lineIndex s) = table s := by unfold lineIndex; split <;> simp
@[simp] theorem linePhasingComplete_table : table (linePhasingComplete s) = table s := by
  unfold linePhasingComplete; split <;> simp
@[simp] theorem linePictureComplete_table : table (linePictureComplete s) = table s := by
  unfold linePictureComplete; split <;> simp
@[simp] theorem enterAnswerback_table : table (enterAnswerback s) = table s := by simp [enterAnswerback]
@[simp] theorem beginPreparation_table (samples lineCount : Nat) (speed : Rpm) (resume : Nat) :
    table (beginPreparation samples lineCount speed resume s) = table s := by simp [beginPreparation]
@[simp] theorem sendPrepared_table : table (sendPrepared s) = table s := by simp [sendPrepared]
@[simp] theorem enterPrepared_table : table (enterPrepared s) = table s := by
  unfold enterPrepared; dsimp only; (repeat' split) <;> simp
@[simp] theorem darkDone_table (sum samples : Nat) : table (darkDone sum samples s) = table s := (rfl)
@[simp] theorem scanLost_table : table (scanLost s) = table s := by
  unfold scanLost; (repeat' split) <;> simp
@[simp] theorem scanRetested_table (t : State) : table (scanRetested s t) = table t := by
  unfold scanRetested; split <;> simp
@[simp] theorem scanLocked_table (r : Rpm) : table (scanLocked r s) = table s := by
  unfold scanLocked; split <;> [simp; (split <;> simp)]
@[simp] theorem captureBegin_table : table (captureBegin s) = table s := by
  unfold captureBegin; (repeat' split) <;> simp
@[simp] theorem captureDone_table (f : Filling) (levels : List Nat) :
    table (captureDone f levels s) = table s := by simp [captureDone]
@[simp] theorem writeLevel_table (samples r : Nat) : table (writeLevel samples r s) = table s := by
  unfold writeLevel; (repeat' split) <;> simp
@[simp] theorem darkEnd_table : table (darkEnd s) = table s := by unfold darkEnd; (repeat' split) <;> simp
@[simp] theorem scanSpanEnd_table : table (scanSpanEnd s) = table s := by unfold scanSpanEnd; split <;> simp
@[simp] theorem warmIndex_table : table (warmIndex s) = table s := by unfold warmIndex; split <;> simp
@[simp] theorem darkIndex_table : table (darkIndex s) = table s := by
  unfold darkIndex; (repeat' split) <;> simp
@[simp] theorem modPhasingIndex_table : table (modPhasingIndex s) = table s := by
  unfold modPhasingIndex; dsimp only; (repeat' split) <;> simp
@[simp] theorem loadTimer_table (samples : Nat) (speed : Rpm) :
    table (loadTimer samples speed s) = table s := (rfl)
@[simp] theorem holdPeriod_table (p : Option Nat) : table (holdPeriod p s) = table s := (rfl)
@[simp] theorem startRevolution_table : table (startRevolution s) = table s := (rfl)
@[simp] theorem reportLocked_table (r : Rpm) : table (reportLocked r s) = table s := by simp [reportLocked]
@[simp] theorem enterLocked_table (r : Rpm) : table (enterLocked r s) = table s := by simp [enterLocked]
@[simp] theorem lockingIndex_table (r : Rpm) (e : Int) : table (lockingIndex r e s) = table s := by
  unfold lockingIndex; dsimp only; (repeat' split) <;> simp
@[simp] theorem lockedIndex_table (r : Rpm) (e : Int) : table (lockedIndex r e s) = table s := by
  unfold lockedIndex; split <;> simp
@[simp] theorem spinupIndex_table (r : Rpm) (p : Nat) : table (spinupIndex r p s) = table s := by
  unfold spinupIndex; split <;> simp
@[simp] theorem faultEntry_table (c : Option FaultCause) : table (faultEntry c s) = table s := (rfl)
@[simp] theorem scanFault_table : table (scanFault s) = table s := by simp [scanFault]
@[simp] theorem grantTalk_table (p : PendingTalk) : table (grantTalk p s) = table s := by simp [grantTalk]
@[simp] theorem changeSense_table (present : Bool) : table (changeSense present s) = table s := (rfl)
@[simp] theorem takeReady_table : table (takeReady s) = table s := by unfold takeReady; split <;> simp
@[simp] theorem stopDrum_table : table (stopDrum s) = table s := by
  unfold stopDrum; (repeat' split) <;> simp
@[simp] theorem senseHome_table (home : Bool) : table (senseHome home s) = table s := (rfl)
@[simp] theorem homingStep_table (home : Bool) : table (homingStep home s) = table s := by
  unfold homingStep; split <;> simp
@[simp] theorem movingStep_table (home : Bool) : table (movingStep home s) = table s := by
  unfold movingStep; dsimp only; (repeat' split) <;> simp
@[simp] theorem failHoming_table : table (failHoming s) = table s := (rfl)
@[simp] theorem endScanStep_table (home : Bool) : table (endScanStep home s) = table s := by
  unfold endScanStep; dsimp only; (repeat' split) <;> simp
@[simp] theorem beginSelect_table (lk : Link) (b : Byte) : table (beginSelect lk b s) = table s := by
  unfold beginSelect; dsimp only; (repeat' split) <;> simp
@[simp] theorem receiveByte_table (lk : Link) (r : ReqBuf) (b : Byte) :
    table (receiveByte lk r b s) = table s := by unfold receiveByte; split <;> simp
@[simp] theorem sendByte_table (lk : Link) : table (sendByte lk s) = table s := by
  unfold sendByte; dsimp only; (repeat' split) <;> simp
@[simp] theorem clockByte_table (lk : Link) (b : Byte) : table (clockByte lk b s) = table s := by
  unfold clockByte; (repeat' split) <;> simp
@[simp] theorem readReply_table (lk : Link) : table (readReply lk s) = table s := by
  unfold readReply; dsimp only; (repeat' split) <;> simp
@[simp] theorem endSelect_table (lk : Link) (part : Bool) : table (endSelect lk part s) = table s := by
  unfold endSelect; dsimp only; (repeat' split) <;> simp
@[simp] theorem idleCompared_table (n : Nat) : table (idleCompared n s) = table s := by
  unfold idleCompared; split <;> simp
@[simp] theorem setTime_table (day second : Nat) : table (setTime day second s) = table s := (rfl)
@[simp] theorem updateDac_table : table (updateDac s) = table s := by unfold updateDac; split <;> simp
@[simp] theorem markSilence_table : table (markSilence s) = table s := (rfl)
@[simp] theorem markNext_table : table (markNext s) = table s := by
  unfold markNext; dsimp only; (repeat' split) <;> simp
end Sys2Proof.PictureJobs

/-! What an operation may do to the job table and the mount queue (R1, R7, R12, R16): the relation between
the state before and after, and the changes of one entry it is made of. -/

namespace Sys2Proof.PictureJobs
open Machine Laws

/-- The fields of a job that OPEN_JOB fixes are the same (R1), and each leg that has ended is the same but
for its slip owed flag (R16, R158). -/
structure JobLasts (x y : Job) : Prop where
  owner : y.owner = x.owner
  slug : y.slug = x.slug
  speed : y.speed = x.speed
  samples : y.samples = x.samples
  lineCount : y.lineCount = x.lineCount
  retries : y.retries = x.retries
  openTime : y.openTime = x.openTime
  ended : ∀ (l : Nat) (g : Leg), x.legs[l]? = some g → g.state.terminal = true →
    ∃ h, y.legs[l]? = some h ∧ h = { g with slipOwed := h.slipOwed }

theorem JobLasts.refl (x : Job) : JobLasts x x :=
  ⟨rfl, rfl, rfl, rfl, rfl, rfl, rfl, fun _ g hg _ => ⟨g, hg, rfl⟩⟩

theorem JobLasts.trans {x y z : Job} (h : JobLasts x y) (k : JobLasts y z) : JobLasts x z where
  owner := k.owner.trans h.owner
  slug := k.slug.trans h.slug
  speed := k.speed.trans h.speed
  samples := k.samples.trans h.samples
  lineCount := k.lineCount.trans h.lineCount
  retries := k.retries.trans h.retries
  openTime := k.openTime.trans h.openTime
  ended := by
    intro l g hg ht
    obtain ⟨g', hg', e⟩ := h.ended l g hg ht
    obtain ⟨g'', hg'', e'⟩ := k.ended l g' hg' (by rw [e]; exact ht)
    exact ⟨g'', hg'', by rw [e', e]⟩

/-- What an operation of the blocks makes of the job table and the mount queue: no job that was there
is lost or loses what R1 and R16 fix, and the invariants of R7 and R12 are kept. -/
structure TableKept (s t : State) : Prop where
  lasts : ∀ (j : Nat) (x : Job), s.job? j = some x → ∃ y, t.job? j = some y ∧ JobLasts x y
  queue : MountQueueRight s → MountQueueRight t
  one : OneMountedOneActive s → OneMountedOneActive t

theorem TableKept.refl (s : State) : TableKept s s := ⟨fun _ x h => ⟨x, h, .refl x⟩, id, id⟩

theorem TableKept.trans {s t u : State} (h : TableKept s t) (k : TableKept t u) : TableKept s u where
  lasts j x hx := by
    obtain ⟨y, hy, hxy⟩ := h.lasts j x hx
    obtain ⟨z, hz, hyz⟩ := k.lasts j y hy
    exact ⟨z, hz, hxy.trans hyz⟩
  queue := k.queue ∘ h.queue
  one := k.one ∘ h.one

/-! ### Only the job table and the queue's entries matter -/

theorem table_eq_iff {s t : State} :
    table s = table t ↔ s.jobs = t.jobs ∧ s.mountQueue.entries = t.mountQueue.entries := Prod.mk_inj

theorem job?_of_table {s t : State} (h : table s = table t) (i : Nat) : s.job? i = t.job? i := by
  simp only [State.job?, (table_eq_iff.1 h).1]

theorem leg?_of_table {s t : State} (h : table s = table t) (i l : Nat) : s.leg? i l = t.leg? i l := by
  simp only [State.leg?, job?_of_table h]

theorem mounted?_of_table {s t : State} (h : table s = table t) : s.mounted? = t.mounted? := by
  simp only [State.mounted?, job?_of_table h]

theorem mountQueueRight_of_table {s t : State} (h : table s = table t) (k : MountQueueRight s) :
    MountQueueRight t := by
  unfold MountQueueRight mayStandAhead at *
  simpa only [job?_of_table h, (table_eq_iff.1 h).2] using k

theorem oneMountedOneActive_of_table {s t : State} (h : table s = table t) (k : OneMountedOneActive s) :
    OneMountedOneActive t := by
  unfold OneMountedOneActive legIsActive at *
  simpa only [job?_of_table h, leg?_of_table h] using k

theorem TableKept.of_table {s t : State} (h : table t = table s) : TableKept s t where
  lasts j x hx := ⟨x, by rw [job?_of_table h, hx], .refl x⟩
  queue := mountQueueRight_of_table h.symm
  one := oneMountedOneActive_of_table h.symm

/-- The job table and the entries `p` come from those of `s₀` by operations of the blocks. Stated over the
table alone, so that simp drops every operation that leaves the table as it is. -/
structure TableFrom (s₀ : State) (p : Vector (Option Job) 16 × List Nat) : Prop where
  kept : ∀ s, table s = p → TableKept s₀ s

theorem tableFrom_iff {s₀ s : State} : TableFrom s₀ (table s) ↔ TableKept s₀ s :=
  ⟨fun h => h.kept s rfl, fun h => ⟨fun _ e => h.trans (.of_table e)⟩⟩

@[simp] theorem tableFrom_self (s : State) : TableFrom s (table s) := tableFrom_iff.2 (.refl s)

/-- An operation that keeps the table of every state may follow any others. -/
theorem TableFrom.step {s₀ s t : State} (h : TableFrom s₀ (table s)) (k : TableKept s t) :
    TableFrom s₀ (table t) := tableFrom_iff.2 ((tableFrom_iff.1 h).trans k)

/-! ### Legs that go on -/

/-- One leg becomes another as R12 and R16 allow: a leg that has ended changes its slip owed flag alone,
and the leg is ACTIVE only if it was. -/
def legGoesOn (g h : Leg) : Prop :=
  (g.state.terminal = true → h = { g with slipOwed := h.slipOwed }) ∧ (h.state = .active → g.state = .active)

/-- A leg that has not ended becomes one that is not ACTIVE. -/
theorem legGoesOn_of_not_active {g h : Leg} (hg : g.state.terminal = false) (hh : h.state ≠ .active) :
    legGoesOn g h := ⟨fun ht => by simp [hg] at ht, fun k => absurd k hh⟩

/-- A leg that is ACTIVE may become any. -/
theorem legGoesOn_of_active {g : Leg} (h : Leg) (hg : g.state = .active) : legGoesOn g h :=
  ⟨fun ht => by simp [hg, LegState.terminal] at ht, fun _ => hg⟩

/-- The slip owed flag may change at any time (R158). -/
theorem legGoesOn_slipOwed (g : Leg) (b : Bool) : legGoesOn g { g with slipOwed := b } :=
  ⟨fun _ => rfl, id⟩

/-- A job goes on in its state and its place in the queue: what is fixed stays, and its legs, or legs that
are added, become ACTIVE by no means. -/
structure JobGoesOn (x y : Job) : Prop extends JobLasts x y where
  state : y.state = x.state
  priority : y.priority = x.priority
  commit : y.commitNumber = x.commitNumber
  active : ∀ (l : Nat) (h : Leg), y.legs[l]? = some h → h.state = .active →
    ∃ g, x.legs[l]? = some g ∧ g.state = .active

theorem JobGoesOn.refl (x : Job) : JobGoesOn x x :=
  ⟨.refl x, rfl, rfl, rfl, fun _ h hh ha => ⟨h, hh, ha⟩⟩

/-- Legs that go on one by one, the rest of the job as it stands. -/
theorem jobGoesOn_of_legs (x : Job) (legs : List Leg)
    (h : ∀ l : Nat, Option.Rel legGoesOn x.legs[l]? legs[l]?) : JobGoesOn x { x with legs := legs } where
  toJobLasts := by
    refine ⟨rfl, rfl, rfl, rfl, rfl, rfl, rfl, fun l g hg ht => ?_⟩
    have hl := h l
    rw [hg] at hl
    cases hk : legs[l]? with
    | none => rw [hk] at hl; cases hl
    | some k =>
      rw [hk] at hl
      obtain ⟨hgk⟩ := hl
      exact ⟨k, rfl, hgk.1 ht⟩
  state := rfl
  priority := rfl
  commit := rfl
  active := by
    intro l k hk ha
    have hl := h l
    rw [show legs[l]? = some k from hk] at hl
    cases hg : x.legs[l]? with
    | none => rw [hg] at hl; cases hl
    | some g =>
      rw [hg] at hl
      obtain ⟨hgk⟩ := hl
      exact ⟨g, rfl, hgk.2 ha⟩

theorem mayStandAhead_of_jobGoesOn {s t : State}
    (hj : ∀ i, Option.Rel JobGoesOn (s.job? i) (t.job? i)) {a b : Nat} (h : mayStandAhead s a b) :
    mayStandAhead t a b := by
  obtain ⟨x, y, hx, hy, hxy⟩ := h
  have ha := hj a
  have hb := hj b
  rw [hx] at ha
  rw [hy] at hb
  cases hx' : t.job? a with
  | none => rw [hx'] at ha; cases ha
  | some x' =>
    cases hy' : t.job? b with
    | none => rw [hy'] at hb; cases hb
    | some y' =>
      rw [hx'] at ha
      rw [hy'] at hb
      obtain ⟨ka⟩ := ha
      obtain ⟨kb⟩ := hb
      exact ⟨x', y', hx', hy', by rwa [ka.priority, ka.commit, kb.priority, kb.commit]⟩

/-- Jobs that go on, with the queue's entries as they stand. -/
theorem TableKept.of_jobGoesOn {s t : State} (he : t.mountQueue.entries = s.mountQueue.entries)
    (hj : ∀ i, Option.Rel JobGoesOn (s.job? i) (t.job? i)) : TableKept s t := by
  have fwd : ∀ {i x}, s.job? i = some x → ∃ y, t.job? i = some y ∧ JobGoesOn x y := by
    intro i x hx
    have h := hj i
    rw [hx] at h
    cases hy : t.job? i with
    | none => rw [hy] at h; cases h
    | some y => rw [hy] at h; obtain ⟨h⟩ := h; exact ⟨y, rfl, h⟩
  have bwd : ∀ {i y}, t.job? i = some y → ∃ x, s.job? i = some x ∧ JobGoesOn x y := by
    intro i y hy
    have h := hj i
    rw [hy] at h
    cases hx : s.job? i with
    | none => rw [hx] at h; cases h
    | some x => rw [hx] at h; obtain ⟨h⟩ := h; exact ⟨x, rfl, h⟩
  have act : ∀ {i l}, legIsActive t i l → legIsActive s i l := by
    rintro i l ⟨h, hh, ha⟩
    obtain ⟨y, hy, hl⟩ := Option.bind_eq_some_iff.1 hh
    obtain ⟨x, hx, hxy⟩ := bwd hy
    obtain ⟨g, hg, hga⟩ := hxy.active l h hl ha
    exact ⟨g, leg_of_job hx hg, hga⟩
  refine ⟨fun j x hx => ?_, fun ⟨hn, hm, hp⟩ => ⟨he ▸ hn, fun j => ?_, ?_⟩, fun ⟨h1, h2, h3⟩ => ⟨?_, ?_, ?_⟩⟩
  · obtain ⟨y, hy, hxy⟩ := fwd hx
    exact ⟨y, hy, hxy.toJobLasts⟩
  · rw [he, hm]
    constructor
    · rintro ⟨x, hx, hq⟩
      obtain ⟨y, hy, hxy⟩ := fwd hx
      exact ⟨y, hy, hxy.state.trans hq⟩
    · rintro ⟨y, hy, hq⟩
      obtain ⟨x, hx, hxy⟩ := bwd hy
      exact ⟨x, hx, hxy.state.symm.trans hq⟩
  · rw [he]
    exact hp.imp (mayStandAhead_of_jobGoesOn hj)
  · intro i j y y' hy hy' hm hm'
    obtain ⟨x, hx, hxy⟩ := bwd hy
    obtain ⟨x', hx', hxy'⟩ := bwd hy'
    exact h1 i j x x' hx hx' (hxy.state.symm.trans hm) (hxy'.state.symm.trans hm')
  · intro j l ha
    obtain ⟨x, hx, hm⟩ := h2 j l (act ha)
    obtain ⟨y, hy, hxy⟩ := fwd hx
    exact ⟨y, hy, hxy.state.trans hm⟩
  · intro i l j m ha hb
    exact h3 i l j m (act ha) (act hb)

/-! ### One entry becomes another -/

/-- The table's entry `j` is `e`, and every other is as it was. -/
def EntryBecomes (j : Nat) (e : Option Job) (s t : State) : Prop :=
  ∀ i, t.job? i = if i = j then e else s.job? i

theorem entryBecomes_setJob {s : State} {j : Nat} (e : Option Job) (h : j < 16) :
    EntryBecomes j e s (s.setJob j e) := fun i => job_setJob s i j e h

theorem EntryBecomes.same {j : Nat} {e : Option Job} {s t : State} (h : EntryBecomes j e s t) :
    t.job? j = e := by rw [h, if_pos rfl]

theorem EntryBecomes.other {j : Nat} {e : Option Job} {s t : State} (h : EntryBecomes j e s t) {i : Nat}
    (hi : i ≠ j) : t.job? i = s.job? i := by rw [h, if_neg hi]

/-- The entry of a job that goes on, with the queue's entries as they stand. -/
theorem TableKept.of_entryGoesOn {s t : State} {j : Nat} {x y : Job}
    (he : t.mountQueue.entries = s.mountQueue.entries) (hx : s.job? j = some x)
    (ht : EntryBecomes j (some y) s t) (h : JobGoesOn x y) : TableKept s t := by
  refine .of_jobGoesOn he fun i => ?_
  by_cases hi : i = j
  · subst hi
    rw [ht.same, hx]
    exact .some h
  · rw [ht.other hi]
    cases s.job? i with
    | none => exact .none
    | some z => exact .some (.refl z)

theorem setJob_goesOn {s₀ s : State} {j : Nat} {x y : Job} (hx : s.job? j = some x) (h : JobGoesOn x y)
    (k : TableFrom s₀ (table s)) : TableFrom s₀ (table (s.setJob j (some y))) :=
  k.step (.of_entryGoesOn rfl hx (entryBecomes_setJob _ (job_lt hx)) h)

/-- Changing one leg, as that leg may go on. -/
theorem modLeg_goesOn {s₀ s : State} {j l : Nat} {f : Leg → Leg}
    (hf : ∀ g, s.leg? j l = some g → legGoesOn g (f g)) (k : TableFrom s₀ (table s)) :
    TableFrom s₀ (table (s.modLeg j l f)) := by
  unfold State.modLeg
  split
  next x hx =>
    refine setJob_goesOn hx (jobGoesOn_of_legs x _ fun i => ?_) k
    rw [List.getElem?_modify]
    cases hg : x.legs[i]? with
    | none => split <;> exact .none
    | some g =>
      split
      next hi => exact .some (hf g (leg_of_job hx (hi ▸ hg)))
      next => exact .some ⟨fun _ => rfl, id⟩
  next => exact k

theorem lasts_of_entryBecomes {s t : State} {j : Nat} {y : Job} (ht : EntryBecomes j (some y) s t)
    (hl : ∀ x, s.job? j = some x → JobLasts x y) :
    ∀ (i : Nat) (x : Job), s.job? i = some x → ∃ z, t.job? i = some z ∧ JobLasts x z := by
  intro i x hx
  by_cases hi : i = j
  · subst hi
    exact ⟨y, ht.same, hl x hx⟩
  · exact ⟨x, by rw [ht.other hi, hx], .refl x⟩

/-! ### A job leaves the queue or joins it (R7) -/

theorem mayStandAhead_of_other {s t : State} {j : Nat} {e : Option Job} (ht : EntryBecomes j e s t)
    {a b : Nat} (ha : a ≠ j) (hb : b ≠ j) (h : mayStandAhead s a b) : mayStandAhead t a b := by
  obtain ⟨x, y, hx, hy, hxy⟩ := h
  exact ⟨x, y, by rw [ht.other ha, hx], by rw [ht.other hb, hy], hxy⟩

theorem mayStandAhead_trans {s : State} {a b c : Nat} (h : mayStandAhead s a b) (k : mayStandAhead s b c) :
    mayStandAhead s a c := by
  obtain ⟨x, y, hx, hy, hxy⟩ := h
  obtain ⟨y', z, hy', hz, hyz⟩ := k
  obtain rfl : y = y' := Option.some.inj (hy.symm.trans hy')
  exact ⟨x, z, hx, hz, by omega⟩

/-- The rest of the queue stays in order when one entry of the table changes. -/
theorem pairwise_erase {s t : State} {j : Nat} {e : Option Job} (ht : EntryBecomes j e s t)
    (h : MountQueueRight s) : (s.mountQueue.entries.erase j).Pairwise (mayStandAhead t) := by
  obtain ⟨hn, -, hp⟩ := h
  refine (hp.sublist List.erase_sublist).imp_of_mem fun ha hb hab => mayStandAhead_of_other ht ?_ ?_ hab
  · exact (hn.mem_erase_iff.1 ha).1
  · exact (hn.mem_erase_iff.1 hb).1

/-- A job that is not QUEUED afterwards has left the queue, if it was in it (R7). -/
theorem mountQueueRight_leave {s t : State} {j : Nat} {e : Option Job} (ht : EntryBecomes j e s t)
    (hq : ∀ y, e = some y → y.state ≠ .queued)
    (he : t.mountQueue.entries = s.mountQueue.entries.erase j) (h : MountQueueRight s) :
    MountQueueRight t := by
  have hp := pairwise_erase ht h
  obtain ⟨hn, hm, -⟩ := h
  refine ⟨he ▸ hn.erase j, fun i => ?_, he ▸ hp⟩
  rw [he, hn.mem_erase_iff, hm]
  by_cases hi : i = j
  · subst hi
    simp only [ne_eq, not_true, false_and, false_iff, ht.same]
    rintro ⟨y, hy, hs⟩
    exact hq y hy hs
  · simp [hi, ht.other hi]

theorem mem_placedIn {s : State} {j p n i : Nat} {es : List Nat} :
    i ∈ placedIn s j p n es ↔ i = j ∨ i ∈ es := by
  conv_rhs => rw [← List.takeWhile_append_dropWhile (p := aheadOf s p n) (l := es)]
  simp only [placedIn, List.mem_append, List.mem_cons]
  tauto

theorem nodup_placedIn {s : State} {j p n : Nat} {es : List Nat} (h : es.Nodup) (hj : j ∉ es) :
    (placedIn s j p n es).Nodup := by
  have hperm : (placedIn s j p n es).Perm (j :: es) := by
    conv_rhs => rw [← List.takeWhile_append_dropWhile (p := aheadOf s p n) (l := es)]
    exact List.perm_middle
  exact hperm.nodup_iff.2 (List.nodup_cons.2 ⟨hj, h⟩)

/-- An entry that stays ahead of a job may stand ahead of it. -/
theorem mayStandAhead_of_aheadOf {s : State} {j i : Nat} {y : Job} (hy : s.job? j = some y)
    (h : aheadOf s y.priority (y.commitNumber.getD 0) i = true) : mayStandAhead s i j := by
  unfold aheadOf at h
  cases hx : s.job? i with
  | none => simp [hx] at h
  | some x =>
    simp only [hx, Option.any_some, decide_eq_true_eq] at h
    exact ⟨x, y, hx, hy, by omega⟩

/-- A job may stand ahead of an entry that does not stay ahead of it. -/
theorem mayStandAhead_of_not_aheadOf {s : State} {j i : Nat} {x y : Job} (hy : s.job? j = some y)
    (hx : s.job? i = some x) (h : ¬ aheadOf s y.priority (y.commitNumber.getD 0) i = true) :
    mayStandAhead s j i := by
  simp only [aheadOf, hx, Option.any_some, decide_eq_true_eq] at h
  exact ⟨y, x, hy, hx, by omega⟩

/-- A job placed behind the entries that stay ahead of it leaves the queue in order (R7). -/
theorem pairwise_placedIn {s : State} {j : Nat} {y : Job} {es : List Nat} (hy : s.job? j = some y)
    (hes : ∀ i ∈ es, ∃ x, s.job? i = some x) (hp : es.Pairwise (mayStandAhead s)) :
    (placedIn s j y.priority (y.commitNumber.getD 0) es).Pairwise (mayStandAhead s) := by
  unfold placedIn
  induction es with
  | nil => simp
  | cons e es ih =>
    obtain ⟨he, hp'⟩ := List.pairwise_cons.1 hp
    by_cases ha : aheadOf s y.priority (y.commitNumber.getD 0) e = true
    · rw [List.takeWhile_cons_of_pos ha, List.dropWhile_cons_of_pos ha, List.cons_append,
        List.pairwise_cons]
      refine ⟨fun i hi => ?_, ih (fun i hi => hes i (List.mem_cons_of_mem _ hi)) hp'⟩
      rcases mem_placedIn.1 hi with rfl | hi
      · exact mayStandAhead_of_aheadOf hy ha
      · exact he i hi
    · rw [List.takeWhile_cons_of_neg ha, List.dropWhile_cons_of_neg ha, List.nil_append,
        List.pairwise_cons]
      obtain ⟨x, hx⟩ := hes e (List.mem_cons_self ..)
      have hje := mayStandAhead_of_not_aheadOf hy hx ha
      refine ⟨fun i hi => ?_, hp⟩
      rcases List.mem_cons.1 hi with rfl | hi
      · exact hje
      · exact mayStandAhead_trans hje (he i hi)

/-- A job that is QUEUED afterwards stands at the place its priority and commit number give (R7, R22). -/
theorem mountQueueRight_join {s t : State} {j : Nat} {y : Job} (ht : EntryBecomes j (some y) s t)
    (hq : y.state = .queued)
    (he : t.mountQueue.entries =
      placedIn t j y.priority (y.commitNumber.getD 0) (s.mountQueue.entries.erase j))
    (h : MountQueueRight s) : MountQueueRight t := by
  have hp := pairwise_erase ht h
  obtain ⟨hn, hm, -⟩ := h
  have hmem : ∀ i, i ∈ s.mountQueue.entries.erase j ↔ i ≠ j ∧ ∃ x, s.job? i = some x ∧ x.state = .queued :=
    fun i => by rw [hn.mem_erase_iff, hm]
  refine ⟨?_, fun i => ?_, ?_⟩
  · rw [he]
    exact nodup_placedIn (hn.erase j) fun hj => ((hmem j).1 hj).1 rfl
  · rw [he, mem_placedIn, hmem]
    by_cases hi : i = j
    · subst hi
      simp [ht.same, hq]
    · simp [hi, ht.other hi]
  · rw [he]
    refine pairwise_placedIn ht.same (fun i hi => ?_) hp
    obtain ⟨hij, x, hx, -⟩ := (hmem i).1 hi
    exact ⟨x, by rw [ht.other hij, hx]⟩

/-! ### One MOUNTED job, one ACTIVE leg (R12) -/

/-- No leg of a job is ACTIVE. -/
def noActive (x : Job) : Prop := ∀ g ∈ x.legs, g.state ≠ .active

theorem hasActive_eq_false_iff (x : Job) : x.hasActive = false ↔ noActive x := by
  simp [Job.hasActive, noActive, List.any_eq_false]

theorem hasActive_eq_true_iff (x : Job) : x.hasActive = true ↔ ∃ g ∈ x.legs, g.state = .active := by
  simp [Job.hasActive]

theorem noActive_of_terminal {x : Job} (h : ∀ g ∈ x.legs, g.state.terminal = true) : noActive x := by
  intro g hg ha
  have := h g hg
  simp [ha, LegState.terminal] at this

theorem not_legIsActive_of_noActive {s : State} {j : Nat} {x : Job} (hx : s.job? j = some x)
    (h : noActive x) (l : Nat) : ¬ legIsActive s j l := by
  rintro ⟨g, hg, ha⟩
  obtain ⟨x', hx', hl⟩ := Option.bind_eq_some_iff.1 hg
  obtain rfl : x = x' := Option.some.inj (hx.symm.trans hx')
  exact h g (List.mem_of_getElem? hl) ha

/-- Only the MOUNTED job has an ACTIVE leg (R12). -/
theorem noActive_of_not_mounted {s : State} (h : OneMountedOneActive s) {j : Nat} {x : Job}
    (hx : s.job? j = some x) (hm : x.state ≠ .mounted) : noActive x := by
  intro g hg ha
  obtain ⟨l, hl⟩ := List.getElem?_of_mem hg
  obtain ⟨x', hx', hm'⟩ := h.2.1 j l ⟨g, leg_of_job hx hl, ha⟩
  obtain rfl : x = x' := Option.some.inj (hx.symm.trans hx')
  exact hm hm'

/-- The ACTIVE legs of the other entries stay when an entry becomes one with none. -/
theorem legIsActive_of_entryBecomes {s t : State} {j : Nat} {e : Option Job} (ht : EntryBecomes j e s t)
    (ha : ∀ y, e = some y → noActive y) {i l : Nat} (h : legIsActive t i l) :
    i ≠ j ∧ legIsActive s i l := by
  have hi : i ≠ j := by
    rintro rfl
    cases e with
    | none =>
      obtain ⟨g, hg, -⟩ := h
      simp [State.leg?, ht.same] at hg
    | some y => exact not_legIsActive_of_noActive ht.same (ha y rfl) l h
  obtain ⟨g, hg, hga⟩ := h
  exact ⟨hi, g, by rwa [State.leg?, ht.other hi] at hg, hga⟩

/-- A job that is not MOUNTED afterwards and has no ACTIVE leg leaves R12 as it was. -/
theorem oneMountedOneActive_retire {s t : State} {j : Nat} {e : Option Job} (ht : EntryBecomes j e s t)
    (hm : ∀ y, e = some y → y.state ≠ .mounted) (ha : ∀ y, e = some y → noActive y)
    (h : OneMountedOneActive s) : OneMountedOneActive t := by
  obtain ⟨h1, h2, h3⟩ := h
  have keep : ∀ {i y}, t.job? i = some y → y.state = .mounted → i ≠ j ∧ s.job? i = some y := by
    intro i y hy hs
    have hi : i ≠ j := by
      rintro rfl
      exact hm y (ht.same.symm.trans hy) hs
    exact ⟨hi, (ht.other hi).symm.trans hy⟩
  refine ⟨fun i k x y hx hy hmx hmy => ?_, fun i l hl => ?_, fun i l k m hl hm => ?_⟩
  · exact h1 i k x y (keep hx hmx).2 (keep hy hmy).2 hmx hmy
  · obtain ⟨hi, hl'⟩ := legIsActive_of_entryBecomes ht ha hl
    rw [ht.other hi]
    exact h2 i l hl'
  · exact h3 i l k m (legIsActive_of_entryBecomes ht ha hl).2 (legIsActive_of_entryBecomes ht ha hm).2

/-- A job is MOUNTED when none was (R10, R12). -/
theorem oneMountedOneActive_mount {s t : State} {j : Nat} {y : Job} (ht : EntryBecomes j (some y) s t)
    (hn : ∀ i x, s.job? i = some x → x.state ≠ .mounted) (ha : noActive y)
    (h : OneMountedOneActive s) : OneMountedOneActive t := by
  obtain ⟨-, h2, -⟩ := h
  have only : ∀ {i x}, t.job? i = some x → x.state = .mounted → i = j := by
    intro i x hx hs
    by_contra hi
    exact hn i x ((ht.other hi).symm.trans hx) hs
  have none : ∀ {i l}, ¬ legIsActive t i l := by
    intro i l hl
    obtain ⟨-, hl'⟩ := legIsActive_of_entryBecomes ht (fun z hz => Option.some.inj hz ▸ ha) hl
    obtain ⟨x, hx, hs⟩ := h2 i l hl'
    exact hn i x hx hs
  exact ⟨fun i k _ _ hx hy hmx hmy => (only hx hmx).trans (only hy hmy).symm,
    fun i l hl => absurd hl none, fun i l k m hl _ => absurd hl none⟩

end Sys2Proof.PictureJobs

/-! The operations of the blocks that write the job table or the mount queue, each by that relation. -/

namespace Sys2Proof.PictureJobs
open Machine Laws

variable {s₀ s : State}

@[simp] theorem ite_kept {c : Prop} [Decidable c] {t : State} (h : TableFrom s₀ (table s))
    (k : TableFrom s₀ (table t)) : TableFrom s₀ (table (if c then s else t)) := by
  split
  · exact h
  · exact k

/-! ### The slip unit writes the slip owed flag alone (R154, R158) -/

@[simp] theorem createSlip_table (j l : Nat) (s : State) : table (createSlip j l s) = table s := by
  unfold createSlip; split <;> simp

@[simp] theorem handOver_kept (j l : Nat) (h : TableFrom s₀ (table s)) :
    TableFrom s₀ (table (handOver j l s)) := by
  unfold handOver
  split
  · simpa using h
  · exact modLeg_goesOn (fun g _ => legGoesOn_slipOwed g true) (by simpa using h)

@[simp] theorem createOwed_kept (h : TableFrom s₀ (table s)) : TableFrom s₀ (table (createOwed s)) := by
  unfold createOwed
  split
  · exact h
  · exact modLeg_goesOn (fun g _ => legGoesOn_slipOwed g false) (by simpa using h)

@[simp] theorem removeSlip_kept (n : Nat) (h : TableFrom s₀ (table s)) :
    TableFrom s₀ (table (removeSlip n s)) := by simp [removeSlip, h]

@[simp] theorem removalTest_kept (n : Nat) (h : TableFrom s₀ (table s)) :
    TableFrom s₀ (table (removalTest n s)) := by
  unfold removalTest; (repeat' split) <;> simp [h]

@[simp] theorem slipEnd_kept (p : Printing) (h : TableFrom s₀ (table s)) :
    TableFrom s₀ (table (slipEnd p s)) := by
  unfold slipEnd; dsimp only; split <;> simp [h]

@[simp] theorem strobe_kept (p : Printing) (b : Byte) (h : TableFrom s₀ (table s)) :
    TableFrom s₀ (table (strobe p b s)) := by
  unfold strobe; dsimp only; (repeat' split) <;> simp [h]

@[simp] theorem printStep_kept (paperOut busy : Bool) (p : Printing) (ch : Byte)
    (h : TableFrom s₀ (table s)) : TableFrom s₀ (table (printStep paperOut busy p ch s)) := by
  unfold printStep; dsimp only; (repeat' split) <;> simp [h]

@[simp] theorem collect_kept (r : SlipRec) (h : TableFrom s₀ (table s)) :
    TableFrom s₀ (table (collect r s)) := by simp [collect, h]

@[simp] theorem collectionOff_kept (h : TableFrom s₀ (table s)) :
    TableFrom s₀ (table (collectionOff s)) := by
  unfold collectionOff
  have start : TableFrom s₀ (table (s.setSlips { s.slips with collection := false })) := by simpa using h
  generalize s.setSlips { s.slips with collection := false } = u at start ⊢
  generalize List.map _ _ = ns
  induction ns generalizing u with
  | nil => exact start
  | cons n ns ih => exact ih _ (removeSlip_kept n start)

/-! ### Legs of a job -/

/-- Reading a leg after it was changed. -/
theorem leg?_modLeg {j l : Nat} {g : Leg} (f : Leg → Leg) (hg : s.leg? j l = some g) :
    (s.modLeg j l f).leg? j l = some (f g) := by
  obtain ⟨x, hx, hl⟩ := Option.bind_eq_some_iff.1 hg
  obtain ⟨hlt, -⟩ := List.getElem?_eq_some_iff.1 hl
  rw [modLeg_eq f hx hl]
  exact leg_of_job (x := { x with legs := x.legs.set l (f g) })
    (by rw [job_setJob _ _ _ _ (job_lt hx), if_pos rfl]) (by simp [hlt])

/-- A leg reaches a terminal state (R16): one that has not ended yet becomes one that is not ACTIVE. -/
theorem legTerminal_kept {j l : Nat} {st : LegState} (hst : st ≠ .active)
    (hg : ∀ g, s.leg? j l = some g → g.state.terminal = false) (h : TableFrom s₀ (table s)) :
    TableFrom s₀ (table (legTerminal j l st s)) := by
  unfold legTerminal
  split
  next x g hx hl =>
    have changed : TableFrom s₀ (table (s.modLeg j l fun y =>
        { y with state := st, endTime := some s.stamp, notBefore := none })) :=
      modLeg_goesOn (fun y hy => legGoesOn_of_not_active (hg y hy) hst) h
    dsimp only
    split <;> simp [changed]
  next => exact h

theorem terminal_eq_false_of_waiting {g : Leg} (h : g.state.waiting = true) : g.state.terminal = false := by
  revert h; cases g.state <;> simp [LegState.waiting, LegState.terminal]

@[simp] theorem cancelWaiting_kept (j : Nat) (h : TableFrom s₀ (table s)) :
    TableFrom s₀ (table (cancelWaiting j s)) := by
  unfold cancelWaiting
  generalize List.range _ = ls
  induction ls generalizing s with
  | nil => exact h
  | cons l ls ih =>
    refine ih ?_
    dsimp only
    split
    next hw =>
      refine legTerminal_kept (by decide) (fun g hg => ?_) h
      exact terminal_eq_false_of_waiting (by simpa [hg] using hw)
    next => exact h

@[simp] theorem modActive_kept (f : Leg → Leg) (h : TableFrom s₀ (table s)) :
    TableFrom s₀ (table (modActive f s)) := by
  unfold modActive
  split
  · refine modLeg_goesOn (fun g _ => ?_) h
    split
    next ha => exact legGoesOn_of_active _ ha
    next => exact ⟨fun _ => rfl, id⟩
  · exact h

@[simp] theorem noteEvent_kept (k : NoteKind) (h : TableFrom s₀ (table s)) :
    TableFrom s₀ (table (noteEvent k s)) := modActive_kept _ h

@[simp] theorem lineSentEvent_kept (h : TableFrom s₀ (table s)) :
    TableFrom s₀ (table (lineSentEvent s)) := modActive_kept _ h

/-- A leg that has not ended is changed and reaches a terminal state. -/
theorem legTerminal_modLeg_kept {j l : Nat} {g : Leg} {st : LegState} {f : Leg → Leg}
    (hst : st ≠ .active) (hg : s.leg? j l = some g) (hf : (f g).state.terminal = false)
    (h : TableFrom s₀ (table (s.modLeg j l f))) :
    TableFrom s₀ (table (legTerminal j l st (s.modLeg j l f))) := by
  refine legTerminal_kept hst (fun y hy => ?_) h
  rw [leg?_modLeg f hg] at hy
  rwa [← Option.some.inj hy]

theorem Delivery.legState_ne_active (o : Delivery) : o.legState ≠ .active := by cases o <;> decide

/-- The result of a call, applied to its ACTIVE leg (R15). -/
theorem applyResult_kept {j l : Nat} {x : Job} {g : Leg} (res : LegResult) (hg : s.leg? j l = some g)
    (ha : g.state = .active) (h : TableFrom s₀ (table s)) :
    TableFrom s₀ (table (applyResult j l x g res s)) := by
  have only : ∀ y, s.leg? j l = some y → y.state = .active := fun y hy => by
    rw [← Option.some.inj (hg.symm.trans hy)]; exact ha
  have hgt : g.state.terminal = false := by rw [ha]; rfl
  unfold applyResult
  cases res with
  | delivered o ab gb =>
    exact legTerminal_modLeg_kept (Delivery.legState_ne_active o) hg hgt
      (modLeg_goesOn (fun y hy => legGoesOn_of_active _ (only y hy)) h)
  | cancelled =>
    refine legTerminal_kept (by decide) (fun y hy => ?_) h
    rw [only y hy]; rfl
  | reason r mf =>
    have noted : TableFrom s₀ (table (s.modLeg j l fun y => { y with lastReason := some r })) :=
      modLeg_goesOn (fun y hy => legGoesOn_of_active _ (only y hy)) h
    dsimp only
    split
    · exact legTerminal_modLeg_kept (by decide) hg hgt noted
    · split
      · exact legTerminal_modLeg_kept (by decide) hg hgt noted
      · split
        · refine modLeg_goesOn (fun y hy => legGoesOn_of_active _ ?_) noted
          rw [leg?_modLeg _ hg] at hy
          rw [← Option.some.inj hy]
          exact ha
        · exact legTerminal_modLeg_kept (by decide) hg hgt noted

/-! ### The end of a job (R18, R19) -/

/-- The end of a job, in terms of its entry and the queue. -/
theorem endJob_eq {j : Nat} {x : Job} (st : JobState) (hx : s.job? j = some x) :
    endJob j st s =
      let t := (s.setJob j (some { x with state := st })).causeJob x.owner
      if x.state = .queued then queueBecomes (t.mountQueue.entries.erase j) t else t := by
  simp only [endJob, hx, setJobState_eq s j x st hx, leaveQueue, setEntries_eq]

theorem queueBecomes_entries (es : List Nat) (s : State) : (queueBecomes es s).mountQueue.entries = es := by
  unfold queueBecomes
  dsimp only
  split <;> rfl

theorem causeJob_entries (s : State) (o : Link) :
    (s.causeJob o).mountQueue.entries = s.mountQueue.entries :=
  (table_eq_iff.1 (causeJob_table s o)).2

theorem entries_erase_of_not_queued {j : Nat} {x : Job} (h : MountQueueRight s) (hx : s.job? j = some x)
    (hq : x.state ≠ .queued) : s.mountQueue.entries.erase j = s.mountQueue.entries := by
  refine List.erase_of_not_mem fun hj => ?_
  obtain ⟨y, hy, hs⟩ := (h.2.1 j).1 hj
  obtain rfl : x = y := Option.some.inj (hx.symm.trans hy)
  exact hq hs

/-- A job ends in a state that is neither QUEUED nor MOUNTED, with no leg ACTIVE. -/
theorem endJob_tableKept {j : Nat} {x : Job} {st : JobState} (hx : s.job? j = some x)
    (hq : st ≠ .queued) (hm : st ≠ .mounted) (ha : noActive x) : TableKept s (endJob j st s) := by
  have ht : EntryBecomes j (some { x with state := st }) s (endJob j st s) := by
    intro i
    rw [endJob_eq st hx]
    dsimp only
    split
    · rw [queueBecomes_job, State.causeJob, cause_job, job_setJob _ _ _ _ (job_lt hx)]
    · rw [State.causeJob, cause_job, job_setJob _ _ _ _ (job_lt hx)]
  refine ⟨lasts_of_entryBecomes ht fun y hy => ?_, fun h => ?_, fun h => ?_⟩
  · obtain rfl : x = y := Option.some.inj (hx.symm.trans hy)
    exact ⟨rfl, rfl, rfl, rfl, rfl, rfl, rfl, fun _ g hg _ => ⟨g, hg, rfl⟩⟩
  · refine mountQueueRight_leave ht (fun y hy => Option.some.inj hy ▸ hq) ?_ h
    rw [endJob_eq st hx]
    dsimp only
    split
    · rw [queueBecomes_entries, causeJob_entries]; rfl
    next hs => rw [entries_erase_of_not_queued h hx hs, causeJob_entries]; rfl
  · exact oneMountedOneActive_retire ht (fun y hy => Option.some.inj hy ▸ hm)
      (fun y hy => Option.some.inj hy ▸ ha) h

theorem jobVerdict_terminal (x : Job) : (jobVerdict x).terminal = true := by
  unfold jobVerdict; (repeat' split) <;> rfl

theorem jobEndTest_tableKept (j : Nat) (s : State) : TableKept s (jobEndTest j s) := by
  unfold jobEndTest
  split
  next x hx =>
    split
    next hd =>
      have ht := jobVerdict_terminal x
      simp only [jobEndDue, Bool.and_eq_true, List.all_eq_true] at hd
      refine endJob_tableKept hx ?_ ?_ (noActive_of_terminal hd.2) <;>
        · intro hc; rw [hc] at ht; simp [JobState.terminal] at ht
    next => exact .refl s
  next => exact .refl s

@[simp] theorem jobEndTest_kept (j : Nat) (h : TableFrom s₀ (table s)) :
    TableFrom s₀ (table (jobEndTest j s)) := h.step (jobEndTest_tableKept j s)

/-! ### The end of a call (R15, R144) and what asks for it -/

@[simp] theorem endEvent_kept (j l : Nat) (res : LegResult) (h : TableFrom s₀ (table s)) :
    TableFrom s₀ (table (endEvent j l res s)) := by
  unfold endEvent
  split
  next x g hx hg =>
    split
    next ha => simp [applyResult_kept res hg ha h]
    next => exact h
  next => exact h

@[simp] theorem callEnd_kept (res : LegResult) (loopLoss : Bool) (h : TableFrom s₀ (table s)) :
    TableFrom s₀ (table (callEnd res loopLoss s)) := by
  unfold callEnd; dsimp only; (repeat' split) <;> simp [h]

@[simp] theorem bridgeEntry_kept (h : TableFrom s₀ (table s)) : TableFrom s₀ (table (bridgeEntry s)) := by
  simp [bridgeEntry, h]

@[simp] theorem lineLamp_kept (h : TableFrom s₀ (table s)) : TableFrom s₀ (table (lineLamp s)) := by
  unfold lineLamp; split <;> simp [h]

@[simp] theorem lineFault_kept (h : TableFrom s₀ (table s)) : TableFrom s₀ (table (lineFault s)) := by
  unfold lineFault; (repeat' split) <;> simp [h]

@[simp] theorem lineLost_kept (h : TableFrom s₀ (table s)) : TableFrom s₀ (table (lineLost s)) := by
  unfold lineLost; split <;> simp [h]

@[simp] theorem lineSlipRev_kept (h : TableFrom s₀ (table s)) : TableFrom s₀ (table (lineSlipRev s)) := by
  unfold lineSlipRev; split <;> simp [h]

@[simp] theorem abortCall_kept (h : TableFrom s₀ (table s)) : TableFrom s₀ (table (abortCall s)) := by
  unfold abortCall; (repeat' split) <;> simp [h]

@[simp] theorem takeSymbol_kept (k : KeySym) (h : TableFrom s₀ (table s)) :
    TableFrom s₀ (table (takeSymbol k s)) := by
  unfold takeSymbol; dsimp only; (repeat' split) <;> simp [h]

@[simp] theorem endSeize_kept (loop : Bool) (h : TableFrom s₀ (table s)) :
    TableFrom s₀ (table (endSeize loop s)) := by
  unfold endSeize; dsimp only; (repeat' split) <;> simp [h]

@[simp] theorem endStopTime_kept (h : TableFrom s₀ (table s)) : TableFrom s₀ (table (endStopTime s)) := by
  unfold endStopTime; (repeat' split) <;> simp [h]

@[simp] theorem endWindow_kept (h : TableFrom s₀ (table s)) : TableFrom s₀ (table (endWindow s)) := by
  unfold endWindow; split <;> simp [h]

@[simp] theorem loseLoop_kept (h : TableFrom s₀ (table s)) : TableFrom s₀ (table (loseLoop s)) := by
  unfold loseLoop; (repeat' split) <;> simp [h]

/-! ### The scanner and the modulator report to the job table and the line -/

@[simp] theorem lampFailure_kept (h : TableFrom s₀ (table s)) : TableFrom s₀ (table (lampFailure s)) := by
  simp [lampFailure, h]

@[simp] theorem whiteDone_kept (meas : Nat) (h : TableFrom s₀ (table s)) :
    TableFrom s₀ (table (whiteDone meas s)) := by
  unfold whiteDone; dsimp only; split <;> simp [h]

@[simp] theorem lampHold_kept (h : TableFrom s₀ (table s)) : TableFrom s₀ (table (lampHold s)) := by
  unfold lampHold; dsimp only; split <;> simp [h]

@[simp] theorem trackDone_kept (meas : Nat) (h : TableFrom s₀ (table s)) :
    TableFrom s₀ (table (trackDone meas s)) := by
  unfold trackDone; dsimp only; split <;> simp [h]

@[simp] theorem shortLine_kept (h : TableFrom s₀ (table s)) : TableFrom s₀ (table (shortLine s)) := by
  unfold shortLine; split <;> simp [h]

@[simp] theorem trackSample_kept (samples k r : Nat) (h : TableFrom s₀ (table s)) :
    TableFrom s₀ (table (trackSample samples k r s)) := by
  unfold trackSample; dsimp only; (repeat' split) <;> simp [h]

@[simp] theorem whiteSample_kept (samples k r : Nat) (h : TableFrom s₀ (table s)) :
    TableFrom s₀ (table (whiteSample samples k r s)) := by
  unfold whiteSample; dsimp only; (repeat' split) <;> simp [h]

@[simp] theorem scanSample_kept (k r : Nat) (h : TableFrom s₀ (table s)) :
    TableFrom s₀ (table (scanSample k r s)) := by
  unfold scanSample; dsimp only; (repeat' split) <;> simp [h]

@[simp] theorem scanIndex_kept (h : TableFrom s₀ (table s)) : TableFrom s₀ (table (scanIndex s)) := by
  unfold scanIndex; dsimp only; split <;> simp [h]

@[simp] theorem spanDecision_kept (h : TableFrom s₀ (table s)) : TableFrom s₀ (table (spanDecision s)) := by
  unfold spanDecision; (repeat' split) <;> simp [h]

@[simp] theorem modPosition_kept (k : Nat) (h : TableFrom s₀ (table s)) :
    TableFrom s₀ (table (modPosition k s)) := by
  unfold modPosition; dsimp only; (repeat' split) <;> simp [h]

@[simp] theorem endSend_kept (h : TableFrom s₀ (table s)) : TableFrom s₀ (table (endSend s)) := by
  unfold endSend; dsimp only; (repeat' split) <;> simp [h]

@[simp] theorem modSpanEnd_kept (h : TableFrom s₀ (table s)) : TableFrom s₀ (table (modSpanEnd s)) := by
  unfold modSpanEnd; dsimp only; split <;> simp [h]

@[simp] theorem modRevolution_kept (h : TableFrom s₀ (table s)) :
    TableFrom s₀ (table (modRevolution s)) := by
  unfold modRevolution; split <;> simp [h]

@[simp] theorem beginPosition_kept (k sample : Nat) (h : TableFrom s₀ (table s)) :
    TableFrom s₀ (table (beginPosition k sample s)) := by simp [beginPosition, h]

@[simp] theorem spanEndReport_kept (h : TableFrom s₀ (table s)) :
    TableFrom s₀ (table (spanEndReport s)) := by simp [spanEndReport, h]

@[simp] theorem indexSpanEnd_kept (h : TableFrom s₀ (table s)) : TableFrom s₀ (table (indexSpanEnd s)) := by
  unfold indexSpanEnd; split <;> simp [h]

@[simp] theorem timerIndex_kept (period : Option Nat) (scan phase : Bool) (sample : Nat)
    (h : TableFrom s₀ (table s)) : TableFrom s₀ (table (timerIndex period scan phase sample s)) := by
  have measured : TableFrom s₀ (table (startRevolution (indexSpanEnd (holdPeriod period s)))) := by
    simp [h]
  have scanned : TableFrom s₀ (table (if scan then
      scanIndex (startRevolution (indexSpanEnd (holdPeriod period s)))
    else startRevolution (indexSpanEnd (holdPeriod period s)))) :=
    ite_kept (scanIndex_kept measured) measured
  have ended := modRevolution_kept scanned
  unfold timerIndex
  refine ite_kept (beginPosition_kept _ _ (ite_kept ?_ ended)) ?_
  · simpa only [modPhasingIndex_table] using ended
  · simpa using h

@[simp] theorem takePulse_kept (sample : Nat) (h : TableFrom s₀ (table s)) :
    TableFrom s₀ (table (takePulse sample s)) := by
  unfold takePulse; (repeat' split) <;> simp [h]

/-! ### The drum reports to the line -/

@[simp] theorem reportLost_kept (h : TableFrom s₀ (table s)) : TableFrom s₀ (table (reportLost s)) := by
  simp [reportLost, h]

@[simp] theorem drumLost_kept (h : TableFrom s₀ (table s)) : TableFrom s₀ (table (drumLost s)) := by
  simp [drumLost, h]

@[simp] theorem reportFault_kept (h : TableFrom s₀ (table s)) : TableFrom s₀ (table (reportFault s)) := by
  simp [reportFault, h]

@[simp] theorem drumFault_kept (c : Option FaultCause) (h : TableFrom s₀ (table s)) :
    TableFrom s₀ (table (drumFault c s)) := by simp [drumFault, h]

@[simp] theorem slipIndex_kept (r : Rpm) (e : Int) (h : TableFrom s₀ (table s)) :
    TableFrom s₀ (table (slipIndex r e s)) := by
  unfold slipIndex; dsimp only; (repeat' split) <;> simp [h]

@[simp] theorem drumIndex_kept (h : TableFrom s₀ (table s)) : TableFrom s₀ (table (drumIndex s)) := by
  unfold drumIndex; dsimp only; (repeat' split) <;> simp [h]

@[simp] theorem demandDrum_kept (k : Demand) (r : Rpm) (h : TableFrom s₀ (table s)) :
    TableFrom s₀ (table (demandDrum k r s)) := by
  unfold demandDrum; dsimp only; (repeat' split) <;> simp [h]

@[simp] theorem giveSpeed_kept (r : Rpm) (h : TableFrom s₀ (table s)) :
    TableFrom s₀ (table (giveSpeed r s)) := by
  unfold giveSpeed; split <;> simp [h]

@[simp] theorem openCover_kept (h : TableFrom s₀ (table s)) : TableFrom s₀ (table (openCover s)) := by
  unfold openCover; dsimp only; (repeat' split) <;> simp [h]

@[simp] theorem takeIndex_kept (sample : Nat) (drumFirst : Bool) (h : TableFrom s₀ (table s)) :
    TableFrom s₀ (table (takeIndex sample drumFirst s)) := by
  unfold takeIndex; dsimp only; split <;> simp [h]

/-! ### The arbiter (R12, R123, R124) -/

/-- A claim that is taken: the job is MOUNTED, no leg of it is ACTIVE, and the leg has not ended (R12). -/
theorem claimTaken_iff {j l : Nat} : claimTaken s j l = true ↔
    ∃ x g, s.job? j = some x ∧ x.legs[l]? = some g ∧ x.state = .mounted ∧ x.cancelPending = false ∧
      noActive x ∧ legEligible s.stamp g = true := by
  unfold claimTaken
  constructor
  · intro h
    split at h
    next x g hx hg =>
      obtain ⟨x', hx', hl⟩ := Option.bind_eq_some_iff.1 hg
      obtain rfl : x = x' := Option.some.inj (hx.symm.trans hx')
      simp only [Bool.and_eq_true, beq_iff_eq, Bool.not_eq_true', hasActive_eq_false_iff] at h
      obtain ⟨⟨⟨hm, hc⟩, ha⟩, he⟩ := h
      exact ⟨x, g, hx, hl, hm, hc, ha, he⟩
    next => simp at h
  · rintro ⟨x, g, hx, hl, hm, hc, ha, he⟩
    simp [hx, leg_of_job hx hl, hm, hc, he, (hasActive_eq_false_iff x).2 ha]

theorem terminal_eq_false_of_legEligible {now : Stamp} {g : Leg} (h : legEligible now g = true) :
    g.state.terminal = false := by
  rcases (legEligible_iff now g).1 h with hs | ⟨hs, -⟩ <;> rw [hs] <;> rfl

/-- A claim that is taken makes one leg of the MOUNTED job ACTIVE where none was (R12). -/
theorem takeClaim_tableKept {j l : Nat} (h : claimTaken s j l = true) :
    TableKept s (takeClaim j l s) := by
  obtain ⟨x, g, hx, hl, hm, -, ha, he⟩ := claimTaken_iff.1 h
  obtain ⟨hlt, -⟩ := List.getElem?_eq_some_iff.1 hl
  have hgt := terminal_eq_false_of_legEligible he
  generalize hb : ({ g with state := .active, notBefore := none } : Leg) = b
  have htk : takeClaim j l s = s.setJob j (some { x with legs := x.legs.set l b }) := by
    rw [takeClaim, modLeg_eq _ hx hl, hb]
  have ht : EntryBecomes j (some { x with legs := x.legs.set l b }) s (takeClaim j l s) :=
    htk ▸ entryBecomes_setJob _ (job_lt hx)
  have hent : (takeClaim j l s).mountQueue.entries = s.mountQueue.entries := by rw [htk]; rfl
  have back : ∀ {i y}, (takeClaim j l s).job? i = some y →
      ∃ z, s.job? i = some z ∧ z.state = y.state ∧ z.priority = y.priority ∧
        z.commitNumber = y.commitNumber := by
    intro i y hy
    by_cases hi : i = j
    · subst hi
      rw [ht.same] at hy
      obtain rfl := Option.some.inj hy
      exact ⟨x, hx, rfl, rfl, rfl⟩
    · exact ⟨y, (ht.other hi).symm.trans hy, rfl, rfl, rfl⟩
  have forth : ∀ {i z}, s.job? i = some z → ∃ y, (takeClaim j l s).job? i = some y ∧
      y.state = z.state ∧ y.priority = z.priority ∧ y.commitNumber = z.commitNumber := by
    intro i z hz
    by_cases hi : i = j
    · subst hi
      obtain rfl : x = z := Option.some.inj (hx.symm.trans hz)
      exact ⟨_, ht.same, rfl, rfl, rfl⟩
    · exact ⟨z, (ht.other hi).trans hz, rfl, rfl, rfl⟩
  refine ⟨lasts_of_entryBecomes ht fun y hy => ?_, fun ⟨hn, hmem, hp⟩ => ⟨hent ▸ hn, fun i => ?_, ?_⟩,
    fun hone => ?_⟩
  · obtain rfl : x = y := Option.some.inj (hx.symm.trans hy)
    refine ⟨rfl, rfl, rfl, rfl, rfl, rfl, rfl, fun k k' hk hkt => ⟨k', ?_, rfl⟩⟩
    have hne : l ≠ k := by
      rintro rfl
      rw [hl] at hk
      rw [← Option.some.inj hk, hgt] at hkt
      simp at hkt
    simpa [hne] using hk
  · rw [hent, hmem]
    constructor
    · rintro ⟨z, hz, hq⟩
      obtain ⟨y, hy, hs, -, -⟩ := forth hz
      exact ⟨y, hy, hs.trans hq⟩
    · rintro ⟨y, hy, hq⟩
      obtain ⟨z, hz, hs, -, -⟩ := back hy
      exact ⟨z, hz, hs.trans hq⟩
  · rw [hent]
    refine hp.imp fun ⟨z, w, hz, hw, hzw⟩ => ?_
    obtain ⟨z', hz', -, hp1, hc1⟩ := forth hz
    obtain ⟨w', hw', -, hp2, hc2⟩ := forth hw
    exact ⟨z', w', hz', hw', by rwa [hp1, hc1, hp2, hc2]⟩
  · obtain ⟨h1, h2, -⟩ := hone
    have only : ∀ {i k}, legIsActive (takeClaim j l s) i k → i = j ∧ k = l := by
      rintro i k ⟨c, hc, hca⟩
      obtain ⟨y, hy, hk⟩ := Option.bind_eq_some_iff.1 hc
      by_cases hi : i = j
      · subst hi
        refine ⟨rfl, ?_⟩
        rw [ht.same] at hy
        obtain rfl := Option.some.inj hy
        by_contra hkl
        rw [List.getElem?_set_ne (Ne.symm hkl)] at hk
        exact ha c (List.mem_of_getElem? hk) hca
      · rw [ht.other hi] at hy
        obtain ⟨z, hz, hzm⟩ := h2 i k ⟨c, leg_of_job hy hk, hca⟩
        exact absurd (h1 i j z x hz hx hzm hm) hi
    refine ⟨fun i k y z hy hz hym hzm => ?_, fun i k hik => ?_, fun i k i' k' hik hik' => ?_⟩
    · obtain ⟨y', hy', hys, -, -⟩ := back hy
      obtain ⟨z', hz', hzs, -, -⟩ := back hz
      exact h1 i k y' z' hy' hz' (hys.trans hym) (hzs.trans hzm)
    · obtain ⟨rfl, -⟩ := only hik
      exact ⟨_, ht.same, hm⟩
    · obtain ⟨rfl, rfl⟩ := only hik
      obtain ⟨rfl, rfl⟩ := only hik'
      exact ⟨rfl, rfl⟩

/-- The claimed leg is ACTIVE. -/
theorem leg?_takeClaim {j l : Nat} {g : Leg} (h : (takeClaim j l s).leg? j l = some g)
    (hc : claimTaken s j l = true) : g.state = .active := by
  obtain ⟨x, g', hx, hl, -⟩ := claimTaken_iff.1 hc
  rw [takeClaim, leg?_modLeg _ (leg_of_job hx hl)] at h
  rw [← Option.some.inj h]

theorem beginCall_kept {j l : Nat} (x : Job) (g : Leg) (b : DialBuf)
    (ha : ∀ y, s.leg? j l = some y → y.state = .active) (h : TableFrom s₀ (table s)) :
    TableFrom s₀ (table (beginCall j l x g b s)) := by
  unfold beginCall
  dsimp only
  generalize ht : State.setDialBuf _ _ = t
  have htab : table t = table s := by rw [← ht]; rfl
  have attempted : TableFrom s₀ (table (attemptEvent j l t)) :=
    modLeg_goesOn (fun y hy => legGoesOn_of_active _ (ha y (leg?_of_table htab j l ▸ hy))) (htab ▸ h)
  split <;> simp [attempted]

@[simp] theorem noRouteEnd_kept (j l : Nat) (h : TableFrom s₀ (table s)) :
    TableFrom s₀ (table (noRouteEnd j l s)) := by simp [noRouteEnd, h]

@[simp] theorem arbiterLook_kept (n : Nat) (h : TableFrom s₀ (table s)) :
    TableFrom s₀ (table (arbiterLook n s)) := by
  induction n generalizing s with
  | zero => exact h
  | succ n ih =>
    unfold arbiterLook
    (repeat' split) <;> try (first | exact h | simpa using h)
    next hc _ b _ =>
      exact beginCall_kept _ _ b (fun y hy => leg?_takeClaim hy hc) (h.step (takeClaim_tableKept hc))
    next hc _ _ => exact ih (by simp [h.step (takeClaim_tableKept hc)])

@[simp] theorem prompt_kept (h : TableFrom s₀ (table s)) : TableFrom s₀ (table (prompt s)) :=
  arbiterLook_kept 5 h

end Sys2Proof.PictureJobs

/-! A change of one job in full: its frame, the slips handed over and the cause events (R16, R19, R25,
R154, R155). -/

namespace Sys2Proof.PictureJobs
open Machine Laws

/-! ### The frame of a change of one job -/

/-- `s` with what a change of a job or its legs may write taken from `t` (the frame of `onlyJob`). -/
def frameOf (s t : State) : State := { s with
  jobs := t.jobs, mountQueue := t.mountQueue, slips := t.slips, deskAttn := t.deskAttn
  panelAttn := t.panelAttn
  aux := { s.aux with charTime := t.aux.charTime, paperChecked := t.aux.paperChecked } }

theorem frameOf_trans {s t u : State} (h : t = frameOf s t) (k : u = frameOf t u) : u = frameOf s u :=
  calc u = frameOf t u := k
    _ = frameOf (frameOf s t) u := congrArg (frameOf · u) h
    _ = frameOf s u := rfl

theorem onlyJob_refl (j : Nat) (s : State) : onlyJob j s s := ⟨rfl, fun _ _ => rfl⟩

theorem onlyJob_trans {j : Nat} {s t u : State} (h : onlyJob j s t) (k : onlyJob j t u) : onlyJob j s u :=
  ⟨frameOf_trans h.1 k.1, fun i hi => (k.2 i hi).trans (h.2 i hi)⟩

theorem stamp_of_onlyJob {j : Nat} {s t : State} (h : onlyJob j s t) : t.stamp = s.stamp := by
  rw [h.1]; rfl

theorem onlyJob_setJob {j : Nat} (s : State) (e : Option Job) (h : j < 16) : onlyJob j s (s.setJob j e) :=
  ⟨rfl, fun i hi => by rw [job_setJob _ _ _ _ h, if_neg hi]⟩

/-- A cause event touches the attention alone. -/
theorem cause_frame (s : State) (c : Cause) (a b : Bool) : s.cause c a b =
    { s with deskAttn := (s.cause c a b).deskAttn, panelAttn := (s.cause c a b).panelAttn } := by
  cases a <;> cases b <;> rfl

theorem onlyJob_cause (j : Nat) (s : State) (c : Cause) (a b : Bool) : onlyJob j s (s.cause c a b) :=
  ⟨by rw [cause_frame s c a b], fun i _ => cause_job s c a b i⟩

/-! ### Cause events by link -/

/-- An attention record, and with `b` the cause latched on it (R180). -/
def latchIf (b : Bool) (c : Cause) (a : Attn) : Attn := if b then a.latch c else a

theorem jobCauses_desk (o : Link) (job slip queue : Bool) (s : State) :
    (jobCauses o job slip queue s).deskAttn =
      latchIf queue .queue (latchIf slip .slip (latchIf (job && o == .desk) .job s.deskAttn)) := by
  cases o <;> cases job <;> cases slip <;> cases queue <;> rfl

theorem jobCauses_panel (o : Link) (job slip queue : Bool) (s : State) :
    (jobCauses o job slip queue s).panelAttn =
      latchIf queue .queue (latchIf (slip && o == .panel) .slip (latchIf job .job s.panelAttn)) := by
  cases o <;> cases job <;> cases slip <;> cases queue <;> rfl

/-- How often a cause is sent, and in which order, does not matter (R180). -/
theorem latchIf_latchIf (a b a' b' : Bool) (c d : Cause) (t : Attn) :
    latchIf b' c (latchIf a' d (latchIf b c (latchIf a d t))) = latchIf (b || b') c (latchIf (a || a') d t) := by
  have hcd := latch_comm (t.latch d) c d
  cases a <;> cases b <;> cases a' <;> cases b' <;>
    simp [latchIf, latch_latch, latch_comm t c d, hcd]

theorem attnAs_jobCauses_trans {o : Link} {a b a' b' q : Bool} {s t u : State}
    (h : attnAs (jobCauses o a b false s) t) (k : attnAs (jobCauses o a' b' q t) u) :
    attnAs (jobCauses o (a || a') (b || b') q s) u := by
  obtain ⟨hd, hp⟩ := h
  obtain ⟨kd, kp⟩ := k
  simp only [jobCauses_desk, jobCauses_panel] at hd hp kd kp
  refine ⟨?_, ?_⟩
  · rw [jobCauses_desk, kd, hd, Bool.and_or_distrib_right, ← latchIf_latchIf]
    rfl
  · rw [jobCauses_panel, kp, hp, Bool.and_or_distrib_right, ← latchIf_latchIf]
    rfl

/-! ### Slips handed over (R154, R155) -/

theorem slipsHanded_nil (s t : State) (h : t.slips = s.slips) : slipsHanded [] s t :=
  ⟨[], [], by simp [h], by simp [h], rfl, by rw [h], by rw [h]⟩

theorem slipsHanded_length {legs : List (Nat × Nat)} {s t : State} (h : slipsHanded legs s t) :
    s.slips.queue.length ≤ t.slips.queue.length := by
  obtain ⟨new, owed, hq, -⟩ := h
  simp [hq]

/-- `slipsHanded`, with what lets two such hand-overs follow one another: a full queue takes no record, and
a slip is owed only once the queue is full (R154). -/
def slipsFit (legs : List (Nat × Nat)) (s t : State) : Prop :=
  ∃ (new : List SlipRec) (owed : List (Nat × Nat)),
    t.slips.queue = s.slips.queue ++ new ∧ t.slips.owed = s.slips.owed ++ owed ∧
    (new.map fun (r : SlipRec) => (r.job, r.leg)) ++ owed = legs ∧
    t.slips.copy = s.slips.copy ∧ t.slips.collection = s.slips.collection ∧
    (8 ≤ s.slips.queue.length → new = []) ∧ (owed ≠ [] → 8 ≤ t.slips.queue.length)

theorem slipsHanded_of_fit {legs : List (Nat × Nat)} {s t : State} (h : slipsFit legs s t) :
    slipsHanded legs s t := by
  obtain ⟨new, owed, hq, ho, hl, hc, hk, -⟩ := h
  exact ⟨new, owed, hq, ho, hl, hc, hk⟩

theorem slipsFit_nil {s t : State} (h : t.slips = s.slips) : slipsFit [] s t :=
  ⟨[], [], by simp [h], by simp [h], rfl, by rw [h], by rw [h], fun _ => rfl, fun k => absurd rfl k⟩

theorem slipsFit_trans {a b : List (Nat × Nat)} {s t u : State} (h : slipsFit a s t)
    (k : slipsFit b t u) : slipsFit (a ++ b) s u := by
  obtain ⟨new, owed, hq, ho, rfl, hc, hk, hn, hf⟩ := h
  obtain ⟨new', owed', kq, ko, rfl, kc, kk, kn, kf⟩ := k
  have full : owed ≠ [] → new' = [] := fun h => kn (hf h)
  refine ⟨new ++ new', owed ++ owed', by rw [kq, hq, List.append_assoc], by rw [ko, ho, List.append_assoc],
    ?_, kc.trans hc, kk.trans hk, fun h => ?_, fun h => ?_⟩
  · by_cases h : owed = []
    · simp [h]
    · simp [full h]
  · have hnew := hn h
    simp [hnew, kn (by simpa [hq, hnew] using h)]
  · by_cases h' : owed = []
    · exact kf (by simpa [h'] using h)
    · have := hf h'
      simp only [kq, List.length_append]
      omega

/-- The queue has grown, and was not full if a leg got its record. -/
theorem length_of_slipsFit {legs : List (Nat × Nat)} {s t : State} (h : slipsFit legs s t) :
    (s.slips.queue.length < 8 → legs = [] → t.slips.queue.length < 8) ∧
      (8 ≤ s.slips.queue.length → 8 ≤ t.slips.queue.length) := by
  obtain ⟨new, owed, hq, -, rfl, -⟩ := h
  refine ⟨fun hs hl => ?_, fun hs => ?_⟩
  · obtain ⟨hnew, -⟩ := List.append_eq_nil_iff.1 hl
    rw [hq, List.map_eq_nil_iff.1 hnew]
    simpa using hs
  · rw [hq, List.length_append]
    omega

/-! ### A job's legs change: what the slip unit is handed and which causes are sent -/

/-- Job `j`, whose owner is `o`, becomes `y`: the legs handed over, the frame, and the cause events, JOB
with `job`, and SLIP where a record is made (R25, R155). -/
structure JobChange (j : Nat) (o : Link) (y : Job) (legs : List (Nat × Nat)) (job : Bool) (s t : State) :
    Prop where
  only : onlyJob j s t
  handed : slipsFit legs s t
  queue : t.mountQueue = s.mountQueue
  attn : attnAs (jobCauses o job (decide (legs ≠ [] ∧ s.slips.queue.length < 8)) false s) t
  entry : t.job? j = some y

theorem JobChange.refl {j : Nat} {x : Job} {s : State} (o : Link) (h : s.job? j = some x) :
    JobChange j o x [] false s s :=
  ⟨onlyJob_refl j s, slipsFit_nil rfl, rfl, ⟨rfl, rfl⟩, h⟩

theorem JobChange.trans {j : Nat} {o : Link} {y z : Job} {a b : List (Nat × Nat)} {p q : Bool}
    {s t u : State} (h : JobChange j o y a p s t) (k : JobChange j o z b q t u) :
    JobChange j o z (a ++ b) (p || q) s u where
  only := onlyJob_trans h.only k.only
  handed := slipsFit_trans h.handed k.handed
  queue := k.queue.trans h.queue
  attn := by
    obtain ⟨hlt, hge⟩ := length_of_slipsFit h.handed
    have e : decide (a ++ b ≠ [] ∧ s.slips.queue.length < 8) =
        (decide (a ≠ [] ∧ s.slips.queue.length < 8) || decide (b ≠ [] ∧ t.slips.queue.length < 8)) := by
      by_cases ha : a = []
      · subst ha
        have : s.slips.queue.length < 8 ↔ t.slips.queue.length < 8 :=
          ⟨fun h => hlt h rfl, fun h => by by_contra hc; have := hge (by omega); omega⟩
        simp [this]
      · by_cases hs : s.slips.queue.length < 8
        · simp [ha, hs]
        · have := hge (by omega)
          simp [ha, hs, Nat.not_lt.2 this]
    rw [e]
    exact attnAs_jobCauses_trans h.attn k.attn
  entry := k.entry

/-- What a slip created changes (R155). -/
theorem createSlip_change {s : State} {j l : Nat} {x : Job} {g : Leg} (hx : s.job? j = some x)
    (hg : x.legs[l]? = some g) (hr : s.slips.queue.length < 8) :
    onlyJob j s (createSlip j l s) ∧ slipsFit [(j, l)] s (createSlip j l s) ∧
      (createSlip j l s).mountQueue = s.mountQueue := by
  simp only [createSlip, hx, leg_of_job hx hg]
  generalize hv : State.causeSlip _ x.owner = v
  obtain ⟨hp, hq, ho, hc, hk⟩ := printerLook_keeps v
  have hvs : v.slips = { s.slips with
      queue := s.slips.queue ++ [slipOf s j l x g]
      nextNumber := nextSlipNumber s.slips.nextNumber } := by
    rw [← hv]; cases x.owner <;> rfl
  have only : onlyJob j s v := by rw [← hv]; cases x.owner <;> exact ⟨rfl, fun _ _ => rfl⟩
  refine ⟨onlyJob_trans only ⟨?_, fun i _ => ?_⟩, ⟨[slipOf s j l x g], [], ?_⟩, ?_⟩
  · rw [hp]
  · rw [hp]; rfl
  · rw [hq, ho, hc, hk, hvs]
    refine ⟨rfl, by simp, rfl, rfl, rfl, fun h => by omega, fun h => absurd rfl h⟩
  · rw [hp, ← hv]; cases x.owner <;> rfl

/-! ### A leg reaches a terminal state (R16) -/

/-- What the end of a leg is, in terms of its job's entry and the slip unit (R16, R154). -/
theorem legTerminal_eq {s : State} {j l : Nat} {x : Job} {g : Leg} (st : LegState) (hx : s.job? j = some x)
    (hg : x.legs[l]? = some g) :
    legTerminal j l st s =
      let t := (s.setJob j (some { x with
        legs := x.legs.set l (legEndedAs g st s.stamp g.slipOwed) })).causeJob x.owner
      if g.attempts = 0 then t
      else if s.slips.queue.length < 8 then createSlip j l t
      else { t.setJob j (some { x with legs := x.legs.set l (legEndedAs g st s.stamp true) }) with
        slips := { s.slips with owed := s.slips.owed ++ [(j, l)] } } := by
  obtain ⟨hl, -⟩ := List.getElem?_eq_some_iff.1 hg
  simp only [legTerminal, hx, leg_of_job hx hg, modLeg_eq _ hx hg]
  generalize hb : ({ g with state := st, endTime := some s.stamp, notBefore := none } : Leg) = b
  have hb' : legEndedAs g st s.stamp g.slipOwed = b := hb
  rw [hb']
  generalize ht : (s.setJob j (some { x with legs := x.legs.set l b })).causeJob x.owner = t
  have hslips : t.slips = s.slips := by rw [← ht]; cases x.owner <;> rfl
  have hentry : t.job? j = some { x with legs := x.legs.set l b } := by
    rw [← ht, State.causeJob, cause_job, job_setJob _ _ _ _ (job_lt hx), if_pos rfl]
  by_cases ha : g.attempts = 0
  · simp [ha]
  · rw [if_pos (by omega), if_neg ha, handOver, hslips]
    by_cases hr : s.slips.queue.length < 8
    · rw [if_pos (by exact hr), if_pos hr]
    · rw [if_neg (by exact hr), if_neg hr]
      have hentry' : (t.setSlips { s.slips with owed := s.slips.owed ++ [(j, l)] }).job? j =
          some { x with legs := x.legs.set l b } := hentry
      rw [modLeg_eq _ hentry' (g := b) (by simp [hl])]
      simp only [List.set_set]
      rw [← hb]
      rfl

/-- A leg that ends: the frame, what the slip unit is handed, and the causes (R16, R25, R155). -/
theorem legTerminal_change {s : State} {j l : Nat} {x : Job} {g : Leg} (st : LegState)
    (hx : s.job? j = some x) (hg : x.legs[l]? = some g) :
    ∃ owed, JobChange j x.owner { x with legs := x.legs.set l (legEndedAs g st s.stamp owed) }
      (if g.attempts = 0 then [] else [(j, l)]) true s (legTerminal j l st s) := by
  have hattn := legTerminal_attn st hx hg
  have hcause : decide (1 ≤ g.attempts ∧ s.slips.queue.length < 8) =
      decide ((if g.attempts = 0 then [] else [(j, l)]) ≠ [] ∧ s.slips.queue.length < 8) := by
    by_cases ha : g.attempts = 0 <;> simp [ha, Nat.one_le_iff_ne_zero]
  rw [hcause] at hattn
  obtain ⟨hl, -⟩ := List.getElem?_eq_some_iff.1 hg
  have hj := job_lt hx
  rw [legTerminal_eq st hx hg] at hattn ⊢
  dsimp only at hattn ⊢
  generalize ht : (s.setJob j (some { x with
    legs := x.legs.set l (legEndedAs g st s.stamp g.slipOwed) })).causeJob x.owner = t at hattn ⊢
  have hslips : t.slips = s.slips := by rw [← ht]; cases x.owner <;> rfl
  have honly : onlyJob j s t := ht ▸ onlyJob_trans (onlyJob_setJob s _ hj) (onlyJob_cause ..)
  have hqueue : t.mountQueue = s.mountQueue := by rw [← ht]; cases x.owner <;> rfl
  have hentry : t.job? j = some { x with legs := x.legs.set l (legEndedAs g st s.stamp g.slipOwed) } := by
    rw [← ht, State.causeJob, cause_job, job_setJob _ _ _ _ hj, if_pos rfl]
  by_cases ha : g.attempts = 0
  · simp only [ha, if_true] at hattn ⊢
    exact ⟨g.slipOwed, honly, slipsFit_nil hslips, hqueue, hattn, hentry⟩
  · simp only [ha, if_false] at hattn ⊢
    by_cases hr : s.slips.queue.length < 8
    · rw [if_pos hr] at hattn ⊢
      obtain ⟨conly, chanded, cqueue⟩ := createSlip_change hentry (l := l)
        (g := legEndedAs g st s.stamp g.slipOwed) (by simp [hl]) (by rw [hslips]; exact hr)
      refine ⟨g.slipOwed, onlyJob_trans honly conly, ?_, cqueue.trans hqueue, hattn, ?_⟩
      · exact slipsFit_trans (slipsFit_nil hslips) chanded
      · rw [job?_of_table (createSlip_table j l t), hentry]
    · rw [if_neg hr] at hattn ⊢
      refine ⟨true, onlyJob_trans honly ⟨rfl, fun i hi => ?_⟩, ⟨[], [(j, l)], ?_⟩, hqueue, hattn, ?_⟩
      · exact (job_setJob t i j _ hj).trans (if_neg hi)
      · exact ⟨by simp, rfl, rfl, rfl, rfl, fun _ => rfl, fun _ => Nat.le_of_not_lt hr⟩
      · exact (job_setJob t j j _ hj).trans (if_pos rfl)

/-! ### Every waiting leg of a job is cancelled (R19, R20) -/

/-- A leg waits as R19 says it. -/
theorem waiting_iff (g : Leg) : g.state.waiting = true ↔ g.state = .pending ∨ g.state = .retryWait := by
  cases g.state <;> simp [LegState.waiting]

/-- The legs below `n` that a cancel ends and that were attempted. -/
def slipsBelow (j : Nat) (x : Job) (n : Nat) : List (Nat × Nat) :=
  ((List.range n).filter fun l => (x.legs[l]?).any fun (g : Leg) =>
    decide ((g.state = .pending ∨ g.state = .retryWait) ∧ 1 ≤ g.attempts)).map fun l => (j, l)

theorem slipsBelow_succ (j : Nat) (x : Job) (n : Nat) : slipsBelow j x (n + 1) = slipsBelow j x n ++
    (if (x.legs[n]?).any fun (g : Leg) =>
      decide ((g.state = .pending ∨ g.state = .retryWait) ∧ 1 ≤ g.attempts) then [(j, n)] else []) := by
  simp only [slipsBelow, List.range_succ, List.filter_append, List.map_append]
  congr 1
  split <;> simp_all

/-- The legs of a cancelled job: each waiting leg below `n` CANCELLED, the others as they were (R19). -/
def legsCancelled (x y : Job) (now : Stamp) (n : Nat) : Prop :=
  y = { x with legs := y.legs } ∧ y.legs.length = x.legs.length ∧
  ∀ (l : Nat) (g : Leg), x.legs[l]? = some g → ∃ owed, y.legs[l]? = some
    (if l < n ∧ (g.state = .pending ∨ g.state = .retryWait) then legEndedAs g .cancelled now owed else g)

/-- One step of `cancelWaiting`: leg `l` is cancelled if it waits. -/
def cancelLeg (j : Nat) (t : State) (l : Nat) : State :=
  if (t.leg? j l).any fun g => g.state.waiting then legTerminal j l .cancelled t else t

theorem cancelWaiting_eq {s : State} {j : Nat} {x : Job} (hx : s.job? j = some x) :
    cancelWaiting j s = (List.range x.legs.length).foldl (cancelLeg j) s := by
  simp only [cancelWaiting, hx, Option.map_some, Option.getD_some]
  rfl

/-- After the legs below `n`, those that waited are CANCELLED and handed over in rising order. -/
theorem foldl_cancelLeg_change {s : State} {j : Nat} {x : Job} (hx : s.job? j = some x) (n : Nat)
    (hn : n ≤ x.legs.length) :
    ∃ y, legsCancelled x y s.stamp n ∧ JobChange j x.owner y (slipsBelow j x n)
      ((x.legs.take n).any fun g => g.state.waiting) s ((List.range n).foldl (cancelLeg j) s) := by
  induction n with
  | zero =>
    refine ⟨x, ⟨rfl, rfl, fun l g hg => ⟨false, by simpa using hg⟩⟩, ?_⟩
    simpa [slipsBelow] using JobChange.refl x.owner hx
  | succ n ih =>
    obtain ⟨y, ⟨hyx, hlen, hlegs⟩, hch⟩ := ih (by omega)
    rw [List.range_succ, List.foldl_append]
    generalize (List.range n).foldl (cancelLeg j) s = t at hch ⊢
    obtain ⟨g, hg⟩ : ∃ g, x.legs[n]? = some g := ⟨_, List.getElem?_eq_getElem (by omega)⟩
    have hyg : y.legs[n]? = some g := by simpa using hlegs n g hg
    have hleg : t.leg? j n = some g := leg_of_job hch.entry hyg
    have hown : y.owner = x.owner := by rw [hyx]
    have hnow : t.stamp = s.stamp := stamp_of_onlyJob hch.only
    have hany : ((x.legs.take (n + 1)).any fun g => g.state.waiting) =
        (((x.legs.take n).any fun g => g.state.waiting) || g.state.waiting) := by
      rw [List.take_add_one, hg, List.any_append]
      simp
    rw [hany, slipsBelow_succ, hg]
    simp only [List.foldl_cons, List.foldl_nil, cancelLeg, hleg, Option.any_some,
      Bool.decide_and, Bool.and_eq_true, decide_eq_true_eq]
    by_cases hw : g.state = .pending ∨ g.state = .retryWait
    · obtain ⟨owed, hend⟩ := legTerminal_change .cancelled hch.entry hyg
      rw [hown, hnow] at hend
      refine ⟨{ y with legs := y.legs.set n (legEndedAs g .cancelled s.stamp owed) },
        ⟨?_, ?_, fun l k hk => ?_⟩, ?_⟩
      · rw [hyx]
      · simpa using hlen
      · obtain ⟨owed', hk'⟩ := hlegs l k hk
        by_cases hln : l = n
        · subst hln
          obtain rfl : g = k := Option.some.inj (hg.symm.trans hk)
          refine ⟨owed, ?_⟩
          have : l < y.legs.length := by omega
          simp [hw, this]
        · refine ⟨owed', ?_⟩
          rw [List.getElem?_set_ne (Ne.symm hln), hk']
          have : l < n + 1 ↔ l < n := by omega
          simp [this]
      · have handed := hch.trans hend
        rw [(waiting_iff g).2 hw]
        by_cases ha : g.attempts = 0
        · simpa [hw, ha, hown] using handed
        · simpa [hw, ha, hown, Nat.one_le_iff_ne_zero] using handed
    · refine ⟨y, ⟨hyx, hlen, fun l k hk => ?_⟩, ?_⟩
      · obtain ⟨owed', hk'⟩ := hlegs l k hk
        refine ⟨owed', hk'.trans ?_⟩
        by_cases hln : l = n
        · subst hln
          obtain rfl : g = k := Option.some.inj (hg.symm.trans hk)
          simp [hw]
        · have : l < n + 1 ↔ l < n := by omega
          simp [this]
      · have hw' : g.state.waiting = false := by rw [← Bool.not_eq_true, waiting_iff]; exact hw
        simpa [hw, hw'] using hch

/-- What cancelling the waiting legs of a job makes of it (R19, R20). -/
theorem cancelWaiting_change {s : State} {j : Nat} {x : Job} (hx : s.job? j = some x) :
    ∃ y, legsCancelled x y s.stamp x.legs.length ∧ JobChange j x.owner y (cancelledSlips j x)
      (decide (∃ g ∈ x.legs, g.state = .pending ∨ g.state = .retryWait)) s (cancelWaiting j s) := by
  obtain ⟨y, hy, hch⟩ := foldl_cancelLeg_change hx x.legs.length le_rfl
  refine ⟨y, hy, ?_⟩
  have e : ((x.legs.take x.legs.length).any fun g => g.state.waiting) =
      decide (∃ g ∈ x.legs, g.state = .pending ∨ g.state = .retryWait) := by
    rw [List.take_length, Bool.eq_iff_iff, List.any_eq_true, decide_eq_true_eq]
    simp only [waiting_iff]
  rw [cancelWaiting_eq hx, ← e]
  exact hch

end Sys2Proof.PictureJobs

/-! The requests' own parts: what they make of an entry and of the queue, and that they keep the table. -/

namespace Sys2Proof.PictureJobs
open Machine Laws

variable {s₀ s : State}

/-! ### What the requests make of one entry and the queue (R6, R10, R11, R22) -/

theorem joinQueue_eq {j : Nat} {x : Job} (hx : s.job? j = some x) : joinQueue j s =
    queueBecomes (placedIn s j x.priority (x.commitNumber.getD 0) s.mountQueue.entries) s := by
  simp only [joinQueue, hx, queuePlace_eq, setEntries_eq]

theorem moveInQueue_eq {j : Nat} {x : Job} (hx : s.job? j = some x) : moveInQueue j s =
    queueBecomes (placedIn s j x.priority (x.commitNumber.getD 0) (s.mountQueue.entries.erase j)) s := by
  simp only [moveInQueue, hx, queuePlace_eq, setEntries_eq]

/-- The entry just written, past the JOB cause event. -/
theorem job?_setJob_causeJob {j : Nat} (s : State) (x : Job) (o : Link) (hj : j < 16) (i : Nat) :
    ((s.setJob j (some x)).causeJob o).job? i = if i = j then some x else s.job? i := by
  rw [State.causeJob, cause_job, job_setJob _ _ _ _ hj]

/-- A place in the queue does not depend on the job that is to be placed. -/
theorem placedIn_setJob {s t : State} {j p n : Nat} {e : Option Job} {es : List Nat}
    (ht : EntryBecomes j e s t) (hj : j ∉ es) : placedIn t j p n es = placedIn s j p n es :=
  placedIn_congr t s j p n es fun _ hi => ht.other (ne_of_mem_of_not_mem hi hj)

/-- The entry of a job that is committed (R6). -/
def committed (x : Job) (number : Nat) (now : Stamp) : Job :=
  { x with state := .queued, commitNumber := some number, commitTime := some now }

/-- The state with a job committed, its place in the queue apart (R6). -/
def commitEntry (j : Nat) (x : Job) (s : State) : State :=
  (({ s with commitCounter := (s.commitCounter + 1) % 65536 } : State).setJob j
    (some (committed x s.commitCounter s.stamp))).causeJob x.owner

theorem commitEntry_becomes {j : Nat} {x : Job} (hx : s.job? j = some x) :
    EntryBecomes j (some (committed x s.commitCounter s.stamp)) s (commitEntry j x s) :=
  fun i => job?_setJob_causeJob { s with commitCounter := (s.commitCounter + 1) % 65536 } _ _ (job_lt hx) i

theorem commitJob_eq {j : Nat} {x : Job} (hx : s.job? j = some x) : commitJob j x s =
    queueBecomes (placedIn (commitEntry j x s) j x.priority s.commitCounter s.mountQueue.entries)
      (commitEntry j x s) := by
  have hj := job_lt hx
  have state : setJobState j .queued
      ((s.setJob j (some { x with
        commitNumber := some s.commitCounter
        commitTime := some s.stamp })).setCommitCounter ((s.commitCounter + 1) % 65536)) =
      commitEntry j x s := by
    refine (setJobState_eq (({ s with commitCounter := (s.commitCounter + 1) % 65536 } : State).setJob j
      (some { x with commitNumber := some s.commitCounter, commitTime := some s.stamp })) j
      { x with commitNumber := some s.commitCounter, commitTime := some s.stamp } .queued
      ((job_setJob _ j j _ hj).trans (if_pos rfl))).trans ?_
    rw [setJob_setJob]
    rfl
  simp only [commitJob, state]
  rw [joinQueue_eq (commitEntry_becomes hx).same]
  have entries : (commitEntry j x s).mountQueue.entries = s.mountQueue.entries := causeJob_entries _ _
  rw [entries]
  rfl

/-- The entry of a job that is unmounted (R11). -/
def unmounted (x : Job) : Job :=
  { x with state := .queued, mountTime := none, legs := x.legs.map Leg.unmounted }

/-- The state with a job unmounted, its place in the queue apart (R11). -/
def unmountEntry (j : Nat) (x : Job) (s : State) : State :=
  (s.setJob j (some (unmounted x))).causeJob x.owner

theorem unmountEntry_becomes {j : Nat} {x : Job} (hx : s.job? j = some x) :
    EntryBecomes j (some (unmounted x)) s (unmountEntry j x s) :=
  fun i => job?_setJob_causeJob s _ _ (job_lt hx) i

theorem unmountJob_eq {j : Nat} {x : Job} (hx : s.job? j = some x) : unmountJob j x s =
    queueBecomes (placedIn (unmountEntry j x s) j x.priority (x.commitNumber.getD 0)
      s.mountQueue.entries) (unmountEntry j x s) := by
  have hj := job_lt hx
  have state : setJobState j .queued (s.setJob j (some { x with
      mountTime := none
      legs := x.legs.map Leg.unmounted })) = unmountEntry j x s := by
    rw [setJobState_eq _ j { x with mountTime := none, legs := x.legs.map Leg.unmounted } .queued
      ((job_setJob s j j _ hj).trans (if_pos rfl)), setJob_setJob]
    rfl
  simp only [unmountJob, state]
  rw [joinQueue_eq (unmountEntry_becomes hx).same]
  have entries : (unmountEntry j x s).mountQueue.entries = s.mountQueue.entries := causeJob_entries _ _
  rw [entries]
  rfl

/-- The entry of a job that is mounted (R10). -/
def mountedJob (x : Job) (now : Stamp) : Job := { x with state := .mounted, mountTime := some now }

/-- The state with a job mounted, before the arbiter is prompted (R10). -/
def mountEntry (j : Nat) (x : Job) (s : State) : State :=
  (queueBecomes (s.mountQueue.entries.erase j)
    (s.setJob j (some (mountedJob x s.stamp)))).causeJob x.owner

theorem mountEntry_becomes {j : Nat} {x : Job} (hx : s.job? j = some x) :
    EntryBecomes j (some (mountedJob x s.stamp)) s (mountEntry j x s) := by
  intro i
  rw [mountEntry, State.causeJob, cause_job, queueBecomes_job, job_setJob _ _ _ _ (job_lt hx)]

theorem mountEntry_entries (j : Nat) (x : Job) :
    (mountEntry j x s).mountQueue.entries = s.mountQueue.entries.erase j := by
  rw [mountEntry, causeJob_entries, queueBecomes_entries]

/-- Writing an entry and changing the queue do not touch each other. -/
theorem queueBecomes_setJob (es : List Nat) (s : State) (j : Nat) (e : Option Job) :
    (queueBecomes es s).setJob j e = queueBecomes es (s.setJob j e) := by
  unfold queueBecomes
  dsimp only
  rw [show (s.setJob j e).mountQueue = s.mountQueue from rfl]
  split <;> rfl

theorem mountJob_eq {j : Nat} {x : Job} (hx : s.job? j = some x) :
    mountJob j x s = prompt (mountEntry j x s) := by
  have hj := job_lt hx
  have entry : (queueBecomes (s.mountQueue.entries.erase j) (s.setJob j (some { x with
      mountTime := some s.stamp }))).job? j = some { x with mountTime := some s.stamp } := by
    rw [queueBecomes_job, job_setJob _ _ _ _ hj, if_pos rfl]
  simp only [mountJob, leaveQueue, setEntries_eq]
  rw [show (s.setJob j (some { x with mountTime := some s.stamp })).mountQueue = s.mountQueue from rfl,
    setJobState_eq _ j _ .mounted entry, queueBecomes_setJob, setJob_setJob]
  rfl

/-! ### Every request's own part keeps the table -/

/-- A block's part of a request keeps the table, whatever its arguments. -/
def ServeKeeps (serve : Serve) : Prop := ∀ args s, TableKept s (serve args s).2

@[simp] theorem refuse_snd (r : Result) (s : State) : (refuse r s).2 = s := rfl
@[simp] theorem accept_snd (s : State) : (accept s).2 = s := rfl
@[simp] theorem acceptWith_snd (d : ReplyData) (s : State) : (acceptWith d s).2 = s := rfl

/-- A request that names a job answers from the state as it stands, or from the job's entry (R3). -/
theorem onJob_snd {P : State → Prop} {j : Nat} {own : Option Link} {k : Job → Reply × State} (hs : P s)
    (h : ∀ x, s.job? j = some x → P (k x).2) : P (onJob j own s k).2 := by
  unfold onJob
  split
  · exact hs
  · split
    · exact hs
    next x hx =>
      split
      · exact hs
      · exact h x hx

theorem onJob_kept {j : Nat} {own : Option Link} {k : Job → Reply × State}
    (h : ∀ x, s.job? j = some x → TableKept s (k x).2) : TableKept s (onJob j own s k).2 :=
  onJob_snd (.refl s) h

theorem openJob_tableKept {j : Nat} (x : Job) (o : Link) (hj : j < 16) (hf : s.job? j = none)
    (hs : x.state = .loading) (hl : x.legs = []) :
    TableKept s ((s.setJob j (some x)).causeJob o) := by
  have ht : EntryBecomes j (some x) s ((s.setJob j (some x)).causeJob o) :=
    fun i => job?_setJob_causeJob s x o hj i
  refine ⟨lasts_of_entryBecomes ht (by simp [hf]), fun h => ?_, ?_⟩
  · refine mountQueueRight_leave ht (fun y hy => ?_) ?_ h
    · simp [← Option.some.inj hy, hs]
    · rw [causeJob_entries]
      refine (List.erase_of_not_mem fun hm => ?_).symm
      obtain ⟨y, hy, -⟩ := (h.2.1 j).1 hm
      simp [hf] at hy
  · refine oneMountedOneActive_retire ht (fun y hy => ?_) (fun y hy => ?_)
    · simp [← Option.some.inj hy, hs]
    · simp [noActive, ← Option.some.inj hy, hl]

theorem freeEntry_spec {j : Nat} (h : s.freeEntry? = some j) : j < 16 ∧ s.job? j = none := by
  have hm := List.mem_of_find?_eq_some h
  have hp := List.find?_some h
  simp only [jobNumbers, List.mem_range] at hm
  exact ⟨hm, by simpa using hp⟩

theorem serveOpenJob_keeps (lk : Link) : ServeKeeps (serveOpenJob lk) := by
  intro args s
  unfold serveOpenJob
  (repeat' split) <;> try exact .refl s
  next hj =>
    obtain ⟨hlt, hf⟩ := freeEntry_spec hj
    exact openJob_tableKept _ lk hlt hf rfl rfl

theorem addLeg_goesOn (x : Job) (r : Route) :
    JobGoesOn x { x with legs := x.legs ++ [Leg.created r] } where
  toJobLasts := by
    refine ⟨rfl, rfl, rfl, rfl, rfl, rfl, rfl, fun l g hg _ => ⟨g, ?_, rfl⟩⟩
    obtain ⟨hl, -⟩ := List.getElem?_eq_some_iff.1 hg
    simpa [List.getElem?_append_left hl] using hg
  state := rfl
  priority := rfl
  commit := rfl
  active := by
    intro l h hh ha
    rw [List.getElem?_append] at hh
    split at hh
    · exact ⟨h, hh, ha⟩
    · have := List.mem_of_getElem? hh
      simp only [List.mem_singleton] at this
      simp [this, Leg.created] at ha

theorem serveAddLeg_keeps (lk : Link) : ServeKeeps (serveAddLeg lk) := by
  intro args s
  unfold serveAddLeg
  split
  · refine onJob_kept fun x hx => ?_
    (repeat' split) <;> try exact .refl s
    exact .of_entryGoesOn rfl hx (entryBecomes_setJob _ (job_lt hx)) (addLeg_goesOn x _)
  · exact .refl s

theorem commitJob_tableKept {j : Nat} {x : Job} (hx : s.job? j = some x) (hs : x.state = .loading) :
    TableKept s (commitJob j x s) := by
  rw [commitJob_eq hx]
  have hc := commitEntry_becomes (s := s) hx
  have ht : EntryBecomes j (some (committed x s.commitCounter s.stamp)) s
      (queueBecomes (placedIn (commitEntry j x s) j x.priority s.commitCounter s.mountQueue.entries)
        (commitEntry j x s)) := fun i => (queueBecomes_job _ _ i).trans (hc i)
  refine ⟨lasts_of_entryBecomes ht fun y hy => ?_, fun h => ?_, fun h => ?_⟩
  · obtain rfl : x = y := Option.some.inj (hx.symm.trans hy)
    exact ⟨rfl, rfl, rfl, rfl, rfl, rfl, rfl, fun _ g hg _ => ⟨g, hg, rfl⟩⟩
  · refine mountQueueRight_join ht rfl ?_ h
    rw [queueBecomes_entries, entries_erase_of_not_queued h hx (by simp [hs])]
    exact placedIn_congr _ _ _ _ _ _ fun i _ => (queueBecomes_job _ _ i).symm
  · have ha := noActive_of_not_mounted h hx (by simp [hs])
    refine oneMountedOneActive_retire ht (fun y hy => ?_) (fun y hy => ?_) h
    · simp [← Option.some.inj hy, committed]
    · rw [← Option.some.inj hy]; exact ha

theorem serveCommitJob_keeps (lk : Link) : ServeKeeps (serveCommitJob lk) := by
  intro args s
  unfold serveCommitJob
  split
  · refine onJob_kept fun x hx => ?_
    (repeat' split) <;> try exact .refl s
    next hs _ => exact commitJob_tableKept hx (not_not.1 hs)
  · exact .refl s

/-- The legs a cancel leaves are ACTIVE only if they were. -/
theorem noActive_of_legsCancelled {x y : Job} {now : Stamp} {n : Nat} (h : legsCancelled x y now n)
    (ha : noActive x) : noActive y := by
  obtain ⟨-, hlen, hlegs⟩ := h
  intro k hk hka
  obtain ⟨l, hl⟩ := List.getElem?_of_mem hk
  obtain ⟨hlt, -⟩ := List.getElem?_eq_some_iff.1 hl
  have hg : x.legs[l]? = some x.legs[l] := List.getElem?_eq_getElem (by omega)
  obtain ⟨owed, hk'⟩ := hlegs l _ hg
  rw [hl] at hk'
  have hk'' := Option.some.inj hk'
  split at hk''
  · simp [hk'', legEndedAs] at hka
  · exact ha _ (List.getElem_mem _) (hk'' ▸ hka)

theorem cancelIdle_tableKept {j : Nat} {x : Job} (hx : s.job? j = some x) (ha : noActive x) :
    TableKept s (cancelIdle j x s) := by
  obtain ⟨y, hy, hch⟩ := cancelWaiting_change hx
  have waited : TableKept s (cancelWaiting j s) := tableFrom_iff.1 (cancelWaiting_kept j (by simp))
  have ended : TableKept s (endJob j .cancelled (cancelWaiting j s)) :=
    waited.trans (endJob_tableKept hch.entry (by decide) (by decide) (noActive_of_legsCancelled hy ha))
  have := tableFrom_iff.2 ended
  unfold cancelIdle
  dsimp only
  split
  · exact ended
  · exact tableFrom_iff.1 (prompt_kept this)

theorem cancelActive_tableKept {j : Nat} {x : Job} (hx : s.job? j = some x) :
    TableKept s (cancelActive j x s) := by
  have marked : TableFrom s (table (s.setJob j (some { x with cancelPending := true }))) :=
    setJob_goesOn hx ⟨⟨rfl, rfl, rfl, rfl, rfl, rfl, rfl, fun _ g hg _ => ⟨g, hg, rfl⟩⟩, rfl, rfl, rfl,
      fun _ g hg ha => ⟨g, hg, ha⟩⟩ (by simp)
  exact tableFrom_iff.1 (by simp [cancelActive, marked])

theorem serveCancelJob_keeps (lk : Link) : ServeKeeps (serveCancelJob lk) := by
  intro args s
  unfold serveCancelJob
  split
  · refine onJob_kept fun x hx => ?_
    (repeat' split) <;> try exact .refl s
    · exact cancelActive_tableKept hx
    next ha => exact cancelIdle_tableKept hx ((hasActive_eq_false_iff x).1 (Bool.not_eq_true _ ▸ ha))
  · exact .refl s

/-- One entry changes, but neither its state nor its legs. -/
theorem oneMountedOneActive_of_same {t : State} {j : Nat} {x y : Job} (hx : s.job? j = some x)
    (ht : EntryBecomes j (some y) s t) (hs : y.state = x.state) (hl : y.legs = x.legs)
    (h : OneMountedOneActive s) : OneMountedOneActive t := by
  obtain ⟨h1, h2, h3⟩ := h
  have state : ∀ {i z}, t.job? i = some z → ∃ w, s.job? i = some w ∧ w.state = z.state ∧ w.legs = z.legs := by
    intro i z hz
    by_cases hi : i = j
    · subst hi
      rw [ht.same] at hz
      obtain rfl := Option.some.inj hz
      exact ⟨x, hx, hs.symm, hl.symm⟩
    · exact ⟨z, (ht.other hi).symm.trans hz, rfl, rfl⟩
  have act : ∀ {i l}, legIsActive t i l → legIsActive s i l := by
    rintro i l ⟨g, hg, ha⟩
    obtain ⟨z, hz, hzl⟩ := Option.bind_eq_some_iff.1 hg
    obtain ⟨w, hw, -, hwl⟩ := state hz
    exact ⟨g, leg_of_job hw (hwl ▸ hzl), ha⟩
  refine ⟨fun i k z w hz hw hzm hwm => ?_, fun i l hl => ?_, fun i l k m ha hb => h3 i l k m (act ha) (act hb)⟩
  · obtain ⟨z', hz', hzs, -⟩ := state hz
    obtain ⟨w', hw', hws, -⟩ := state hw
    exact h1 i k z' w' hz' hw' (hzs.trans hzm) (hws.trans hwm)
  · obtain ⟨z, hz, hzm⟩ := h2 i l (act hl)
    by_cases hi : i = j
    · subst hi
      obtain rfl : x = z := Option.some.inj (hx.symm.trans hz)
      exact ⟨y, ht.same, hs.trans hzm⟩
    · exact ⟨z, (ht.other hi).trans hz, hzm⟩

theorem setPriority_lasts (x : Job) (p : Nat) : JobLasts x { x with priority := p } :=
  ⟨rfl, rfl, rfl, rfl, rfl, rfl, rfl, fun _ g hg _ => ⟨g, hg, rfl⟩⟩

theorem setPriority_tableKept {j : Nat} {x : Job} (p : Nat) (hx : s.job? j = some x) :
    TableKept s (let t := s.setJob j (some { x with priority := p })
      if x.state = .queued then moveInQueue j t else t) := by
  have hw : EntryBecomes j (some { x with priority := p }) s
      (s.setJob j (some { x with priority := p })) := entryBecomes_setJob _ (job_lt hx)
  have lasts : ∀ z, s.job? j = some z → JobLasts z { x with priority := p } := fun z hz => by
    obtain rfl : x = z := Option.some.inj (hx.symm.trans hz)
    exact setPriority_lasts x p
  dsimp only
  generalize hu : s.setJob j (some { x with priority := p }) = u at hw ⊢
  have hent : u.mountQueue.entries = s.mountQueue.entries := by rw [← hu]; rfl
  split
  next hq =>
    rw [moveInQueue_eq hw.same, hent]
    have ht : EntryBecomes j (some { x with priority := p }) s (queueBecomes
        (placedIn u j p (x.commitNumber.getD 0) (s.mountQueue.entries.erase j)) u) :=
      fun i => (queueBecomes_job _ _ i).trans (hw i)
    refine ⟨lasts_of_entryBecomes ht lasts, fun h => mountQueueRight_join ht hq ?_ h,
      oneMountedOneActive_of_same hx ht rfl rfl⟩
    rw [queueBecomes_entries]
    exact placedIn_congr _ _ _ _ _ _ fun i _ => (queueBecomes_job _ _ i).symm
  next hq =>
    refine ⟨lasts_of_entryBecomes hw lasts, fun h => mountQueueRight_leave hw (fun y hy => ?_) ?_ h,
      oneMountedOneActive_of_same hx hw rfl rfl⟩
    · rw [← Option.some.inj hy]; exact hq
    · rw [hent, entries_erase_of_not_queued h hx hq]

theorem serveSetPriority_keeps : ServeKeeps serveSetPriority := by
  intro args s
  unfold serveSetPriority
  split
  next j p =>
    refine onJob_kept fun x hx => ?_
    split
    · exact .refl s
    · split
      · exact .refl s
      · split
        · exact .refl s
        · exact setPriority_tableKept p.toNat hx
  · exact .refl s

theorem mounted?_eq_none_iff : s.mounted? = none ↔ ∀ j x, s.job? j = some x → x.state ≠ .mounted := by
  rw [← Option.not_isSome_iff_eq_none, mounted_isSome_iff]
  simp

theorem mountJob_tableKept {j : Nat} {x : Job} (hx : s.job? j = some x)
    (hn : s.mounted? = none) : TableKept s (mountJob j x s) := by
  have ht := mountEntry_becomes (s := s) hx
  have entered : TableKept s (mountEntry j x s) := by
    refine ⟨lasts_of_entryBecomes ht fun y hy => ?_, fun h => ?_, fun h => ?_⟩
    · obtain rfl : x = y := Option.some.inj (hx.symm.trans hy)
      exact ⟨rfl, rfl, rfl, rfl, rfl, rfl, rfl, fun _ g hg _ => ⟨g, hg, rfl⟩⟩
    · refine mountQueueRight_leave ht (fun y hy => ?_) (mountEntry_entries j x) h
      simp [← Option.some.inj hy, mountedJob]
    · have ha : noActive x := noActive_of_not_mounted h hx (mounted?_eq_none_iff.1 hn j x hx)
      exact oneMountedOneActive_mount ht (mounted?_eq_none_iff.1 hn) ha h
  rw [mountJob_eq hx]
  exact tableFrom_iff.1 (prompt_kept (tableFrom_iff.2 entered))

theorem serveMount_keeps : ServeKeeps serveMount := by
  intro args s
  unfold serveMount
  split
  · refine onJob_kept fun x hx => ?_
    split
    · exact .refl s
    · split
      · exact .refl s
      next hm =>
        exact mountJob_tableKept hx (Option.not_isSome_iff_eq_none.1 fun h => hm (.inl h))
  · exact .refl s

theorem unmounted_lasts (x : Job) : JobLasts x (unmounted x) := by
  refine ⟨rfl, rfl, rfl, rfl, rfl, rfl, rfl, fun l g hg ht => ⟨g, ?_, rfl⟩⟩
  simp [unmounted, hg, Leg.unmounted, ht]

theorem noActive_unmounted {x : Job} (h : noActive x) : noActive (unmounted x) := by
  intro g hg
  obtain ⟨k, hk, rfl⟩ := List.mem_map.1 hg
  unfold Leg.unmounted
  split <;> exact h k hk

theorem unmountJob_tableKept {j : Nat} {x : Job} (hx : s.job? j = some x) (hs : x.state = .mounted)
    (ha : noActive x) : TableKept s (unmountJob j x s) := by
  rw [unmountJob_eq hx]
  have ht : EntryBecomes j (some (unmounted x)) s (queueBecomes
      (placedIn (unmountEntry j x s) j x.priority (x.commitNumber.getD 0) s.mountQueue.entries)
      (unmountEntry j x s)) := fun i => (queueBecomes_job _ _ i).trans (unmountEntry_becomes hx i)
  refine ⟨lasts_of_entryBecomes ht fun y hy => ?_, fun h => mountQueueRight_join ht rfl ?_ h, fun h => ?_⟩
  · obtain rfl : x = y := Option.some.inj (hx.symm.trans hy)
    exact unmounted_lasts x
  · rw [queueBecomes_entries, entries_erase_of_not_queued h hx (by simp [hs])]
    exact placedIn_congr _ _ _ _ _ _ fun i _ => (queueBecomes_job _ _ i).symm
  · refine oneMountedOneActive_retire ht (fun y hy => ?_) (fun y hy => ?_) h
    · simp [← Option.some.inj hy, unmounted]
    · rw [← Option.some.inj hy]; exact noActive_unmounted ha

theorem serveUnmount_keeps : ServeKeeps serveUnmount := by
  intro args s
  unfold serveUnmount
  split
  · refine onJob_kept fun x hx => ?_
    split
    · exact .refl s
    next hs =>
      split
      · exact .refl s
      next ha =>
        exact unmountJob_tableKept hx (not_not.1 hs)
          ((hasActive_eq_false_iff x).1 (Bool.eq_false_iff.2 ha))
  · exact .refl s

theorem skipLeg_tableKept {j l : Nat} (hg : ∀ g, s.leg? j l = some g → g.state.terminal = false) :
    TableKept s (skipLeg j l s) := by
  have ended : TableFrom s (table (legTerminal j l .skipped s)) :=
    legTerminal_kept (by decide) hg (by simp)
  exact tableFrom_iff.1 (ite_kept (prompt_kept (jobEndTest_kept j ended)) ended)

theorem serveSkipLeg_keeps : ServeKeeps serveSkipLeg := by
  intro args s
  unfold serveSkipLeg
  split
  · refine onJob_kept fun x hx => ?_
    split
    · exact .refl s
    next g hg =>
      split
      · exact .refl s
      next hs =>
        split
        · exact .refl s
        · refine skipLeg_tableKept fun k hk => ?_
          obtain rfl : g = k := Option.some.inj ((leg_of_job hx hg).symm.trans hk)
          exact Bool.eq_false_iff.2 fun ht => hs (.inr ht)
  · exact .refl s

/-! ### The other requests -/

theorem releaseHold_tableKept (s : State) : TableKept s (releaseHold s) := by
  have freed : table ((s.setMountQueue { s.mountQueue with hold := none }).causeQueue) = table s := rfl
  unfold releaseHold
  split
  · exact tableFrom_iff.1 (prompt_kept (by simp [freed]))
  · exact .refl s

@[simp] theorem clearLegEnd_kept (h : TableFrom s₀ (table s)) : TableFrom s₀ (table (clearLegEnd s)) := by
  simp [clearLegEnd, h]

theorem serveSetModes_keeps : ServeKeeps serveSetModes := by
  intro args s
  unfold serveSetModes changeModes
  dsimp only
  (repeat' split) <;> first | exact .refl s | exact tableFrom_iff.1 (by simp)

theorem serveTalk_keeps : ServeKeeps serveTalk := by
  intro args s
  unfold serveTalk takeTalk
  (repeat' split) <;> first | exact .refl s | exact tableFrom_iff.1 (by simp)

theorem serveEndTalk_keeps : ServeKeeps serveEndTalk := by
  intro args s
  unfold serveEndTalk
  (repeat' split) <;> first | exact .refl s | exact tableFrom_iff.1 (by simp)

theorem serveDrumRun_keeps : ServeKeeps serveDrumRun := by
  intro args s
  unfold serveDrumRun
  (repeat' split) <;> first | exact .refl s | exact tableFrom_iff.1 (by simp)

theorem serveDrumStop_keeps : ServeKeeps serveDrumStop := by
  intro args s
  unfold serveDrumStop
  split <;> exact tableFrom_iff.1 (by simp)

theorem serveCollectSlip_keeps : ServeKeeps serveCollectSlip := by
  intro args s
  unfold serveCollectSlip
  split <;> exact tableFrom_iff.1 (by simp)

theorem serveReprintSlip_keeps : ServeKeeps serveReprintSlip := by
  intro args s
  unfold serveReprintSlip
  (repeat' split) <;> exact tableFrom_iff.1 (by simp)

theorem serveSetCollection_keeps : ServeKeeps serveSetCollection := by
  intro args s
  unfold serveSetCollection
  (repeat' split) <;> exact tableFrom_iff.1 (by simp)

theorem serveWriteSetting_keeps : ServeKeeps serveWriteSetting := by
  intro args s
  unfold serveWriteSetting storeStation storeNumber
  dsimp only
  (repeat' split) <;> exact tableFrom_iff.1 (by simp)

theorem serveWriteCurve_keeps : ServeKeeps serveWriteCurve := by
  intro args s
  unfold serveWriteCurve
  (repeat' split) <;> exact tableFrom_iff.1 (by simp)

@[simp] theorem compareRetries_kept (h : TableFrom s₀ (table s)) :
    TableFrom s₀ (table (compareRetries s)) := by
  simp [compareRetries, h]

theorem serveSetClock_keeps : ServeKeeps serveSetClock := by
  intro args s
  unfold serveSetClock
  (repeat' split) <;> exact tableFrom_iff.1 (by simp)

theorem serveSetAttn_keeps (lk : Link) : ServeKeeps (serveSetAttn lk) := by
  intro args s
  unfold serveSetAttn
  (repeat' split) <;> exact tableFrom_iff.1 (by simp)

theorem readAttention_keeps (lk : Link) (s : State) : TableKept s (readAttention lk s) := by
  unfold readAttention
  split <;> exact tableFrom_iff.1 (by simp)

theorem serveWriteRoute_keeps : ServeKeeps serveWriteRoute := by
  intro args s
  unfold serveWriteRoute State.setRoute
  (repeat' split) <;> exact tableFrom_iff.1 (by simp)

theorem serveEraseRoute_keeps : ServeKeeps serveEraseRoute := by
  intro args s
  unfold serveEraseRoute State.setRoute
  (repeat' split) <;> exact tableFrom_iff.1 (by simp)

end Sys2Proof.PictureJobs

/-! Every command and every step: the invariants of R1, R7, R12 and R16. -/

namespace Sys2Proof.PictureJobs
open Machine Laws

variable {s₀ s t : State}

/-! ### The clock's wrap (R17, R194) -/

theorem job?_wrapJobs (s : State) (i : Nat) :
    (wrapJobs s).job? i = (s.job? i).map fun x => { x with legs := x.legs.map Leg.wrapped } := by
  unfold State.job?
  rw [wrapJobs_jobs, Vector.getElem?_map]
  cases s.jobs[i]? <;> rfl

theorem wrapped_goesOn (g : Leg) : legGoesOn g g.wrapped := by
  unfold Leg.wrapped
  split
  next h => exact ⟨fun ht => by simp [h, LegState.terminal] at ht, id⟩
  next => exact ⟨fun _ => rfl, id⟩

theorem wrapJobs_tableKept (s : State) : TableKept s (wrapJobs s) := by
  refine .of_jobGoesOn rfl fun i => ?_
  rw [job?_wrapJobs]
  cases s.job? i with
  | none => exact .none
  | some x =>
    refine .some (jobGoesOn_of_legs x _ fun l => ?_)
    rw [List.getElem?_map]
    cases x.legs[l]? with
    | none => exact .none
    | some g => exact .some (wrapped_goesOn g)

@[simp] theorem clockTick_kept (h : TableFrom s₀ (table s)) : TableFrom s₀ (table (clockTick s)) := by
  have ticked : TableFrom s₀ (table ((s.setClock s.clock.tick).setAux
      { s.aux with secondsDue := s.aux.secondsDue - 1 })) := by simpa using h
  exact ite_kept (ticked.step (wrapJobs_tableKept _)) ticked

/-! ### One command -/

/-- A request either leaves the table or does to it what its own part does. -/
theorem request_cases {c : Code} {lk : Link} {b : Byte} {serve : Serve}
    (h : request c lk b serve s = .next t) :
    table t = table s ∨ ∃ args, table t = table (serve args (takeRequest lk s)).2 := by
  unfold request at h
  split at h
  next f _ =>
    split at h
    · obtain rfl := Host.Outcome.next.inj h
      unfold answer
      dsimp only
      split
      · exact .inl (by simp)
      · exact .inr ⟨f.args, by simp⟩
    · exact .inl (by rw [Host.Outcome.next.inj h])
  · exact .inl (by rw [Host.Outcome.next.inj h])

theorem request_tableKept {c : Code} {lk : Link} {b : Byte} {serve : Serve} (hs : ServeKeeps serve)
    (h : request c lk b serve s = .next t) : TableKept s t := by
  rcases request_cases h with e | ⟨args, e⟩
  · exact .of_table e
  · exact (TableKept.of_table (takeRequest_table s lk)).trans ((hs args _).trans (.of_table e))

theorem timed_tableKept {dt : Nat} {f : State → State}
    (hf : ∀ u, TableFrom u (table (f u))) (h : timed dt f s = .next t) : TableKept s t := by
  obtain rfl := Host.Outcome.next.inj h
  exact (TableKept.of_table (elapse_table s dt)).trans (tableFrom_iff.1 (hf _))

/-- A block's part that leaves the table as it is. -/
theorem serveKeeps_of_table {serve : Serve} (h : ∀ args s, table (serve args s).2 = table s) :
    ServeKeeps serve := fun args s => .of_table (h args s)

theorem serveReadJob_keeps : ServeKeeps serveReadJob := serveKeeps_of_table fun args s => by
  unfold serveReadJob; (repeat' split) <;> rfl

theorem serveReadLeg_keeps : ServeKeeps serveReadLeg := fun args s => by
  unfold serveReadLeg
  split
  · refine onJob_kept fun x _ => ?_
    split <;> exact .refl s
  · exact .refl s

theorem serveReadRoute_keeps : ServeKeeps serveReadRoute := serveKeeps_of_table fun args s => by
  unfold serveReadRoute; (repeat' split) <;> rfl

theorem serveReadSetting_keeps : ServeKeeps serveReadSetting := serveKeeps_of_table fun args s => by
  unfold serveReadSetting; (repeat' split) <;> rfl

/-- The commands that empty entries of the job table: CLEAR_JOB and the two resets (R23, R26). -/
def empties : Instr → Bool
  | .clearJob _ _ => true
  | .machineReset _ _ => true
  | .powerOnReset _ _ _ _ _ => true
  | _ => false

/-- Every command but CLEAR_JOB and the resets keeps the job table and the mount queue. -/
theorem exec_tableKept {c : Instr} (hc : empties c = false) (h : exec c s = .next t) : TableKept s t := by
  cases c with
  | clearJob lk b => simp [empties] at hc
  | machineReset lk b => simp [empties] at hc
  | powerOnReset a b c d e => simp [empties] at hc
  | selectStart dt lk b =>
    change execSelectStart dt lk b s = .next t at h
    unfold execSelectStart at h
    exact timed_tableKept (fun u => by simp) h
  | selectRelease dt lk part =>
    change execSelectRelease dt lk part s = .next t at h
    unfold execSelectRelease at h
    exact timed_tableKept (fun u => by simp) h
  | replyRead dt lk =>
    change execReplyRead dt lk s = .next t at h
    unfold execReplyRead at h
    exact timed_tableKept (fun u => by simp) h
  | byteClock dt lk b =>
    change execByteClock dt lk b s = .next t at h
    unfold execByteClock at h
    exact timed_tableKept (fun u => by simp) h
  | unknownRequest lk b =>
    change execUnknownRequest lk b s = .next t at h
    unfold execUnknownRequest at h
    (repeat' split at h) <;> obtain rfl := Host.Outcome.next.inj h <;> exact .of_table (by simp)
  | openJob lk b => exact request_tableKept (serveOpenJob_keeps lk) h
  | addLeg lk b => exact request_tableKept (serveAddLeg_keeps lk) h
  | commitJob lk b => exact request_tableKept (serveCommitJob_keeps lk) h
  | cancelJob lk b => exact request_tableKept (serveCancelJob_keeps lk) h
  | setPriority lk b => exact request_tableKept serveSetPriority_keeps h
  | mount lk b => exact request_tableKept serveMount_keeps h
  | unmount lk b => exact request_tableKept serveUnmount_keeps h
  | skipLeg lk b => exact request_tableKept serveSkipLeg_keeps h
  | readJob lk b => exact request_tableKept serveReadJob_keeps h
  | readLeg lk b => exact request_tableKept serveReadLeg_keeps h
  | readQueue lk b => exact request_tableKept (serveKeeps_of_table fun _ _ => rfl) h
  | writeRoute lk b => exact request_tableKept serveWriteRoute_keeps h
  | eraseRoute lk b => exact request_tableKept serveEraseRoute_keeps h
  | readRoute lk b => exact request_tableKept serveReadRoute_keeps h
  | talk lk b => exact request_tableKept serveTalk_keeps h
  | endTalk lk b => exact request_tableKept serveEndTalk_keeps h
  | readLine lk b => exact request_tableKept (serveKeeps_of_table fun _ _ => rfl) h
  | drumRun lk b => exact request_tableKept serveDrumRun_keeps h
  | drumStop lk b => exact request_tableKept serveDrumStop_keeps h
  | readDrum lk b => exact request_tableKept (serveKeeps_of_table fun _ _ => rfl) h
  | holdQueue lk b => exact request_tableKept (serveKeeps_of_table fun _ _ => rfl) h
  | releaseQueue lk b => exact request_tableKept (fun _ u => releaseHold_tableKept u) h
  | setModes lk b => exact request_tableKept serveSetModes_keeps h
  | collectSlip lk b => exact request_tableKept serveCollectSlip_keeps h
  | reprintSlip lk b => exact request_tableKept serveReprintSlip_keeps h
  | setCollection lk b => exact request_tableKept serveSetCollection_keeps h
  | readSlipState lk b => exact request_tableKept (serveKeeps_of_table fun _ _ => rfl) h
  | writeSetting lk b => exact request_tableKept serveWriteSetting_keeps h
  | readSetting lk b => exact request_tableKept serveReadSetting_keeps h
  | writeCurve lk b => exact request_tableKept serveWriteCurve_keeps h
  | readCurve lk b => exact request_tableKept (serveKeeps_of_table fun _ _ => rfl) h
  | setClock lk b => exact request_tableKept serveSetClock_keeps h
  | readClock lk b => exact request_tableKept (serveKeeps_of_table fun _ _ => rfl) h
  | readAttn lk b => exact request_tableKept (fun _ u => readAttention_keeps lk u) h
  | setAttn lk b => exact request_tableKept (serveSetAttn_keeps lk) h
  | identify lk b => exact request_tableKept (serveKeeps_of_table fun _ _ => rfl) h
  | index dt sample drumFirst =>
    change execIndex dt sample drumFirst s = .next t at h
    unfold execIndex at h
    exact timed_tableKept (fun u => by simp) h
  | encoderPulse dt sample =>
    change execEncoderPulse dt sample s = .next t at h
    unfold execEncoderPulse at h
    exact timed_tableKept (fun u => by simp) h
  | positionStart dt sample =>
    change execPositionStart dt sample s = .next t at h
    unfold execPositionStart at h
    exact timed_tableKept (fun u => by (repeat' split) <;> simp) h
  | spanEnd dt =>
    change execSpanEnd dt s = .next t at h
    unfold execSpanEnd at h
    exact timed_tableKept (fun u => by simp) h
  | indexTimeout dt =>
    change execIndexTimeout dt s = .next t at h
    unfold execIndexTimeout at h
    exact timed_tableKept (fun u => by simp) h
  | spinupLimitExpiry dt =>
    change execSpinupLimitExpiry dt s = .next t at h
    unfold execSpinupLimitExpiry at h
    exact timed_tableKept (fun u => by simp) h
  | brakingStillness dt =>
    change execBrakingStillness dt s = .next t at h
    unfold execBrakingStillness at h
    exact timed_tableKept (fun u => by simp) h
  | idleStop dt =>
    change execIdleStop dt s = .next t at h
    unfold execIdleStop at h
    exact timed_tableKept (fun u => by simp) h
  | coverOpen dt =>
    change execCoverOpen dt s = .next t at h
    unfold execCoverOpen at h
    exact timed_tableKept (fun u => by simp) h
  | coverClose dt =>
    change execCoverClose dt s = .next t at h
    unfold execCoverClose at h
    exact timed_tableKept (fun u => by simp) h
  | headStep dt home =>
    change execHeadStep dt home s = .next t at h
    unfold execHeadStep at h
    exact timed_tableKept (fun u => by (repeat' split) <;> simp) h
  | homingFailure dt =>
    change execHomingFailure dt s = .next t at h
    unfold execHomingFailure at h
    exact timed_tableKept (fun u => by simp) h
  | scanStepEnd dt home =>
    change execScanStepEnd dt home s = .next t at h
    unfold execScanStepEnd at h
    exact timed_tableKept (fun u => by simp) h
  | phaseUpdate dt =>
    change execPhaseUpdate dt s = .next t at h
    unfold execPhaseUpdate at h
    exact timed_tableKept (fun u => by simp) h
  | markStepEnd dt =>
    change execMarkStepEnd dt s = .next t at h
    unfold execMarkStepEnd at h
    exact timed_tableKept (fun u => by (repeat' split) <;> simp) h
  | toneOnEnd dt =>
    change execToneOnEnd dt s = .next t at h
    unfold execToneOnEnd at h
    exact timed_tableKept (fun u => by simp) h
  | toneOffEnd dt =>
    change execToneOffEnd dt s = .next t at h
    unfold execToneOffEnd at h
    exact timed_tableKept (fun u => by simp) h
  | breakEnd dt =>
    change execBreakEnd dt s = .next t at h
    unfold execBreakEnd at h
    exact timed_tableKept (fun u => by simp) h
  | makeEnd dt =>
    change execMakeEnd dt s = .next t at h
    unfold execMakeEnd at h
    exact timed_tableKept (fun u => by simp) h
  | interdigitEnd dt =>
    change execInterdigitEnd dt s = .next t at h
    unfold execInterdigitEnd at h
    exact timed_tableKept (fun u => by simp) h
  | pauseEnd dt =>
    change execPauseEnd dt s = .next t at h
    unfold execPauseEnd at h
    exact timed_tableKept (fun u => by simp) h
  | flashEnd dt =>
    change execFlashEnd dt s = .next t at h
    unfold execFlashEnd at h
    exact timed_tableKept (fun u => by simp) h
  | seizeWindowEnd dt loop =>
    change execSeizeWindowEnd dt loop s = .next t at h
    unfold execSeizeWindowEnd at h
    exact timed_tableKept (fun u => by simp) h
  | readyEvent dt freq held =>
    change execReadyEvent dt freq held s = .next t at h
    unfold execReadyEvent at h
    exact timed_tableKept (fun u => by simp) h
  | answerTimeoutExpiry dt =>
    change execAnswerTimeoutExpiry dt s = .next t at h
    unfold execAnswerTimeoutExpiry at h
    exact timed_tableKept (fun u => by simp) h
  | prepareLimitExpiry dt =>
    change execPrepareLimitExpiry dt s = .next t at h
    unfold execPrepareLimitExpiry at h
    exact timed_tableKept (fun u => by simp) h
  | bridgeLimitExpiry dt =>
    change execBridgeLimitExpiry dt s = .next t at h
    unfold execBridgeLimitExpiry at h
    exact timed_tableKept (fun u => by simp) h
  | stopTimeExpiry dt =>
    change execStopTimeExpiry dt s = .next t at h
    unfold execStopTimeExpiry at h
    exact timed_tableKept (fun u => by simp) h
  | symbolDetected dt rowHz colHz held gap =>
    change execSymbolDetected dt rowHz colHz held gap s = .next t at h
    unfold execSymbolDetected at h
    exact timed_tableKept (fun u => by (repeat' split) <;> simp) h
  | answerbackWindowExpiry dt =>
    change execAnswerbackWindowExpiry dt s = .next t at h
    unfold execAnswerbackWindowExpiry at h
    exact timed_tableKept (fun u => by simp) h
  | answerbackDeadline dt =>
    change execAnswerbackDeadline dt s = .next t at h
    unfold execAnswerbackDeadline at h
    exact timed_tableKept (fun u => by simp) h
  | loopLost dt =>
    change execLoopLost dt s = .next t at h
    unfold execLoopLost at h
    exact timed_tableKept (fun u => by simp) h
  | guardTimeExpiry dt =>
    change execGuardTimeExpiry dt s = .next t at h
    unfold execGuardTimeExpiry at h
    exact timed_tableKept (fun u => by simp) h
  | clockSecond dt =>
    change execClockSecond dt s = .next t at h
    unfold execClockSecond at h
    exact timed_tableKept (fun u =>
      ite_kept (compareRetries_kept (clockTick_kept (tableFrom_self u))) (tableFrom_self u)) h
  | printCharacter dt paperOut busy =>
    change execPrintCharacter dt paperOut busy s = .next t at h
    unfold execPrintCharacter at h
    exact timed_tableKept (fun u => by (repeat' split) <;> simp) h
  | paperOutClears dt =>
    change execPaperOutClears dt s = .next t at h
    unfold execPaperOutClears at h
    exact timed_tableKept (fun u => by simp) h
  | busyTimeout dt =>
    change execBusyTimeout dt s = .next t at h
    unfold execBusyTimeout at h
    exact timed_tableKept (fun u => by simp) h
  | busyLowInFault dt =>
    change execBusyLowInFault dt s = .next t at h
    unfold execBusyLowInFault at h
    exact timed_tableKept (fun u => by simp) h
  | lampFrame dt paperOut =>
    change execLampFrame dt paperOut s = .next t at h
    unfold execLampFrame at h
    exact timed_tableKept (fun u => by simp) h
  | loopSenseChange dt present =>
    change execLoopSenseChange dt present s = .next t at h
    unfold execLoopSenseChange at h
    exact timed_tableKept (fun u => by simp) h

/-! ### The commands that empty entries -/

/-- Both invariants of the job table and the mount queue are kept. -/
structure RightKept (s t : State) : Prop where
  queue : MountQueueRight s → MountQueueRight t
  one : OneMountedOneActive s → OneMountedOneActive t

theorem TableKept.right (h : TableKept s t) : RightKept s t := ⟨h.queue, h.one⟩

theorem RightKept.trans {u : State} (h : RightKept s t) (k : RightKept t u) : RightKept s u :=
  ⟨k.queue ∘ h.queue, k.one ∘ h.one⟩

/-- A table with every entry FREE and no entry in the queue is right. -/
theorem rightKept_of_empty (hj : ∀ i, t.job? i = none) (he : t.mountQueue.entries = []) : RightKept s t := by
  refine ⟨fun _ => ⟨by simp [he], fun j => by simp [he, hj], by simp [he]⟩, fun _ => ⟨?_, ?_, ?_⟩⟩
  · intro i j x y hx
    simp [hj] at hx
  · rintro j l ⟨g, hg, -⟩
    simp [State.leg?, hj] at hg
  · rintro i l j m ⟨g, hg, -⟩
    simp [State.leg?, hj] at hg

/-- The entry of a terminal job becomes FREE (R23). -/
theorem clearEntry_rightKept {j : Nat} {x : Job} (hx : s.job? j = some x) (ht : x.state.terminal = true) :
    RightKept s ((s.setJob j none).causeJob x.owner) := by
  have hb : EntryBecomes j none s ((s.setJob j none).causeJob x.owner) := fun i => by
    rw [State.causeJob, cause_job, job_setJob _ _ _ _ (job_lt hx)]
  refine ⟨fun h => mountQueueRight_leave hb (by simp) ?_ h,
    oneMountedOneActive_retire hb (by simp) (by simp)⟩
  rw [causeJob_entries, entries_erase_of_not_queued h hx fun hq => by simp [hq, JobState.terminal] at ht]
  rfl

theorem serveClearJob_rightKept (lk : Link) (args : List Byte) (s : State) :
    RightKept s (serveClearJob lk args s).2 := by
  have same : RightKept s s := (TableKept.refl s).right
  unfold serveClearJob
  split
  · refine onJob_snd same fun x hx => ?_
    split
    · exact same
    next ht =>
      split
      · exact same
      · exact clearEntry_rightKept hx (by simpa using ht)
  · exact same

theorem request_rightKept {c : Code} {lk : Link} {b : Byte} {serve : Serve}
    (hs : ∀ args u, RightKept u (serve args u).2) (h : request c lk b serve s = .next t) :
    RightKept s t := by
  rcases request_cases h with e | ⟨args, e⟩
  · exact (TableKept.of_table e).right
  · exact (TableKept.of_table (takeRequest_table s lk)).right.trans
      ((hs args _).trans (TableKept.of_table e).right)

theorem machineReset_rightKept (s : State) : RightKept s (machineReset s) := by
  refine rightKept_of_empty (fun i => ?_) rfl
  change ((Vector.replicate 16 (none : Option Job))[i]?).join = none
  rw [Vector.getElem?_replicate]
  split <;> rfl

/-- Every command keeps the invariants of the job table and the mount queue. -/
theorem exec_rightKept {c : Instr} (h : exec c s = .next t) : RightKept s t := by
  by_cases hc : empties c = false
  · exact (exec_tableKept hc h).right
  · cases c with
    | clearJob lk b => exact request_rightKept (serveClearJob_rightKept lk) h
    | machineReset lk b => exact request_rightKept (fun _ u => machineReset_rightKept u) h
    | powerOnReset a b c d e =>
      obtain rfl := Host.Outcome.next.inj h
      refine rightKept_of_empty (fun i => ?_) rfl
      change ((Vector.replicate 16 (none : Option Job))[i]?).join = none
      rw [Vector.getElem?_replicate]
      split <;> rfl
    | _ => exact absurd rfl hc

/-- A step runs the front command, or lets one µs pass; either keeps the invariants. -/
theorem step_rightKept (h : step s = .next t) : RightKept s t := by
  unfold step at h
  split at h
  · obtain rfl := Host.Outcome.next.inj h
    exact (TableKept.of_table (elapse_table s 16)).right
  next c rest _ =>
    exact (TableKept.of_table (setPending_table s rest)).right.trans (exec_rightKept h)

/-- Settles O12: the mount queue stays exactly the QUEUED jobs, in the order of R7. -/
theorem stepsKeepMountQueueOrdered : Obligations.StepsKeepMountQueueOrdered :=
  fun _ _ hs h => (step_rightKept h).queue hs

/-- Settles O13: at most one job stays MOUNTED and one leg, of that job, ACTIVE. -/
theorem stepsKeepOneMountedOneActive : Obligations.StepsKeepOneMountedOneActive :=
  fun _ _ hs h => (step_rightKept h).one hs

/-- Settles O8: from `TableKept.lasts`, which every command but CLEAR_JOB and the resets satisfies. -/
theorem fixedJobFieldsAndEndedLegsStay : Obligations.FixedJobFieldsAndEndedLegsStay := by
  intro c s t h hp hc hm
  have he : empties c = false := by
    cases c with
    | powerOnReset => exact absurd rfl (hp _ _ _ _ _)
    | clearJob => exact absurd rfl (hc _ _)
    | machineReset => exact absurd rfl (hm _ _)
    | _ => rfl
  have kept := exec_tableKept he h
  refine ⟨fun j x hx => ?_, fun j l g hg ht => ?_⟩
  · obtain ⟨y, hy, k⟩ := kept.lasts j x hx
    exact ⟨y, hy, k.owner, k.slug, k.speed, k.samples, k.lineCount, k.retries, k.openTime⟩
  · obtain ⟨x, hx, hl⟩ := Option.bind_eq_some_iff.1 hg
    obtain ⟨y, hy, k⟩ := kept.lasts j x hx
    obtain ⟨k', hk', e⟩ := k.ended l g hl ht
    exact ⟨k', leg_of_job hy hk', e⟩

end Sys2Proof.PictureJobs

/-! The checks of a request that names a job, and a job's way from OPEN_JOB into the queue (R3 to R7). -/

namespace Sys2Proof.PictureJobs
open Machine Laws

variable {s u : State} {lk : Link} {b j : Byte}

/-! ### The checks of R3 -/

/-- A refusal as the link answers it (R174). -/
def refused (r : Result) (lk : Link) (s : State) : Out :=
  .next (placeReply lk { result := r, data := .empty } (takeRequest lk s))

/-- An answer as the link places it (R174). -/
def answered (lk : Link) (a : Reply × State) : Out := .next (placeReply lk a.1 a.2)

theorem answered_refuse (r : Result) (lk : Link) (s : State) :
    answered lk (refuse r (takeRequest lk s)) = refused r lk s := rfl

theorem onJob_of_large {n : Nat} (own : Option Link) (k : Job → Reply × State) (h : 15 < n) :
    onJob n own s k = refuse .badArgument s := if_pos h

theorem onJob_of_none {n : Nat} (own : Option Link) (k : Job → Reply × State) (h : n ≤ 15)
    (hn : s.job? n = none) : onJob n own s k = refuse .noSuchJob s := by
  unfold onJob
  rw [if_neg (by omega), hn]

theorem onJob_of_other {n : Nat} {x : Job} (k : Job → Reply × State) (hx : s.job? n = some x)
    (ho : x.owner ≠ lk) : onJob n (some lk) s k = refuse .notPermitted s := by
  have := job_lt hx
  unfold onJob
  rw [if_neg (by omega), hx]
  simp [ho]

/-- The requests that R3 checks. -/
def namesJob : List Code :=
  [codeAddLeg, codeCommitJob, codeCancelJob, codeClearJob, codeSetPriority, codeMount, codeUnmount,
    codeSkipLeg, codeReadLeg]

theorem eq_nil_of_taken_one {c : Code} {args : List Byte} (h : Taken c lk b (j :: args) s)
    (hc : c.hi = 1) : args = [] := by
  obtain ⟨-, hhi, -⟩ := h.admitted
  rw [hc] at hhi
  exact List.length_eq_zero_iff.1 (by simpa using hhi)

theorem eq_singleton_of_taken_two {c : Code} {args : List Byte} (h : Taken c lk b (j :: args) s)
    (hl : c.lo = 2) (hc : c.hi = 2) : ∃ a, args = [a] := by
  obtain ⟨hlo, hhi, -⟩ := h.admitted
  rw [hc] at hhi
  rw [hl] at hlo
  exact List.length_eq_one_iff.1 (by simp only [List.length_cons] at hlo hhi; omega)

/-- The requests that R3 leaves open to either link. -/
theorem not_limited {c : Code} (hc : c ∈ [codeSetPriority, codeMount, codeUnmount, codeSkipLeg, codeReadLeg]) :
    ¬(c = codeAddLeg ∨ c = codeCommitJob ∨ ((c = codeCancelJob ∨ c = codeClearJob) ∧ lk = .desk)) := by
  simp only [List.mem_cons, List.not_mem_nil, or_false] at hc
  rintro (h | h | ⟨h | h, -⟩) <;> subst h <;> revert hc <;> decide

/-- A request that names a job is answered through the checks of R3, the owner's check among them where
the request is limited to the link's own jobs. -/
theorem exec_of_namesJob {i : Instr} {c : Code} {args : List Byte} (hi : i.request? = some (c, lk, b))
    (ht : Taken c lk b (j :: args) s) (hc : c ∈ namesJob) :
    ∃ own k, exec i s = answered lk (onJob j.toNat own (takeRequest lk s) k) ∧
      ((c = codeAddLeg ∨ c = codeCommitJob ∨ ((c = codeCancelJob ∨ c = codeClearJob) ∧ lk = .desk)) →
        own = some lk) := by
  cases i with
  | addLeg lk' b' =>
    cases hi
    exact ⟨some lk, _, request_of_taken (serveAddLeg lk) ht, fun _ => rfl⟩
  | commitJob lk' b' =>
    cases hi
    obtain rfl := eq_nil_of_taken_one ht rfl
    exact ⟨some lk, _, request_of_taken (serveCommitJob lk) ht, fun _ => rfl⟩
  | cancelJob lk' b' =>
    cases hi
    obtain rfl := eq_nil_of_taken_one ht rfl
    refine ⟨_, _, request_of_taken (serveCancelJob lk) ht, fun h => ?_⟩
    rcases h with h | h | ⟨-, rfl⟩
    · exact absurd h (by decide)
    · exact absurd h (by decide)
    · rfl
  | clearJob lk' b' =>
    cases hi
    obtain rfl := eq_nil_of_taken_one ht rfl
    refine ⟨_, _, request_of_taken (serveClearJob lk) ht, fun h => ?_⟩
    rcases h with h | h | ⟨-, rfl⟩
    · exact absurd h (by decide)
    · exact absurd h (by decide)
    · rfl
  | setPriority lk' b' =>
    cases hi
    obtain ⟨p, rfl⟩ := eq_singleton_of_taken_two ht rfl rfl
    exact ⟨none, _, request_of_taken serveSetPriority ht, fun h => absurd h (not_limited (by decide))⟩
  | mount lk' b' =>
    cases hi
    obtain rfl := eq_nil_of_taken_one ht rfl
    exact ⟨none, _, request_of_taken serveMount ht, fun h => absurd h (not_limited (by decide))⟩
  | unmount lk' b' =>
    cases hi
    obtain rfl := eq_nil_of_taken_one ht rfl
    exact ⟨none, _, request_of_taken serveUnmount ht, fun h => absurd h (not_limited (by decide))⟩
  | skipLeg lk' b' =>
    cases hi
    obtain ⟨p, rfl⟩ := eq_singleton_of_taken_two ht rfl rfl
    exact ⟨none, _, request_of_taken serveSkipLeg ht, fun h => absurd h (not_limited (by decide))⟩
  | readLeg lk' b' =>
    cases hi
    obtain ⟨p, rfl⟩ := eq_singleton_of_taken_two ht rfl rfl
    exact ⟨none, _, request_of_taken serveReadLeg ht, fun h => absurd h (not_limited (by decide))⟩
  | _ => cases hi <;> exact absurd hc (by decide)

/-- Settles O22: the three refusals of `onJob`, for the nine requests it stands before. -/
theorem requestsNamingAJobAreCheckedInOrder : Obligations.RequestsNamingAJobAreCheckedInOrder := by
  intro i c lk b j args s hi ht hc
  obtain ⟨own, k, hexec, hown⟩ := exec_of_namesJob hi ht hc
  rw [hexec]
  refine ⟨fun h => ?_, fun h hn => ?_, fun x hx ho hr => ?_⟩
  · rw [onJob_of_large own k h]; rfl
  · rw [onJob_of_none own k h (by simpa using hn)]; rfl
  · rw [hown hr, onJob_of_other k (by simpa using hx) ho]; rfl

/-! ### OPEN_JOB, ADD_LEG and COMMIT_JOB (R4 to R6) -/

theorem rpm_ofNat_iff (n : Nat) (r : Rpm) :
    Rpm.ofNat? n = some r ↔ (n, r) ∈ [(60, Rpm.rpm60), (90, Rpm.rpm90), (120, Rpm.rpm120)] := by
  unfold Rpm.ofNat?
  split <;> simp_all [eq_comm]

theorem openArgsGood_iff (p samples lines r : Nat) (slug : List Byte) :
    openArgsGood p samples lines r slug = true ↔
      p ≤ 3 ∧ slug.length ≤ 24 ∧ (∀ ch ∈ slug, 32 ≤ ch.toNat ∧ ch.toNat ≤ 126) ∧
        256 ≤ samples ∧ samples ≤ 2048 ∧ 64 ∣ samples ∧ 16 ≤ lines ∧ lines ≤ 4000 ∧ r ≤ 7 := by
  simp only [openArgsGood, printable, Bool.and_eq_true, decide_eq_true_eq, List.all_eq_true,
    Nat.dvd_iff_mod_eq_zero, and_assoc]

theorem num2_eq (a b : Byte) : num2 a b = 256 * a.toNat + b.toNat := by
  rw [num2, Nat.mul_comm]

theorem freeEntry?_eq_none (h : ∀ i, i < 16 → s.job? i ≠ none) : s.freeEntry? = none := by
  simp only [State.freeEntry?, jobNumbers, List.find?_eq_none, List.mem_range]
  exact fun i hi => by simpa using h i hi

theorem freeEntry?_eq_some {n : Nat} (hn : n < 16) (hf : s.job? n = none)
    (hl : ∀ i, i < n → s.job? i ≠ none) : s.freeEntry? = some n := by
  simp only [State.freeEntry?, jobNumbers, List.find?_range_eq_some, List.mem_range]
  exact ⟨by simp [hf], hn, fun i hi => by simpa using Option.isSome_iff_ne_none.2 (hl i hi)⟩

/-- Settles O24. -/
theorem openJobFillsTheLowestFreeEntry : Obligations.OpenJobFillsTheLowestFreeEntry := by
  intro lk b p v s1 s0 t1 t0 r slug s ht samples lines good
  have good_iff : ∀ speed, good speed ↔ Rpm.ofNat? v.toNat = some speed ∧
      openArgsGood p.toNat (num2 s1 s0) (num2 t1 t0) r.toNat slug = true := fun speed => by
    rw [rpm_ofNat_iff, openArgsGood_iff, num2_eq, num2_eq]
  have hexec : exec (.openJob lk b) s = answered lk
      (serveOpenJob lk (p :: v :: s1 :: s0 :: t1 :: t0 :: r :: slug) (takeRequest lk s)) :=
    request_of_taken _ ht
  rw [hexec]
  unfold serveOpenJob
  refine ⟨fun hbad => ?_, fun speed hgood => ?_⟩
  · dsimp only
    split
    next speed hs hg => exact absurd ⟨speed, (good_iff speed).2 ⟨hs, hg⟩⟩ hbad
    next => rfl
  · obtain ⟨hs, hg⟩ := (good_iff speed).1 hgood
    simp only [hs, hg]
    refine ⟨fun hfull => ?_, fun n hn hf hl => ?_⟩
    · rw [freeEntry?_eq_none (by simpa using hfull)]
      rfl
    · rw [freeEntry?_eq_some hn (by simpa using hf) (by simpa using hl), takeRequest_stamp, num2_eq, num2_eq]
      rfl

/-- Settles O25. -/
theorem addLegAppendsAPendingLeg : Obligations.AddLegAppendsAPendingLeg := by
  intro lk b j route s x ht hx ho
  have hexec : exec (.addLeg lk b) s = answered lk (serveAddLeg lk (j :: route) (takeRequest lk s)) :=
    request_of_taken _ ht
  have hx' : (takeRequest lk s).job? j.toNat = some x := by simpa using hx
  rw [hexec]
  simp only [serveAddLeg]
  rw [onJob_of_job hx' _ _ fun _ h => Option.some.inj h ▸ ho]
  refine ⟨fun r hr => ?_, fun rt hrt => ?_⟩
  · rw [hr]; rfl
  · rw [hrt]
    dsimp only
    split
    · rfl
    · split <;> rfl

/-- Settles O26: the place in the queue, as `commitJob_eq` gives it, does not see the job itself. -/
theorem commitJobQueuesByPriorityAndNumber : Obligations.CommitJobQueuesByPriorityAndNumber := by
  intro lk b j s x ht hx ho
  have hexec : exec (.commitJob lk b) s = answered lk (serveCommitJob lk [j] (takeRequest lk s)) :=
    request_of_taken _ ht
  have hx' : (takeRequest lk s).job? j.toNat = some x := by simpa using hx
  rw [hexec]
  simp only [serveCommitJob]
  rw [onJob_of_job hx' _ _ fun _ h => Option.some.inj h ▸ ho]
  refine ⟨fun hs => ?_, fun hs hl => ?_, fun hs hl hj => ?_⟩
  · rw [if_pos hs]; rfl
  · rw [if_neg (not_not.2 hs), if_pos hl]; rfl
  · rw [if_neg (not_not.2 hs), if_neg hl, commitJob_eq hx',
      placedIn_setJob (commitEntry_becomes hx') (by simpa using hj),
      placedIn_congr _ s _ _ _ _ fun i _ => takeRequest_job lk s i]
    cases lk <;> rfl

end Sys2Proof.PictureJobs

/-! CANCEL_JOB (R19, R20). -/

namespace Sys2Proof.PictureJobs
open Machine Laws

variable {s t u : State} {lk : Link} {b j : Byte}

/-! ### CANCEL_JOB (R19, R20) -/

theorem queueBecomes_change (es : List Nat) (s : State) (j : Nat) :
    onlyJob j s (queueBecomes es s) ∧ (queueBecomes es s).slips = s.slips ∧
      (queueBecomes es s).mountQueue = { s.mountQueue with entries := es } ∧
      attnAs (if es.head? ≠ s.mountQueue.entries.head? then s.causeQueue else s) (queueBecomes es s) := by
  unfold queueBecomes
  dsimp only
  by_cases h : es.head? = s.mountQueue.entries.head?
  · rw [if_pos h, if_neg (not_not.2 h)]
    exact ⟨⟨rfl, fun _ _ => rfl⟩, rfl, rfl, rfl, rfl⟩
  · rw [if_neg h, if_pos h]
    exact ⟨⟨rfl, fun _ _ => rfl⟩, rfl, rfl, rfl, rfl⟩

/-- The end of a job: its frame, the queue and the causes (R18, R19, R25). -/
theorem endJob_change {j : Nat} {x : Job} (st : JobState) (hx : s.job? j = some x) :
    onlyJob j s (endJob j st s) ∧ (endJob j st s).slips = s.slips ∧
      (endJob j st s).mountQueue = { s.mountQueue with
        entries := if x.state = .queued then s.mountQueue.entries.erase j else s.mountQueue.entries } ∧
      attnAs (jobCauses x.owner true false (decide
        ((endJob j st s).mountQueue.entries.head? ≠ s.mountQueue.entries.head?)) s) (endJob j st s) ∧
      (endJob j st s).job? j = some { x with state := st } := by
  have hj := job_lt hx
  rw [endJob_eq st hx]
  dsimp only
  have hentry := job?_setJob_causeJob s { x with state := st } x.owner hj j
  rw [if_pos rfl] at hentry
  generalize hw : (s.setJob j (some { x with state := st })).causeJob x.owner = w at hentry ⊢
  have honly : onlyJob j s w := hw ▸ onlyJob_trans (onlyJob_setJob s _ hj) (onlyJob_cause ..)
  have hslips : w.slips = s.slips := by rw [← hw]; cases x.owner <;> rfl
  have hqueue : w.mountQueue = s.mountQueue := by rw [← hw]; cases x.owner <;> rfl
  have hattn : attnAs (s.causeJob x.owner) w := by rw [← hw]; cases x.owner <;> exact ⟨rfl, rfl⟩
  split
  · obtain ⟨qonly, qslips, qqueue, qattn⟩ := queueBecomes_change (w.mountQueue.entries.erase j) w j
    refine ⟨onlyJob_trans honly qonly, qslips.trans hslips, by rw [qqueue, hqueue], ?_,
      (queueBecomes_job _ _ j).trans hentry⟩
    rw [qqueue]
    obtain ⟨qd, qp⟩ := qattn
    obtain ⟨hd, hp⟩ := hattn
    dsimp only
    rw [hqueue] at qd qp ⊢
    by_cases h : (s.mountQueue.entries.erase j).head? = s.mountQueue.entries.head?
    · simp only [h, ne_eq, not_true_eq_false, if_false, decide_false] at qd qp ⊢
      exact ⟨qd.trans hd, qp.trans hp⟩
    · simp only [h, ne_eq, not_false_eq_true, if_true, decide_true] at qd qp ⊢
      exact ⟨qd.trans (congrArg (·.latch .queue) hd), qp.trans (congrArg (·.latch .queue) hp)⟩
  · refine ⟨honly, hslips, hqueue, ?_, hentry⟩
    simp only [hqueue, ne_eq, not_true_eq_false, decide_false]
    exact hattn

theorem attnAs_jobCauses_congr {o : Link} {p q r : Bool}
    (h : attnAs (jobCauses o p q r t) u) (hd : t.deskAttn = s.deskAttn) (hp : t.panelAttn = s.panelAttn) :
    attnAs (jobCauses o p q r s) u := by
  simpa only [attnAs, jobCauses_desk, jobCauses_panel, hd, hp] using h

theorem slipsHanded_congr {legs : List (Nat × Nat)} (hs : t.slips = s.slips) (h : slipsHanded legs t u) :
    slipsHanded legs s u := by
  simpa only [slipsHanded, hs] using h

theorem endedJob_iff (st : JobState) : st.terminal = true ↔ endedJob st := by
  cases st <;> simp [JobState.terminal, endedJob]

theorem cancelAccepted_iff (lk : Link) (st : JobState) : cancelAccepted lk st = true ↔
    (match lk with
      | .desk => st = .loading ∨ st = .queued
      | .panel => ¬ endedJob st) := by
  cases lk
  · cases st <;> simp [cancelAccepted]
  · simp [cancelAccepted, ← endedJob_iff]

/-- The leg states a cancel leaves, written as R19 says it. -/
theorem legsCancelled_all {x y : Job} {now : Stamp} (h : legsCancelled x y now x.legs.length) :
    y.legs.length = x.legs.length ∧ ∀ (l : Nat) (g : Leg), x.legs[l]? = some g → ∃ owed, y.legs[l]? = some
      (if g.state = .pending ∨ g.state = .retryWait then legEndedAs g .cancelled now owed else g) := by
  obtain ⟨-, hlen, hlegs⟩ := h
  refine ⟨hlen, fun l g hg => ?_⟩
  obtain ⟨owed, hy⟩ := hlegs l g hg
  obtain ⟨hl, -⟩ := List.getElem?_eq_some_iff.1 hg
  exact ⟨owed, by simpa [hl] using hy⟩

/-- A job cancelled with no leg ACTIVE: the waiting legs first, then the job (R19). -/
theorem endJob_cancelWaiting_change {j : Nat} {x : Job} (hx : s.job? j = some x) :
    ∃ y, legsCancelled x y s.stamp x.legs.length ∧
      onlyJob j s (endJob j .cancelled (cancelWaiting j s)) ∧
      slipsHanded (cancelledSlips j x) s (endJob j .cancelled (cancelWaiting j s)) ∧
      (endJob j .cancelled (cancelWaiting j s)).mountQueue = { s.mountQueue with
        entries := if x.state = .queued then s.mountQueue.entries.erase j else s.mountQueue.entries } ∧
      attnAs (jobCauses x.owner true
        (decide (cancelledSlips j x ≠ [] ∧ s.slips.queue.length < 8))
        (decide ((endJob j .cancelled (cancelWaiting j s)).mountQueue.entries.head? ≠
          s.mountQueue.entries.head?)) s) (endJob j .cancelled (cancelWaiting j s)) ∧
      (endJob j .cancelled (cancelWaiting j s)).job? j = some { y with state := .cancelled } := by
  obtain ⟨y, hy, hch⟩ := cancelWaiting_change hx
  obtain ⟨eonly, eslips, equeue, eattn, eentry⟩ := endJob_change .cancelled hch.entry
  have hown : y.owner = x.owner := by rw [hy.1]
  have hstate : y.state = x.state := by rw [hy.1]
  rw [hstate, hch.queue] at equeue
  rw [hown, hch.queue] at eattn
  refine ⟨y, hy, onlyJob_trans hch.only eonly, ?_, equeue, ?_, eentry⟩
  · simpa using slipsHanded_of_fit (slipsFit_trans hch.handed (slipsFit_nil eslips))
  · simpa using attnAs_jobCauses_trans hch.attn eattn

/-- The owner's check of R19 and R23, where it is the desk's alone. -/
theorem owner_of_desk {x : Job} (ho : lk = .desk → x.owner = .desk) (l : Link)
    (hl : (if lk = .desk then some lk else none) = some l) : x.owner = l := by
  split at hl
  next h => cases hl; exact (ho h).trans h.symm
  next => cases hl

/-- Settles O27: the waiting legs by `cancelWaiting_change`, the job by `endJob_change`. -/
theorem cancelJobEndsTheJobOrAsksForAnAbort : Obligations.CancelJobEndsTheJobOrAsksForAnAbort := by
  have serve : ∀ {lk b j s x}, Taken codeCancelJob lk b [j] s → s.job? j.toNat = some x →
      (lk = .desk → x.owner = .desk) → exec (.cancelJob lk b) s = answered lk
        (if !cancelAccepted lk x.state then refuse .wrongState (takeRequest lk s)
          else if x.state = .mounted ∧ x.cancelPending then accept (takeRequest lk s)
          else if x.hasActive then accept (cancelActive j.toNat x (takeRequest lk s))
          else accept (cancelIdle j.toNat x (takeRequest lk s))) := by
    intro lk b j s x ht hx ho
    refine (request_of_taken (serveCancelJob lk) ht).trans ?_
    simp only [serveCancelJob]
    rw [onJob_of_job (by simpa using hx) _ _ (owner_of_desk ho)]
    rfl
  refine ⟨?_, fun b j s x ht hx hm hp ha => ?_⟩
  · intro lk b j s x ht hx ho may
    have hmay : cancelAccepted lk x.state = true ↔ may := cancelAccepted_iff lk x.state
    rw [serve ht hx ho]
    refine ⟨fun h => ?_, fun h hm hp => ?_, fun h hp ha => ?_⟩
    · rw [if_pos (by simpa [← hmay] using h)]; rfl
    · rw [if_neg (by simp [hmay.2 h]), if_pos ⟨hm, hp⟩]; rfl
    · have idle : x.hasActive = false := (hasActive_eq_false_iff x).2 ha
      have hp' : ¬ (x.state = .mounted ∧ x.cancelPending = true) := fun ⟨hm, hc⟩ => by simp [hp hm] at hc
      rw [if_neg (by simp [hmay.2 h]), if_neg hp', idle]
      have hx' : (takeRequest lk s).job? j.toNat = some x := by simpa using hx
      obtain ⟨y, hy, honly, hslips, hqueue, hattn, hentry⟩ := endJob_cancelWaiting_change hx'
      simp only [takeRequest_slips, takeRequest_mountQueue, takeRequest_stamp] at hy hqueue hattn
      obtain ⟨hlen, hlegs⟩ := legsCancelled_all hy
      refine ⟨_, rfl, honly, slipsHanded_congr (by simp) hslips, hqueue,
        attnAs_jobCauses_congr hattn (by simp) (by simp), _, hentry, ?_, hlen, hlegs⟩
      rw [hy.1]
  · rw [serve ht hx (by simp), if_neg (by simp [cancelAccepted, hm, JobState.terminal]),
      if_neg (by simp [hp]), if_pos ((hasActive_eq_true_iff x).2 ha)]
    have hj := job_lt hx
    have hx' : ((takeRequest .panel s).setJob j.toNat (some { x with cancelPending := true })).job? j.toNat =
        some { x with cancelPending := true } := (job_setJob _ _ _ _ hj).trans (if_pos rfl)
    obtain ⟨y, hy, hch⟩ := cancelWaiting_change hx'
    obtain ⟨hlen, hlegs⟩ := legsCancelled_all hy
    refine ⟨_, rfl, onlyJob_trans (onlyJob_setJob _ _ hj) hch.only,
      slipsHanded_congr rfl (slipsHanded_of_fit hch.handed), hch.queue, ?_, y, hch.entry, ?_, hlen, hlegs⟩
    · exact attnAs_jobCauses_congr hch.attn rfl rfl
    · rw [hy.1]

end Sys2Proof.PictureJobs

/-! CLEAR_JOB, SET_PRIORITY, MOUNT and UNMOUNT (R10, R11, R22, R23). -/

namespace Sys2Proof.PictureJobs
open Machine Laws

variable {s t u : State} {lk : Link} {b j : Byte}

/-! ### CLEAR_JOB and SET_PRIORITY (R22, R23) -/

/-- Settles O28: for SET_PRIORITY, the place is looked up past the job's own entry (`placedIn_setJob`). -/
theorem clearJobAndSetPriorityChangeOneEntry : Obligations.ClearJobAndSetPriorityChangeOneEntry := by
  refine ⟨fun lk b j s x ht hx ho => ?_, fun lk b j p s x ht hx hnd => ?_⟩
  · have hexec : exec (.clearJob lk b) s = answered lk (serveClearJob lk [j] (takeRequest lk s)) :=
      request_of_taken _ ht
    rw [hexec]
    simp only [serveClearJob]
    rw [onJob_of_job (by simpa using hx) _ _ (owner_of_desk ho)]
    refine ⟨fun h => ?_, fun h hg => ?_, fun h hg => ?_⟩
    · rw [if_pos (by simpa [← endedJob_iff] using h)]; rfl
    · rw [if_neg (by simpa [← endedJob_iff] using h), if_pos (by simpa using hg)]; rfl
    · rw [if_neg (by simpa [← endedJob_iff] using h), if_neg (by simpa using hg)]; rfl
  · have hexec : exec (.setPriority lk b) s = answered lk (serveSetPriority [j, p] (takeRequest lk s)) :=
      request_of_taken _ ht
    have hx' : (takeRequest lk s).job? j.toNat = some x := by simpa using hx
    rw [hexec]
    simp only [serveSetPriority]
    rw [onJob_of_job hx' _ _ (by simp)]
    refine ⟨fun h => ?_, fun h he => ?_, fun h he => ?_⟩
    · rw [if_pos h]; rfl
    · rw [if_neg (by omega), if_pos ((endedJob_iff _).2 he)]; rfl
    · rw [if_neg (by omega), if_neg (mt (endedJob_iff _).1 he)]
      have hw : EntryBecomes j.toNat (some { x with priority := p.toNat }) (takeRequest lk s)
        ((takeRequest lk s).setJob j.toNat (some { x with priority := p.toNat })) :=
        entryBecomes_setJob _ (job_lt hx)
      have place := placedIn_setJob (p := p.toNat) (n := x.commitNumber.getD 0) hw
        (fun h => (hnd.mem_erase_iff.1 h).1 rfl)
      rw [moveInQueue_eq hw.same]
      dsimp only
      split
      · rfl
      · split
        · have entries : ((takeRequest lk s).setJob j.toNat
              (some { x with priority := p.toNat })).mountQueue.entries = s.mountQueue.entries := by
            cases lk <;> rfl
          rw [entries, place, placedIn_congr _ s _ _ _ _ fun i _ => takeRequest_job lk s i]
          rfl
        · rfl

/-! ### MOUNT and UNMOUNT (R10, R11) -/

/-- The resume points lost by an unmount, when no leg is ACTIVE (R11). -/
theorem unmounted_legs {x : Job} (ha : ∀ g ∈ x.legs, g.state ≠ .active) :
    x.legs.map Leg.unmounted = x.legs.map fun g =>
      if g.state = .pending ∨ g.state = .retryWait then { g with linesSent := 0 } else g := by
  refine List.map_congr_left fun g hg => ?_
  have := ha g hg
  unfold Leg.unmounted
  cases hs : g.state <;> simp_all [LegState.terminal]

/-- Settles O29, by `mountJob_eq` and `unmountJob_eq`. -/
theorem mountAndUnmountMoveAJobOutOfAndIntoTheQueue :
    Obligations.MountAndUnmountMoveAJobOutOfAndIntoTheQueue := by
  refine ⟨?_, fun lk b j s x ht hx => ?_⟩
  · intro lk b j s x ht hx free
    have hexec : exec (.mount lk b) s = answered lk (serveMount [j] (takeRequest lk s)) :=
      request_of_taken _ ht
    have hx' : (takeRequest lk s).job? j.toNat = some x := by simpa using hx
    have hsome : (takeRequest lk s).mounted?.isSome = true ↔ ¬ free := by
      rw [Option.isSome_iff_ne_none, takeRequest_mounted, Ne, mounted?_eq_none_iff]
    rw [hexec]
    simp only [serveMount]
    rw [onJob_of_job hx' _ _ (by simp)]
    simp only [takeRequest_drum]
    refine ⟨fun h => ?_, fun hs hc h => ?_, fun hs hc hf hq => ?_⟩
    · rw [if_pos h]; rfl
    · rw [if_neg (by simp [hs, hc]), if_pos (h.imp_left hsome.2)]; rfl
    · rw [if_neg (by simp [hs, hc]), if_neg (not_or.2 ⟨fun h => hsome.1 h hf, not_not.2 hq⟩), mountJob_eq hx']
      cases lk <;> rfl
  · have hexec : exec (.unmount lk b) s = answered lk (serveUnmount [j] (takeRequest lk s)) :=
      request_of_taken _ ht
    have hx' : (takeRequest lk s).job? j.toNat = some x := by simpa using hx
    rw [hexec]
    simp only [serveUnmount]
    rw [onJob_of_job hx' _ _ (by simp)]
    refine ⟨fun h => ?_, fun hm ha => ?_, fun hm ha hj => ?_⟩
    · rw [if_pos h]; rfl
    · rw [if_neg (not_not.2 hm), if_pos ((hasActive_eq_true_iff x).2 ha)]; rfl
    · rw [if_neg (not_not.2 hm), if_neg (by simp [(hasActive_eq_false_iff x).2 ha]), unmountJob_eq hx',
        placedIn_setJob (unmountEntry_becomes hx') (by simpa using hj),
        placedIn_congr _ s _ _ _ _ fun i _ => takeRequest_job lk s i, ← unmounted_legs ha]
      cases lk <;> rfl

end Sys2Proof.PictureJobs

/-! SKIP_LEG, the hold, progress events and the ends of legs and jobs (R9, R14, R16, R18, R21). -/

namespace Sys2Proof.PictureJobs
open Machine Laws

variable {s t u : State} {lk : Link} {b j : Byte}

/-! ### SKIP_LEG and the hold (R9, R21) -/

/-- With the leg set to a terminal one, all legs are terminal when all the others are. -/
theorem all_set_eq_all_eraseIdx {α : Type} {p : α → Bool} {a : α} (l : List α) (i : Nat) (ha : p a = true)
    (hi : i < l.length) : (l.set i a).all p = (l.eraseIdx i).all p := by
  rw [List.set_eq_take_append_cons_drop, if_pos hi, List.eraseIdx_eq_take_drop_succ]
  simp [ha]

/-- Settles O30: a leg skipped by `legTerminal_change`, the end of its job by its other legs. -/
theorem skipLegAndTheQueueHold : Obligations.SkipLegAndTheQueueHold := by
  refine ⟨fun lk b j l s x ht hx => ?_, fun lk b s ht => ?_, fun lk b s ht => ?_⟩
  · have hexec : exec (.skipLeg lk b) s = answered lk (serveSkipLeg [j, l] (takeRequest lk s)) :=
      request_of_taken _ ht
    have hx' : (takeRequest lk s).job? j.toNat = some x := by simpa using hx
    rw [hexec]
    simp only [serveSkipLeg]
    rw [onJob_of_job hx' _ _ (by simp)]
    refine ⟨fun h => ?_, fun g hg => ?_⟩
    · rw [List.getElem?_eq_none h]; rfl
    · rw [hg]
      dsimp only
      have ended : g.state.terminal = true ↔ g.state ≠ .active ∧ g.state ≠ .pending ∧ g.state ≠ .retryWait := by
        cases g.state <;> simp [LegState.terminal]
      refine ⟨fun h => ?_, fun hs ha => ?_, fun hs hw => ?_⟩
      · rw [if_pos (h.imp_right ended.2)]; rfl
      · rw [if_neg (by rw [ended]; tauto), if_pos ha]; rfl
      · have hopen : ¬((x.state ≠ .queued ∧ x.state ≠ .mounted) ∨ g.state.terminal = true) := by
          rw [ended]; tauto
        have hidle : g.state ≠ .active := fun h => by simp [h] at hw
        rw [if_neg hopen, if_neg hidle]
        obtain ⟨owed, hch⟩ := legTerminal_change .skipped hx' hg
        have hattn := legTerminal_attn .skipped hx' hg
        rw [takeRequest_slips] at hattn
        obtain ⟨hl, -⟩ := List.getElem?_eq_some_iff.1 hg
        refine ⟨_, owed, hch.only, hch.queue.trans (by simp), slipsHanded_congr (by simp)
          (slipsHanded_of_fit hch.handed), attnAs_jobCauses_congr hattn (by simp) (by simp),
          by simpa using hch.entry, ?_⟩
        rw [skipLeg, hch.entry]
        have hdue : jobEndDue { x with
              legs := x.legs.set l.toNat (legEndedAs g .skipped (takeRequest lk s).stamp owed) } =
            (x.legs.eraseIdx l.toNat).all fun h => h.state.terminal := by
          have hq : (x.state == .queued || x.state == .mounted) = true := by simpa using hs
          rw [jobEndDue, all_set_eq_all_eraseIdx _ _ rfl hl, hq, Bool.true_and]
        rw [Option.any_some, hdue]
        rfl
  · have hexec : exec (.holdQueue lk b) s = answered lk
        (accept (holdQueue .operator (takeRequest lk s))) :=
      request_of_taken (fun _ t => accept (holdQueue .operator t)) ht
    rw [hexec]
    cases lk <;> rfl
  · have hexec : exec (.releaseQueue lk b) s = answered lk
        (accept (releaseHold (takeRequest lk s))) :=
      request_of_taken (fun _ t => accept (releaseHold t)) ht
    rw [hexec, releaseHold, takeRequest_mountQueue]
    cases s.mountQueue.hold with
    | none => rfl
    | some r => cases lk <;> rfl

/-! ### Progress events and the ends of legs and jobs (R14, R16, R18) -/

/-- A progress event changes the leg of the call while it is ACTIVE (R14). -/
theorem modActive_of_active {j l : Nat} {x : Job} {g : Leg} (f : Leg → Leg)
    (ha : s.line.active = some (j, l)) (hx : s.job? j = some x) (hg : x.legs[l]? = some g)
    (hs : g.state = .active) :
    modActive f s = s.setJob j (some { x with legs := x.legs.set l (f g) }) := by
  simp only [modActive, ha]
  rw [modLeg_eq _ hx hg, if_pos hs]

/-- An entry written again as it stands. -/
theorem setJob_self {j : Nat} {x : Job} (hx : s.job? j = some x) : s.setJob j (some x) = s := by
  have hj := job_lt hx
  have hget : s.jobs[j] = some x := by simpa [State.job?, hj] using hx
  have same : s.jobs.setIfInBounds j (some x) = s.jobs := by
    ext i hi
    by_cases h : j = i
    · subst h; simp [hget]
    · simp [h]
  exact congrArg s.setJobs same

theorem modLeg_of_none {j l : Nat} (f : Leg → Leg) (h : s.leg? j l = none) : s.modLeg j l f = s := by
  unfold State.modLeg
  split
  next x hx =>
    have hl : x.legs.length ≤ l := by simpa [State.leg?, hx] using h
    rw [List.modify_eq_self hl]
    exact setJob_self hx
  next => rfl

/-- A leg that is no longer ACTIVE is not changed by a progress event (R14). -/
theorem modActive_of_not_active (f : Leg → Leg)
    (h : ∀ j l g, s.line.active = some (j, l) → s.leg? j l = some g → g.state ≠ .active) :
    modActive f s = s := by
  unfold modActive
  split
  next j l ha =>
    cases hg : s.leg? j l with
    | none => exact modLeg_of_none _ hg
    | some g =>
      obtain ⟨x, hx, hl⟩ := Option.bind_eq_some_iff.1 hg
      rw [modLeg_eq _ hx hl, if_neg (h j l g ha hg)]
      obtain ⟨hlt, hv⟩ := List.getElem?_eq_some_iff.1 hl
      rw [← hv, List.set_getElem_self]
      exact setJob_self hx
  next => rfl

/-- The verdict of the model is what R18 gives. -/
theorem jobVerdict_eq {x : Job} {st : JobState} (h : jobEndsAs x st) : jobVerdict x = st := by
  have delivered : ∀ g : Leg, g.state.deliveredState = true ↔
      (g.state = .confirmed ∨ g.state = .unconfirmed ∨ g.state = .wrongStation) := fun g => by
    cases g.state <;> simp [LegState.deliveredState]
  simp only [jobEndsAs, ← delivered] at h
  unfold jobVerdict
  split at h
  next hc => rw [if_pos hc, h]
  next hc =>
    rw [if_neg hc]
    split at h
    next hd => rw [if_pos (by simpa using hd), h]
    next hd =>
      rw [if_neg (by simpa using hd)]
      split at h
      next hn => rw [if_neg (by simpa using hn), h]
      next hn => rw [if_pos (by simpa using hn), h]

theorem jobEndDue_iff (x : Job) : jobEndDue x = true ↔
    (x.state = .queued ∨ x.state = .mounted) ∧ ∀ g ∈ x.legs, g.state.terminal = true := by
  simp [jobEndDue]

/-- Settles O31. -/
theorem legsAndJobsEndAsTheyStand : Obligations.LegsAndJobsEndAsTheyStand := by
  refine ⟨?_, fun s h => ⟨modActive_of_not_active _ h, fun k => modActive_of_not_active _ h⟩,
    fun s j l x g st hx hg => legTerminal_eq st hx hg, fun s j x st hx => ⟨fun hs ht he => ?_, fun h => ?_⟩⟩
  · intro s j l x g ha hx hg hs legBecomes noted
    exact ⟨modActive_of_active _ ha hx hg hs, modActive_of_active _ ha hx hg hs,
      modActive_of_active _ ha hx hg hs, modActive_of_active _ ha hx hg hs,
      modActive_of_active _ ha hx hg hs, modActive_of_active _ ha hx hg hs⟩
  · simp only [jobEndTest, hx]
    rw [if_pos ((jobEndDue_iff x).2 ⟨hs, ht⟩), jobVerdict_eq he, endJob_eq st hx]
    dsimp only
    rw [causeJob_entries]
    rfl
  · simp only [jobEndTest, hx]
    rw [if_neg fun hd => ?_]
    obtain ⟨hs, ht⟩ := (jobEndDue_iff x).1 hd
    rcases h with ⟨hq, hm⟩ | ⟨g, hg, hgt⟩
    · exact hs.elim hq hm
    · simp [ht g hg] at hgt

end Sys2Proof.PictureJobs

/-! The bytes of a route and the checks of R28 and R5. -/

namespace Sys2Proof.PictureJobs
open Machine Laws

/-! ### The bytes of a route (R28, R176) -/

/-- A reader that inverts a writer byte by byte inverts it on lists. -/
theorem readAll_eq_some_iff {α : Type} {f : Byte → Option α} {g : α → Byte}
    (h : ∀ b x, f b = some x ↔ g x = b) (bs : List Byte) (xs : List α) :
    readAll f bs = some xs ↔ xs.map g = bs := by
  induction bs generalizing xs with
  | nil => simp [readAll, eq_comm]
  | cons b bs ih =>
    simp only [readAll, Option.bind_eq_some_iff, Option.map_eq_some_iff, h, ih]
    constructor
    · rintro ⟨x, rfl, ys, rfl, rfl⟩; rfl
    · intro hm
      obtain ⟨x, ys, rfl, hx, hy⟩ := List.map_eq_cons_iff.1 hm
      exact ⟨x, hx, ys, hy, rfl⟩

theorem digitOf_eq_some_iff (b : Byte) (d : Fin 10) : digitOf? b = some d ↔ digitChar d.val = b := by
  constructor
  · intro h
    unfold digitOf? at h
    split at h
    next hb =>
      obtain rfl := Option.some.inj h
      apply BitVec.eq_of_toNat_eq
      simp only [digitChar, BitVec.toNat_ofNat]
      omega
    next => cases h
  · rintro rfl
    revert d
    decide

theorem dialSymOf_eq_some_iff (b : Byte) (x : DialSym) : dialSymOf? b = some x ↔ dialChar x = b := by
  constructor
  · intro h
    unfold dialSymOf? at h
    (repeat' split at h) <;> try (cases h; subst b; rfl)
    obtain ⟨d, hd, rfl⟩ := Option.map_eq_some_iff.1 h
    exact (digitOf_eq_some_iff b d).1 hd
  · rintro rfl
    cases x with
    | digit d => revert d; decide
    | _ => rfl

/-- The byte of a dial mode, and of a pulse rate (R176). -/
theorem modeOf_eq_some_iff (b : Byte) (m : DialMode) :
    modeOf? b = some m ↔ (if m = .tone then 0 else 1) = b := by
  constructor
  · intro h
    unfold modeOf? at h
    (repeat' split at h) <;> cases h <;> subst b <;> rfl
  · rintro rfl
    cases m <;> rfl

theorem rateOf_eq_some_iff (b : Byte) (r : PulseRate) :
    rateOf? b = some r ↔ (if r = .pps10 then 10 else 20) = b := by
  constructor
  · intro h
    unfold rateOf? at h
    (repeat' split at h) <;> cases h <;> subst b <;> rfl
  · rintro rfl
    cases r <;> rfl

/-- Conditions 1, 2 and 4 of the route check, on symbols (R28). -/
theorem symsRight_iff (m : DialMode) (r : PulseRate) (ds : List DialSym) :
    (ds ≠ [] ∧ ds.length ≤ 24 ∧ ds.all (dialable m) = true) ↔
      dialRight { string := ds, mode := m, rate := r } := by
  have pulse : ds.all (dialable m) = true ↔ (m = .pulse → DialSym.star ∉ ds ∧ DialSym.hash ∉ ds) := by
    rw [List.all_eq_true]
    constructor
    · rintro h rfl
      exact ⟨fun hs => by simpa [dialable] using h _ hs, fun hs => by simpa [dialable] using h _ hs⟩
    · intro h x hx
      cases m with
      | tone => cases x <;> rfl
      | pulse =>
        obtain ⟨hstar, hhash⟩ := h rfl
        cases x with
        | star => exact absurd hx hstar
        | hash => exact absurd hx hhash
        | _ => rfl
  rw [pulse, ← List.length_pos_iff]
  rfl

/-- The check of R28 inverts the bytes of a dialable route. -/
theorem dialCheck_eq_some_iff (m r : Byte) (syms : List Byte) (d : DialSpec) :
    dialCheck m r syms = some d ↔ dialBytes d = m :: r :: syms ∧ dialRight d := by
  obtain ⟨ds, dm, dr⟩ := d
  have hbytes : dialBytes { string := ds, mode := dm, rate := dr } = m :: r :: syms ↔
      modeOf? m = some dm ∧ rateOf? r = some dr ∧ readAll dialSymOf? syms = some ds := by
    rw [modeOf_eq_some_iff, rateOf_eq_some_iff, readAll_eq_some_iff dialSymOf_eq_some_iff]
    simp only [dialBytes, List.cons.injEq]
  rw [hbytes, ← symsRight_iff]
  unfold dialCheck
  constructor
  · intro h
    split at h
    next m' r' ds' hm hr hd =>
      split at h
      next hok => cases h; exact ⟨⟨hm, hr, hd⟩, hok⟩
      next => cases h
    next => cases h
  · rintro ⟨⟨hm, hr, hd⟩, hok⟩
    rw [hm, hr, hd]
    exact if_pos hok

theorem dialCheck_eq_none_iff (m r : Byte) (syms : List Byte) :
    dialCheck m r syms = none ↔ ∀ d, dialRight d → dialBytes d ≠ m :: r :: syms := by
  simp only [Option.eq_none_iff_forall_ne_some, ne_eq, dialCheck_eq_some_iff, not_and]
  exact forall_congr' fun d => ⟨fun h hd hb => h hb hd, fun h hb hd => h hd hb⟩

theorem codeCheck_eq_some_iff (bs : List Byte) (c : Option (List (Fin 10))) :
    codeCheck bs = some c ↔
      ((c = none ∧ bs = []) ∨ ∃ e, c = some e ∧ digitsText e = bs ∧ 1 ≤ e.length ∧ e.length ≤ 8) := by
  have read : ∀ e, readAll digitOf? bs = some e ↔ digitsText e = bs := readAll_eq_some_iff digitOf_eq_some_iff bs
  have len : ∀ {e}, digitsText e = bs → e.length = bs.length := fun h => by simp [← h, digitsText]
  unfold codeCheck
  split
  next h =>
    subst h
    constructor
    · intro hc; exact .inl ⟨(Option.some.inj hc).symm, rfl⟩
    · rintro (⟨rfl, -⟩ | ⟨e, -, he, h1, -⟩)
      · rfl
      · have := len he; simp at this; simp [this] at h1
  next h =>
    have hpos : 1 ≤ bs.length := List.length_pos_iff.2 h
    split
    next h8 =>
      simp only [Option.map_eq_some_iff, read, h, and_false, false_or]
      constructor
      · rintro ⟨e, he, rfl⟩; exact ⟨e, rfl, he, by have := len he; omega, by have := len he; omega⟩
      · rintro ⟨e, rfl, he, -⟩; exact ⟨e, he, rfl⟩
    next h8 =>
      simp only [h, and_false, false_or, reduceCtorEq, false_iff, not_exists]
      rintro e ⟨-, he, -, h⟩
      have := len he
      omega

theorem labelCheck_iff (cs : List Byte) : labelCheck cs = true ↔
    1 ≤ cs.length ∧ cs.length ≤ 12 ∧ ∀ ch ∈ cs, 32 ≤ ch.toNat ∧ ch.toNat ≤ 126 := by
  simp [labelCheck, printable, and_assoc]

theorem storedRoute_eq_some_iff (f : RouteFrame) (x : RouteRec) : storedRoute f = some x ↔
    dialCheck f.mode f.rate f.syms = some x.dial ∧ codeCheck f.code = some x.code ∧
      x.label = f.label ∧ labelCheck f.label = true := by
  obtain ⟨label, dial, code⟩ := x
  unfold storedRoute
  constructor
  · intro h
    split at h
    next d c hd hc =>
      split at h
      next hl => cases h; exact ⟨hd, hc, rfl, hl⟩
      next => cases h
    next => cases h
  · rintro ⟨hd, hc, rfl, hl⟩
    rw [hd, hc]
    exact if_pos hl

/-! ### The routes of ADD_LEG and TALK (R5, R176) -/

/-- The bytes of a route that R5 refuses before the route check. -/
def malformedRoute (bs : List Byte) : Prop :=
  bs = [] ∨ (∃ k rest, bs = k :: rest ∧ 1 < k.toNat) ∨
    (∃ rest, bs = 0 :: rest ∧ ∀ i : Byte, rest = [i] → 23 < i.toNat) ∨
    ∃ rest, bs = 1 :: rest ∧ rest.length < 2

theorem parseRoute_of_malformed {bs : List Byte} (h : malformedRoute bs) :
    parseRoute bs = .error .badArgument := by
  rcases h with rfl | ⟨k, rest, rfl, hk⟩ | ⟨rest, rfl, hi⟩ | ⟨rest, rfl, hr⟩
  · rfl
  · have h0 : k ≠ 0 := by rintro rfl; simp at hk
    have h1 : k ≠ 1 := by rintro rfl; simp at hk
    exact (if_neg h0).trans (if_neg h1)
  · match rest with
    | [] => rfl
    | [i] => exact if_neg (Nat.not_le.2 (hi i rfl))
    | _ :: _ :: _ => rfl
  · match rest with
    | [] => rfl
    | [_] => rfl
    | _ :: _ :: _ => simp at hr

theorem parseRoute_directory {i : Byte} (h : i.toNat ≤ 23) : parseRoute [0, i] = .ok (.directory i.toNat) :=
  if_pos h

theorem parseRoute_explicit (m r : Byte) (syms : List Byte) : parseRoute (1 :: m :: r :: syms) =
    match dialCheck m r syms with
    | some d => .ok (.explicit d)
    | none => .error .routeBad := rfl

/-- The bytes of a route are malformed, or a directory route's, or an explicit route's. -/
theorem routeBytes_cases (bs : List Byte) : malformedRoute bs ∨ (∃ i : Byte, bs = [0, i] ∧ i.toNat ≤ 23) ∨
    ∃ m r syms, bs = 1 :: m :: r :: syms := by
  match bs with
  | [] => exact .inl (.inl rfl)
  | k :: rest =>
    by_cases hk : 1 < k.toNat
    · exact .inl (.inr (.inl ⟨k, rest, rfl, hk⟩))
    · by_cases h0 : k = 0
      · subst h0
        by_cases hd : ∃ i : Byte, rest = [i] ∧ i.toNat ≤ 23
        · obtain ⟨i, rfl, hi⟩ := hd
          exact .inr (.inl ⟨i, rfl, hi⟩)
        · refine .inl (.inr (.inr (.inl ⟨rest, rfl, fun i hi => ?_⟩)))
          by_contra hc
          exact hd ⟨i, hi, Nat.not_lt.1 hc⟩
      · have h1 : k = 1 := by bv_omega
        subst h1
        match rest with
        | [] => exact .inl (.inr (.inr (.inr ⟨[], rfl, by simp⟩)))
        | [m] => exact .inl (.inr (.inr (.inr ⟨[m], rfl, by simp⟩)))
        | m :: r :: syms => exact .inr (.inr ⟨m, r, syms, rfl⟩)

theorem parseRoute_routeBad_iff (bs : List Byte) : parseRoute bs = .error .routeBad ↔
    ∃ m r syms, bs = 1 :: m :: r :: syms ∧ dialCheck m r syms = none := by
  constructor
  · intro h
    rcases routeBytes_cases bs with hm | ⟨i, rfl, hi⟩ | ⟨m, r, syms, rfl⟩
    · rw [parseRoute_of_malformed hm] at h; cases h
    · rw [parseRoute_directory hi] at h; cases h
    · refine ⟨m, r, syms, rfl, ?_⟩
      rw [parseRoute_explicit] at h
      split at h
      next => cases h
      next hd => exact hd
  · rintro ⟨m, r, syms, rfl, hd⟩
    rw [parseRoute_explicit, hd]

theorem parseRoute_directory_iff (bs : List Byte) (n : Nat) : parseRoute bs = .ok (.directory n) ↔
    ∃ i : Byte, bs = [0, i] ∧ i.toNat = n ∧ n ≤ 23 := by
  constructor
  · intro h
    rcases routeBytes_cases bs with hm | ⟨i, rfl, hi⟩ | ⟨m, r, syms, rfl⟩
    · rw [parseRoute_of_malformed hm] at h; cases h
    · rw [parseRoute_directory hi] at h
      cases h
      exact ⟨i, rfl, rfl, hi⟩
    · rw [parseRoute_explicit] at h
      split at h <;> cases h
  · rintro ⟨i, rfl, rfl, hi⟩
    exact parseRoute_directory hi

theorem parseRoute_explicit_iff (bs : List Byte) (d : DialSpec) : parseRoute bs = .ok (.explicit d) ↔
    ∃ m r syms, bs = 1 :: m :: r :: syms ∧ dialCheck m r syms = some d := by
  constructor
  · intro h
    rcases routeBytes_cases bs with hm | ⟨i, rfl, hi⟩ | ⟨m, r, syms, rfl⟩
    · rw [parseRoute_of_malformed hm] at h; cases h
    · rw [parseRoute_directory hi] at h; cases h
    · refine ⟨m, r, syms, rfl, ?_⟩
      rw [parseRoute_explicit] at h
      split at h
      next hd => cases h; exact hd
      next => cases h
  · rintro ⟨m, r, syms, rfl, hd⟩
    rw [parseRoute_explicit, hd]

theorem parseRoute_error {bs : List Byte} {r : Result} (h : parseRoute bs = .error r) :
    (r = .badArgument ∧ malformedRoute bs) ∨ r = .routeBad := by
  rcases routeBytes_cases bs with hm | ⟨i, rfl, hi⟩ | ⟨m, r, syms, rfl⟩
  · rw [parseRoute_of_malformed hm] at h
    cases h
    exact .inl ⟨rfl, hm⟩
  · rw [parseRoute_directory hi] at h; cases h
  · rw [parseRoute_explicit] at h
    split at h <;> cases h
    exact .inr rfl

/-- Settles O23: the checks invert the writers `dialBytes` and `digitsText` byte by byte. -/
theorem routeCheckPassesExactlyTheDialableRoutes : Obligations.RouteCheckPassesExactlyTheDialableRoutes := by
  refine ⟨dialCheck_eq_some_iff, fun f x => ?_, parseRoute_directory_iff, fun bs d => ?_, fun bs => ?_,
    fun bs => ⟨fun h => ?_, parseRoute_of_malformed⟩, fun bs r h => ?_⟩
  · rw [storedRoute_eq_some_iff, dialCheck_eq_some_iff, codeCheck_eq_some_iff, labelCheck_iff]
    tauto
  · rw [parseRoute_explicit_iff]
    constructor
    · rintro ⟨m, r, syms, rfl, hd⟩
      obtain ⟨hb, hr⟩ := (dialCheck_eq_some_iff m r syms d).1 hd
      exact ⟨by rw [hb], hr⟩
    · rintro ⟨rfl, hr⟩
      exact ⟨_, _, _, rfl, (dialCheck_eq_some_iff _ _ _ d).2 ⟨rfl, hr⟩⟩
  · simp only [parseRoute_routeBad_iff, dialCheck_eq_none_iff]
  · rcases parseRoute_error h with ⟨-, hm⟩ | hr
    · exact hm
    · cases hr
  · exact (parseRoute_error h).imp_left And.left

end Sys2Proof.PictureJobs

/-! The reading requests (R8, R24, R31, R65, R81, R103, R119, R150, R167, R178, R192, R193, R195). -/

namespace Sys2Proof.PictureJobs
open Machine Laws

variable {s : State} {lk : Link} {b : Byte}

/-! ### The reading requests (R8, R24, R31, R167, R178, R192) -/

/-- A request that either link may send, in local mode as well, and that has one length (R177). -/
def openToBoth (c : Code) (n : Nat) : Prop :=
  c.lo = n ∧ c.hi = n ∧ c.desk = true ∧ c.panel = true ∧ c.shut = false

theorem taken_of_openToBoth {c : Code} {args : List Byte} (h : Arrives c lk b args s)
    (hc : openToBoth c args.length) : Taken c lk b args s := by
  obtain ⟨hlo, hhi, hdesk, hpanel, hshut⟩ := hc
  refine ⟨h, hlo.le, hhi.ge, ?_, fun ⟨_, _, hs⟩ => by simp [hshut] at hs⟩
  cases lk
  · exact hdesk
  · exact hpanel

/-- The answer to a request open to both links, from its block. -/
theorem request_of_openToBoth {c : Code} {args : List Byte} (serve : Serve) (h : Arrives c lk b args s)
    (hc : openToBoth c args.length) :
    request c lk b serve s = answered lk (serve args (takeRequest lk s)) :=
  request_of_taken serve (taken_of_openToBoth h hc)

theorem mounted?_eq_some {j : Nat} (h : s.mounted? = some j) :
    ∃ x, s.job? j = some x ∧ x.state = .mounted := by
  have := List.find?_some h
  simpa [Option.any_eq_true] using this

/-- The settings that exist (R188). -/
theorem settingKind_isSome_iff (n : Nat) : (settingKind? n).isSome = true ↔ ¬ (n = 0 ∨ 29 < n) := by
  by_cases h : n < 30
  · interval_cases n <;> simp [settingKind?]
  · have hn : settingKind? n = none := by
      unfold settingKind?
      split <;> try omega
      rfl
    simp [hn]; omega

/-- Settles O32. -/
theorem readingRequestsAnswerTheStateAndChangeNothing :
    Obligations.ReadingRequestsAnswerTheStateAndChangeNothing := by
  refine ⟨fun lk b s h => ⟨?_, mounted?_eq_none_iff, fun j => mounted?_eq_some⟩, fun lk b i s h => ?_,
    fun lk b s h => ?_, fun lk b n s h => ?_, fun lk b s h => ?_⟩
  · refine (request_of_openToBoth serveReadQueue h ⟨rfl, rfl, rfl, rfl, rfl⟩).trans ?_
    rw [serveReadQueue, takeRequest_mounted, takeRequest_mountQueue]
    rfl
  · refine (request_of_openToBoth serveReadRoute h ⟨rfl, rfl, rfl, rfl, rfl⟩).trans ?_
    simp only [serveReadRoute, takeRequest_routes]
    by_cases hi : i.toNat < 24
    · rw [if_neg (by omega), dif_pos hi, Vector.getElem?_eq_getElem hi, Option.join_some]
      cases s.routes[i.toNat] <;> rfl
    · rw [if_pos (by omega), dif_neg hi]
      rfl
  · refine (request_of_openToBoth _ h ⟨rfl, rfl, rfl, rfl, rfl⟩).trans ?_
    cases lk <;> rfl
  · refine (request_of_openToBoth serveReadSetting h ⟨rfl, rfl, rfl, rfl, rfl⟩).trans ?_
    simp only [serveReadSetting, settingKind_isSome_iff, takeRequest_settings, ite_not]
    split
    · rfl
    · unfold Settings.wire
      split <;> rfl
  · refine (request_of_openToBoth _ h ⟨rfl, rfl, rfl, rfl, rfl⟩).trans ?_
    cases lk <;> rfl

/-! ### The other records read (R24, R65, R81, R103, R119, R150, R193, R195) -/

theorem lockFactor_eq : ∀ n, lockFactor n = [5, 10, 20, 50].getD n 50
  | 0 => rfl
  | 1 => rfl
  | 2 => rfl
  | n + 3 => by cases n <;> rfl

/-- The place of a queued job, counted from 1. -/
theorem idxOf?_map_succ (es : List Nat) (j : Nat) : (es.idxOf? j).map (· + 1) =
    if j ∈ es then some (es.idxOf j + 1) else none := by
  by_cases h : j ∈ es
  · obtain ⟨n, hn⟩ := Option.isSome_iff_exists.1 (List.isSome_idxOf?.2 h)
    rw [if_pos h, List.idxOf_eq_getD_idxOf?, hn]
    rfl
  · rw [if_neg h, List.idxOf?_eq_none_iff.2 h]
    rfl

/-- Settles O33. -/
theorem recordsAreReadAsTheyStand : Obligations.RecordsAreReadAsTheyStand := by
  refine ⟨fun lk b j s h => ?_, fun lk b j l s x h hx => ?_, fun lk b s h => ?_, fun lk b s h => ?_,
    fun lk b s h => ?_, fun lk b s h => ?_⟩
  · have hexec : exec (.readJob lk b) s = answered lk (serveReadJob [j] (takeRequest lk s)) :=
      request_of_openToBoth serveReadJob h ⟨rfl, rfl, rfl, rfl, rfl⟩
    rw [hexec]
    simp only [serveReadJob, takeRequest_job]
    refine ⟨fun hj => ?_, fun hj hn => ?_, fun x hx => ?_⟩
    · rw [if_pos hj]; rfl
    · rw [if_neg (by omega), hn]; rfl
    · have := job_lt hx
      rw [if_neg (by omega), hx]
      simp only [jobView, idxOf?_map_succ, takeRequest_mountQueue, ite_and]
      rfl
  · refine (request_of_openToBoth serveReadLeg h ⟨rfl, rfl, rfl, rfl, rfl⟩).trans ?_
    simp only [serveReadLeg]
    rw [onJob_of_job (by simpa using hx) _ _ (by simp)]
    cases x.legs[l.toNat]? <;> rfl
  · refine (request_of_openToBoth _ h ⟨rfl, rfl, rfl, rfl, rfl⟩).trans ?_
    rw [takeRequest_curve]
    rfl
  · refine (request_of_openToBoth _ h ⟨rfl, rfl, rfl, rfl, rfl⟩).trans ?_
    rw [takeRequest_clock]
    rfl
  · refine (request_of_openToBoth _ h ⟨rfl, rfl, rfl, rfl, rfl⟩).trans ?_
    simp only [drumView, takeRequest_drum, takeRequest_settings, takeRequest_posTimer, takeRequest_head,
      ← lockFactor_eq]
    rfl
  · refine ⟨lineView s, (request_of_openToBoth _ h ⟨rfl, rfl, rfl, rfl, rfl⟩).trans ?_, ?_, ?_, ?_, ?_⟩
    · cases lk <;> rfl
    · have held : (s.dialBuf.any fun d => d.code.isSome) = decide (∃ d, s.dialBuf = some d ∧ d.code ≠ none) := by
        rw [Bool.eq_iff_iff, Option.any_eq_true, decide_eq_true_eq]
        simp only [Option.isSome_iff_ne_none]
      rw [← held]
      rfl
    · rfl
    · refine List.map_congr_left fun x _ => ?_
      cases x <;> rfl
    · rfl

end Sys2Proof.PictureJobs

/-! WRITE_CURVE, SET_CLOCK and the seconds of the clock (R17, R193 to R195). -/

namespace Sys2Proof.PictureJobs
open Machine Laws

variable {s : State} {lk : Link} {b : Byte}

/-! ### WRITE_CURVE (R193) -/

theorem nonDecreasing_iff : ∀ ps : List Nat, nonDecreasing ps = true ↔ ps.Pairwise (· ≤ ·)
  | [] => by simp [nonDecreasing]
  | [_] => by simp [nonDecreasing]
  | a :: b :: rest => by
    rw [nonDecreasing, Bool.and_eq_true, decide_eq_true_eq, nonDecreasing_iff (b :: rest),
      ← List.isChain_iff_pairwise, ← List.isChain_iff_pairwise, List.isChain_cons_cons]

/-- The 17 points that WRITE_CURVE brings make a curve. -/
theorem curveOf_of_length {ps : List Nat} (h : ps.length = 17) : ∃ c, curveOf? ps = some c ∧ c.toList = ps :=
  ⟨⟨ps.toArray, h⟩, dif_pos h, rfl⟩

/-! ### The clock (R17, R194, R195) -/

theorem retryReached_iff (s : State) : retryReached s = true ↔
    ∃ j x g due, s.mounted? = some j ∧ s.job? j = some x ∧ g ∈ x.legs ∧ g.state = .retryWait ∧
      g.notBefore = some due ∧ due.acrossWrap = false ∧
      (due.time.day < s.clock.day ∨ (due.time.day = s.clock.day ∧ due.time.second ≤ s.clock.second)) := by
  have reached : ∀ due : NotBefore, due.reached s.stamp = true ↔ due.acrossWrap = false ∧
      (due.time.day < s.clock.day ∨ (due.time.day = s.clock.day ∧ due.time.second ≤ s.clock.second)) :=
    fun due => by
      simp only [NotBefore.reached, Stamp.reached, Bool.and_eq_true, Bool.or_eq_true, Bool.not_eq_true',
        decide_eq_true_eq]
      exact Iff.rfl
  unfold retryReached
  cases hm : s.mounted? with
  | none => simp
  | some j =>
    simp only [Option.any_eq_true, List.any_eq_true, Bool.and_eq_true, beq_iff_eq, reached]
    constructor
    · rintro ⟨x, hx, g, hg, hs, due, hd, hr⟩
      exact ⟨j, x, g, due, rfl, hx, hg, hs, hd, hr⟩
    · rintro ⟨_, x, g, due, hj, hx, hg, hs, hd, hr⟩
      cases hj
      exact ⟨x, hx, g, hg, hs, due, hd, hr⟩

/-- The jobs of a clock that has wrapped (R17). -/
theorem wrapJobs_eq (s : State) : wrapJobs s = { s with
    jobs := s.jobs.map fun e => e.map fun x => { x with legs := x.legs.map fun g =>
      if g.state = .retryWait then
        { g with notBefore := g.notBefore.map fun due => { time := due.time, acrossWrap := false } }
      else g } } :=
  congrArg s.setJobs (wrapJobs_jobs s)

/-- One second of the clock (R194). -/
theorem tick_eq (k : Clock) : k.tick = { k with
    day := if k.second < 86399 then k.day else (k.day + 1) % 65536
    second := if k.second < 86399 then k.second + 1 else 0 } := by
  unfold Clock.tick
  by_cases h : k.second < 86399
  · rw [if_neg (by omega), if_pos h, if_pos h]
  · rw [if_pos (by omega), if_neg h, if_neg h]

/-- Settles O37. -/
theorem curveAndClockAreSetAndSecondsPass : Obligations.CurveAndClockAreSetAndSecondsPass := by
  refine ⟨fun lk b args s ht => ?_, ?_, ?_, retryReached_iff⟩
  · have hlen : (args.map BitVec.toNat).length = 17 := by
      obtain ⟨hlo, hhi, -⟩ := ht.admitted
      exact (List.length_map _).trans (Nat.le_antisymm hhi hlo)
    obtain ⟨c, hc, hlist⟩ := curveOf_of_length hlen
    have hexec : exec (.writeCurve lk b) s = answered lk (serveWriteCurve args (takeRequest lk s)) :=
      request_of_taken _ ht
    rw [hexec]
    simp only [serveWriteCurve, hc]
    have busy : callFieldsBusy (takeRequest lk s) = true ↔ s.legActive = true ∨ s.line.state = .talk := by
      simp [callFieldsBusy]
    refine ⟨fun h => ?_, fun h hb => ?_, fun h ha hl => ⟨c, hlist, ?_⟩⟩
    · have hf : nonDecreasing (args.map BitVec.toNat) = false :=
        Bool.eq_false_iff.2 (mt (nonDecreasing_iff _).1 h)
      rw [hf]
      rfl
    · rw [(nonDecreasing_iff _).2 h, if_neg (by simp), if_pos (busy.2 hb)]; rfl
    · rw [(nonDecreasing_iff _).2 h, if_neg (by simp), if_neg (mt busy.1 (by simp [ha, hl]))]
      rfl
  · intro lk b d1 d0 s2 s1 s0 s ht day second t
    have hday : num2 d1 d0 = day := num2_eq d1 d0
    have hsecond : num3 s2 s1 s0 = second := by
      rw [num3]; omega
    have hexec : exec (.setClock lk b) s =
        answered lk (serveSetClock [d1, d0, s2, s1, s0] (takeRequest lk s)) := request_of_taken _ ht
    have hset : setTime day second (takeRequest lk s) = t := by
      cases lk <;> rfl
    rw [hexec]
    simp only [serveSetClock, hday, hsecond, hset]
    by_cases h : 86399 < second
    · rw [if_pos h, if_pos h]; rfl
    · rw [if_neg h, if_neg h]; rfl
  · intro dt s t wraps u
    have hu : clockTick t = u := by
      unfold clockTick
      split
      next h => rw [wrapJobs_eq, tick_eq]; simp only [u, wraps, if_pos h]; rfl
      next h => rw [tick_eq]; simp only [u, wraps, if_neg h]; rfl
    have hexec : exec (.clockSecond dt) s =
      .next (if 0 < t.aux.secondsDue then compareRetries (clockTick t) else t) := rfl
    rw [hexec, hu]
    by_cases h : t.aux.secondsDue = 0
    · rw [if_neg (by omega), if_pos h]
    · rw [if_pos (by omega), if_neg h]; rfl

end Sys2Proof.PictureJobs

/-! The two resets (R26, R66, R82, R151, R179). -/

namespace Sys2Proof.PictureJobs
open Machine Laws

variable {s : State} {lk : Link} {b : Byte}

/-! ### MACHINE_RESET and POWER_ON_RESET (R26, R66, R82, R151, R179) -/

/-- A latch that is set just before all are cleared leaves nothing (R179). -/
theorem cleared_latch (a : Attn) (c : Cause) : (a.latch c).cleared = a.cleared := by
  rw [cleared_eq, cleared_eq]
  unfold Attn.latch
  split <;> rfl

theorem hookClosed_eq_false_iff (st : LineState) : st.hookClosed = false ↔ st = .idle ∨ st = .guard := by
  cases st <;> simp [LineState.hookClosed]

theorem drumRests_stopped (d : Drum) : d.toStopped = drumRests .stopped none d := rfl

theorem drumRests_braking (d : Drum) : d.toBraking = drumRests .braking none d := rfl

theorem drum_machineReset_eq (d : Drum) : d.machineReset = (match d.state with
    | .stopped => drumRests .stopped none d
    | .braking => { drumRests .braking none d with brakingTime := d.brakingTime }
    | .fault => if 2000000 ≤ d.indexTime then drumRests .stopped none d else drumRests .braking none d
    | _ => drumRests .braking none d) := by
  unfold Drum.machineReset
  have still : d.still = true ↔ 2000000 ≤ d.indexTime := decide_eq_true_iff
  simp only [drumRests_stopped, drumRests_braking, still] <;> rfl

/-- The head's count is kept at rest and in a step with none owed (R82). -/
theorem head_machineReset_eq (h : Head) : h.machineReset = { h with
    motion := if h.motion = .step ∧ h.owed = 0 then .step else .idle
    target := none, owed := 0
    valid := h.valid && decide (h.motion = .idle ∨ (h.motion = .step ∧ h.owed = 0)) } := by
  unfold Head.machineReset Head.kept
  cases hm : h.motion <;> by_cases ho : h.owed = 0 <;> simp [ho]

/-- What machine reset makes of every block but the line unit (R179). -/
theorem machineReset_eq (s : State) : machineReset s = { lineReset s with
    jobs := Vector.replicate 16 none
    commitCounter := 0
    mountQueue := { entries := [], hold := none }
    drum := (lineReset s).drum.machineReset, posTimer := PosTimer.reset
    head := (lineReset s).head.machineReset, scan := Scanner.reset
    ring := Vector.replicate 4 .free, modu := Modulator.reset, markGen := MarkGen.reset
    slips := { (lineReset s).slips with owed := [] }
    modes := { (lineReset s).modes with legEnd := false }
    deskAttn := (lineReset s).deskAttn.cleared, panelAttn := (lineReset s).panelAttn.cleared } := by
  unfold machineReset
  generalize lineReset s = t
  simp [emptyRing]
  rfl

/-- With the hook open the line stays in IDLE or GUARD (R151). -/
theorem lineReset_of_open (h : s.line.state.hookClosed = false) : lineReset s = { s with
    dialer := { s.dialer with state := .idle, breaks := 0, left := 0 }
    dialBuf := none
    line := { LineRec.reset with state := s.line.state, timer := s.line.timer } } := by
  have hook : (stopDialer s).line.state.hookClosed = false := h
  unfold lineReset
  simp only [hook]
  rfl

/-- With the hook closed it opens, and GUARD begins (R151). -/
theorem lineReset_of_closed (h : s.line.state.hookClosed = true) : lineReset s = { s with
    dialer := { s.dialer with state := .idle, breaks := 0, left := 0 }
    dialBuf := none
    line := { LineRec.reset with
      state := .guard
      timer := some { limit := .guardTime, left := 1000000 * s.settings.guardTime } }
    deskAttn := s.deskAttn.latch .line, panelAttn := s.panelAttn.latch .line
    aux := { s.aux with detTime := 0, sinceSymbol := none } } := by
  have hook : (stopDialer s).line.state.hookClosed = true := h
  have other : (stopDialer s).line.state ≠ .guard := fun hc => by rw [hc] at hook; cases hook
  have secs : sec s.settings.guardTime = 1000000 * s.settings.guardTime := Nat.mul_comm _ _
  unfold lineReset enterGuard
  simp only [hook, enterLine_eq, lineBecomes, if_neg other, if_true, ← secs]
  rfl

theorem powerOnReset_eq (coverOpen home loop paperOut busy : Bool) (s : State) :
    exec (.powerOnReset coverOpen home loop paperOut busy) s = .next { State.reset with
      pending := s.pending
      drum := { State.reset.drum with coverOpen := coverOpen }
      pins := { State.reset.pins with home := home, loop := loop, paperOut := paperOut, busy := busy } } := rfl

/-- Settles O60: by whether the hook is closed. -/
theorem resetsClearWhatTheSpecSaysAndKeepTheRest : Obligations.ResetsClearWhatTheSpecSaysAndKeepTheRest := by
  refine ⟨fun lk b s ht => ?_, powerOnReset_eq⟩
  have hexec : exec (.machineReset lk b) s = answered lk (accept (machineReset (takeRequest lk s))) :=
    request_of_taken (fun _ t => accept (machineReset t)) ht
  refine ⟨machineReset (takeRequest lk s), hexec, ?_⟩
  rw [machineReset_eq]
  cases hh : s.line.state.hookClosed with
  | false =>
    have hline := (hookClosed_eq_false_iff _).1 hh
    rw [lineReset_of_open (by simpa using hh), if_pos hline, if_pos hline]
    refine ⟨?_, fun l => ?_, ?_, ?_, ?_⟩
    · simp only [takeRequest_dialer, takeRequest_slips, takeRequest_modes]
      cases lk <;> rfl
    · cases lk <;> cases l <;> exact cleared_eq _
    · simp only [takeRequest_drum]; exact drum_machineReset_eq _
    · simp only [takeRequest_head]; exact head_machineReset_eq _
    · rcases hline with h | h <;> simp [h]
  | true =>
    have hline := mt (hookClosed_eq_false_iff s.line.state).2 (by simp [hh])
    rw [lineReset_of_closed (by simpa using hh), if_neg hline, if_neg hline]
    refine ⟨?_, fun l => ?_, ?_, ?_, ?_⟩
    · simp only [takeRequest_dialer, takeRequest_slips, takeRequest_modes]
      cases lk <;> rfl
    · cases lk <;> cases l <;> exact (cleared_latch _ _).trans (cleared_eq _)
    · simp only [takeRequest_drum]; exact drum_machineReset_eq _
    · simp only [takeRequest_head]; exact head_machineReset_eq _
    · simp [not_or.1 hline]

end Sys2Proof.PictureJobs

/-! The end of a leg's call (R15, R16, R18, R59, R144, R145). -/

namespace Sys2Proof.PictureJobs
open Machine Laws

variable {s t : State}

/-! ### What an end event makes of the leg and its job (R15, R16, R18, R59) -/

/-- Leg `l` of job `j` is `h`, and nothing outside the frame of a change of one job differs. -/
structure LegBecomes (j l : Nat) (x : Job) (h : Leg) (s t : State) : Prop where
  only : onlyJob j s t
  entry : t.job? j = some { x with legs := x.legs.set l h }

theorem legBecomes_setJob {j l : Nat} {x : Job} (h : Leg) (hx : s.job? j = some x) :
    LegBecomes j l x h s (s.setJob j (some { x with legs := x.legs.set l h })) :=
  ⟨onlyJob_setJob s _ (job_lt hx), (job_setJob s j j _ (job_lt hx)).trans (if_pos rfl)⟩

/-- A leg that has become `k` and then ends (R16). -/
theorem legBecomes_legTerminal {j l : Nat} {x : Job} {k : Leg} (st : LegState) (hl : l < x.legs.length)
    (ht : LegBecomes j l x k s t) :
    ∃ owed, LegBecomes j l x (legEndedAs k st s.stamp owed) s (legTerminal j l st t) := by
  obtain ⟨owed, hch⟩ := legTerminal_change (l := l) (g := k) st ht.entry (by simp [hl])
  refine ⟨owed, onlyJob_trans ht.only hch.only, ?_⟩
  rw [hch.entry, stamp_of_onlyJob ht.only]
  simp only [List.set_set]

/-- A result makes of the leg what R15 gives for it. -/
theorem applyResult_becomes {j l : Nat} {x : Job} {g : Leg} (res : LegResult) (hx : s.job? j = some x)
    (hg : x.legs[l]? = some g) :
    ∃ h, legResult s x g res h ∧ LegBecomes j l x h s (applyResult j l x g res s) := by
  obtain ⟨hl, -⟩ := List.getElem?_eq_some_iff.1 hg
  unfold applyResult legResult
  cases res with
  | delivered o ab gb =>
    dsimp only
    rw [modLeg_eq _ hx hg]
    obtain ⟨owed, h⟩ := legBecomes_legTerminal o.legState hl
      (legBecomes_setJob { g with answerback := ab, garbled := gb } hx)
    exact ⟨_, ⟨owed, by cases o <;> rfl⟩, h⟩
  | cancelled =>
    obtain ⟨owed, hch⟩ := legTerminal_change .cancelled hx hg
    exact ⟨_, ⟨owed, rfl⟩, hch.only, hch.entry⟩
  | reason r mf =>
    dsimp only
    rw [modLeg_eq _ hx hg]
    have noted := legBecomes_setJob (l := l) { g with lastReason := some r } hx
    split
    · obtain ⟨owed, h⟩ := legBecomes_legTerminal .failed hl noted
      exact ⟨_, ⟨owed, rfl⟩, h⟩
    · split
      · obtain ⟨owed, h⟩ := legBecomes_legTerminal .cancelled hl noted
        exact ⟨_, ⟨owed, rfl⟩, h⟩
      · split
        · rw [modLeg_eq (g := { g with lastReason := some r }) _ noted.entry (by simp [hl]), setJob_setJob]
          simp only [List.set_set]
          exact ⟨_, rfl, legBecomes_setJob _ hx⟩
        · obtain ⟨owed, h⟩ := legBecomes_legTerminal .failed hl noted
          exact ⟨_, ⟨owed, rfl⟩, h⟩

/-- The job end test changes at most the job's state (R18). -/
theorem jobEndTest_change {j : Nat} {x : Job} (hx : s.job? j = some x) :
    onlyJob j s (jobEndTest j s) ∧ ∃ st, (jobEndTest j s).job? j = some { x with state := st } := by
  simp only [jobEndTest, hx]
  split
  · obtain ⟨honly, -, -, -, hentry⟩ := endJob_change (jobVerdict x) hx
    exact ⟨honly, _, hentry⟩
  · exact ⟨onlyJob_refl j s, x.state, hx⟩

/-- The drum's idle time starts when a leg leaves ACTIVE under JOB demand (R59). -/
theorem startIdle_eq (s : State) : startIdle s = { s with
    drum := { s.drum with idleTime := if s.drum.demand = some .job then some 0 else s.drum.idleTime }
    aux := { s.aux with idleSub := if s.drum.demand = some .job then 0 else s.aux.idleSub } } := by
  unfold startIdle
  split <;> rfl

/-- `s` with what an end event may write taken from `t` (R15, R59). -/
def endFrame (s t : State) : State := { s with
  jobs := t.jobs, mountQueue := t.mountQueue, slips := t.slips, deskAttn := t.deskAttn
  panelAttn := t.panelAttn, aux := t.aux
  drum := { s.drum with idleTime := if s.drum.demand = some .job then some 0 else s.drum.idleTime } }

/-- The frame of an end event, whose parts change one job and start the idle time. -/
theorem endFrame_of_onlyJob {j : Nat} {a b : State} (ha : onlyJob j s a) (hb : onlyJob j (startIdle a) b) :
    b = endFrame s b := by
  have hab : b = frameOf (startIdle (frameOf s a)) b := hb.1.trans (by rw [← show a = frameOf s a from ha.1]; rfl)
  have haux : b.aux = (frameOf (startIdle (frameOf s a)) b).aux := congrArg State.aux hab
  refine hab.trans ?_
  rw [startIdle_eq] at haux ⊢
  unfold endFrame
  rw [haux]
  rfl

/-- The state after an end event for the ACTIVE leg (R15, R18, R59). -/
theorem endEvent_becomes {j l : Nat} {x : Job} {g : Leg} (res : LegResult) (hx : s.job? j = some x)
    (hg : x.legs[l]? = some g) (ha : g.state = .active) :
    (∃ y h, (endEvent j l res s).job? j = some y ∧ y.legs = x.legs.set l h ∧ legResult s x g res h) ∧
      endEvent j l res s = endFrame s (endEvent j l res s) ∧
      ∀ i, i ≠ j → (endEvent j l res s).job? i = s.job? i := by
  obtain ⟨h, hres, hbec⟩ := applyResult_becomes res hx hg
  simp only [endEvent, hx, leg_of_job hx hg]
  rw [if_pos ha]
  have hentry : (startIdle (applyResult j l x g res s)).job? j =
      some { x with legs := x.legs.set l h } := by
    rw [startIdle_eq]; exact hbec.entry
  obtain ⟨honly, st, hst⟩ := jobEndTest_change hentry
  refine ⟨⟨_, h, hst, rfl, hres⟩, endFrame_of_onlyJob hbec.only honly, fun i hi => ?_⟩
  rw [honly.2 i hi, startIdle_eq]
  exact hbec.only.2 i hi

/-! ### How a leg's call ends (R144, R145) -/

theorem legEndReport_eq (s : State) : legEndReport s =
    { s with modes := { s.modes with legEnd := s.modes.legEnd || s.modes.attended } } := by
  unfold legEndReport
  cases h : s.modes.attended
  · simp
  · simp [State.setModes]

/-- The scanner in IDLE, its lines abandoned (R102). -/
theorem emptyRing_scanIdle_eq (s : State) : emptyRing (scanIdle s) = { s with
    ring := Vector.replicate 4 .free
    scan := { Scanner.reset with
      dark := s.scan.dark, white := s.scan.white, lastWhite := s.scan.lastWhite } } := by
  unfold scanIdle abandonFilling emptyRing
  split <;> rfl

/-- The blocks of a call once it is over (R36, R69, R102, R107). -/
theorem callGone_eq (s : State) : callGone s = { s with
    ring := Vector.replicate 4 .free
    scan := { Scanner.reset with dark := s.scan.dark, white := s.scan.white, lastWhite := s.scan.lastWhite }
    posTimer := { PosTimer.reset with heldPeriod := s.posTimer.heldPeriod, lastRev := s.posTimer.lastRev }
    dialBuf := none } := by
  simp only [callGone, emptyRing_scanIdle_eq]
  rfl

/-- The line in another state: its record, the detector's own times and the attention (R122). -/
theorem enterLine_frame (st : LineState) (s : State) : ∃ a b, enterLine st s = { s with
    line := { s.line with
      state := st, hook := st.hookClosed, relay := st == .talk, detector := st.detector, timer := none }
    aux := { s.aux with detTime := 0, sinceSymbol := none }
    deskAttn := a, panelAttn := b } := by
  rw [enterLine_eq]
  unfold lineBecomes
  dsimp only
  split
  · exact ⟨_, _, rfl⟩
  · rw [State.causeLine, cause_frame]
    exact ⟨_, _, rfl⟩

/-- The line in TALK, or in GUARD with GUARD_TIME timed (R144, R145). -/
theorem talkOrGuard_frame (talk : Bool) (s : State) :
    ∃ a b, (if talk then enterLine .talk s else enterGuard s) = { s with
      line := { s.line with
        state := if talk then .talk else .guard
        hook := talk, relay := talk, detector := .off
        timer := if talk then none
          else some { limit := .guardTime, left := 1000000 * s.settings.guardTime } }
      aux := { s.aux with detTime := 0, sinceSymbol := none }
      deskAttn := a, panelAttn := b } := by
  cases talk
  · obtain ⟨a, b, h⟩ := enterLine_frame .guard s
    have secs : sec s.settings.guardTime = 1000000 * s.settings.guardTime := Nat.mul_comm _ _
    refine ⟨a, b, ?_⟩
    rw [if_neg (by simp), enterGuard, h, secs]
    rfl
  · obtain ⟨a, b, h⟩ := enterLine_frame .talk s
    exact ⟨a, b, h⟩

/-- What the end of a call makes of the line's record (R144, R145). -/
def lineEnded (talk : Bool) (e : LastEnding) (s : State) : LineRec := { s.line with
  state := if talk then .talk else .guard
  hook := talk, relay := talk, detector := .off
  timer := if talk then none else some { limit := .guardTime, left := 1000000 * s.settings.guardTime }
  kind := if talk then some .talk else none
  active := none, jobSpeed := none, jobS := none, jobT := none, prepared := false
  pictureReached := false, closing := none, talkAfter := false
  monitor := if talk then s.line.monitor else none
  lastEnding := some e }

/-- The parts of a call that end before the line leaves it, past the end event `e` (R144). -/
def callParts (talk : Bool) (ending : LastEnding) (e : State) : State := { e with
  modes := { e.modes with legEnd := e.modes.legEnd || e.modes.attended }
  dialer := { e.dialer with state := .idle, breaks := 0, left := 0 }
  markGen := { e.markGen with step := .idle, symbols := [], completed := 0, left := 0 }
  modu := e.modu.callEnd
  line := { e.line.clearCall with
    lastEnding := some ending
    kind := if talk then some .talk else none
    monitor := if talk then e.line.monitor else none } }

/-- The whole of `callEnd` past the end event `e` (R144). -/
theorem callEnd_eq {j l : Nat} {e : State} (res : LegResult) (loopLoss : Bool)
    (ha : s.line.active = some (j, l)) (he : endEvent j l res s = e) :
    ∃ a b, callEnd res loopLoss s = { e with
      modes := { e.modes with legEnd := e.modes.legEnd || e.modes.attended }
      dialer := { e.dialer with state := .idle, breaks := 0, left := 0 }
      markGen := { e.markGen with step := .idle, symbols := [], completed := 0, left := 0 }
      modu := e.modu.callEnd
      line := lineEnded (s.line.talkAfter && !loopLoss) (.leg j l res s.stamp) e
      ring := Vector.replicate 4 .free
      scan := { Scanner.reset with dark := e.scan.dark, white := e.scan.white, lastWhite := e.scan.lastWhite }
      posTimer := { PosTimer.reset with heldPeriod := e.posTimer.heldPeriod, lastRev := e.posTimer.lastRev }
      dialBuf := none
      aux := { e.aux with detTime := 0, sinceSymbol := none }
      deskAttn := a, panelAttn := b } := by
  have parts : callEnd res loopLoss s = callGone
      (let t := callParts (s.line.talkAfter && !loopLoss) (.leg j l res s.stamp) e
       if s.line.talkAfter && !loopLoss then enterLine .talk t else enterGuard t) := by
    simp only [callEnd, ha, he, legEndReport_eq]
    rfl
  obtain ⟨a, b, h⟩ := talkOrGuard_frame (s.line.talkAfter && !loopLoss)
    (callParts (s.line.talkAfter && !loopLoss) (.leg j l res s.stamp) e)
  refine ⟨a, b, ?_⟩
  rw [parts]
  dsimp only
  rw [h, callGone_eq]
  rfl

/-- Settles O42: the end event by `endEvent_becomes`, the rest by `callEnd_eq`. -/
theorem callEndsByItsResult : Obligations.CallEndsByItsResult := by
  intro s res loopLoss j l x g ha hx hg hs t talk
  obtain ⟨⟨y, h, hy, hlegs, hres⟩, hframe, -⟩ := endEvent_becomes res hx hg hs
  generalize he : endEvent j l res s = e at hy hframe
  obtain ⟨a, b, ht⟩ := callEnd_eq res loopLoss ha he
  rw [hframe] at hy ht
  change t = _ at ht
  clear_value t
  subst ht
  exact ⟨rfl, ⟨y, h, hy, hlegs, hres⟩, rfl, rfl, rfl, rfl, rfl, rfl, rfl, rfl, rfl⟩

end Sys2Proof.PictureJobs

/-! A leg start that finds no route, and the look after it (R12, R15, R123, R124). -/

namespace Sys2Proof.PictureJobs
open Machine Laws

variable {s : State} {j l : Nat} {x : Job} {g : Leg}

/-! ### What the arbiter finds (R12, R123) -/

theorem legEligible_iff_mayStart (now : Stamp) (g : Leg) : legEligible now g = true ↔ mayStart now g :=
  legEligible_iff now g

/-- The leg that the arbiter looks for is the lowest that may start. -/
theorem eligibleLeg_eq_some_iff : eligibleLeg s x = some l ↔
    ∃ g, x.legs[l]? = some g ∧ mayStart s.stamp g ∧
      ∀ (k : Nat) (h : Leg), k < l → x.legs[k]? = some h → ¬ mayStart s.stamp h := by
  simp only [eligibleLeg, List.find?_range_eq_some, List.mem_range, Option.any_eq_true, Bool.not_eq_true',
    ← legEligible_iff_mayStart]
  constructor
  · rintro ⟨⟨g, hg, he⟩, -, hlow⟩
    refine ⟨g, hg, he, fun k h hk hh hm => ?_⟩
    have := hlow k hk
    rw [hh] at this
    simp [hm] at this
  · rintro ⟨g, hg, he, hlow⟩
    obtain ⟨hl, -⟩ := List.getElem?_eq_some_iff.1 hg
    refine ⟨⟨g, hg, he⟩, hl, fun k hk => ?_⟩
    rw [List.getElem?_eq_getElem (by omega)]
    exact Bool.eq_false_iff.2 fun h => hlow k _ hk (List.getElem?_eq_getElem (by omega)) h

theorem eligibleLeg_eq_none (h : ∀ g ∈ x.legs, ¬ mayStart s.stamp g) : eligibleLeg s x = none := by
  rw [Option.eq_none_iff_forall_ne_some]
  intro l hl
  obtain ⟨g, hg, hm, -⟩ := eligibleLeg_eq_some_iff.1 hl
  exact h g (List.mem_of_getElem? hg) hm

/-- What the arbiter does with the leg that is next: its snapshot decides (R34, R124). -/
def legStart (n j l : Nat) (x : Job) (g : Leg) (s : State) : State :=
  match snapshot s g.route with
  | some b => beginCall j l x g b (takeClaim j l s)
  | none => arbiterLook n (noRouteEnd j l (takeClaim j l s))

theorem claimTaken_of_legIsNext (h : legIsNext s j l x g) (hm : x.state = .mounted) :
    claimTaken s j l = true := by
  obtain ⟨-, -, -, -, -, hx, hg, hmay, -, hc, ha⟩ := h
  exact claimTaken_iff.2 ⟨x, g, hx, hg, hm, hc, ha, (legEligible_iff_mayStart _ _).2 hmay⟩

theorem mounted_of_legIsNext (h : legIsNext s j l x g) : x.state = .mounted := by
  obtain ⟨-, -, -, -, hmounted, hx, -⟩ := h
  obtain ⟨y, hy, hs⟩ := mounted?_eq_some hmounted
  rwa [← Option.some.inj (hx.symm.trans hy)] at hs

/-- The arbiter starts the leg that is next. -/
theorem arbiterLook_of_legIsNext (n : Nat) (h : legIsNext s j l x g) :
    arbiterLook (n + 1) s = legStart n j l x g s := by
  have hclaim := claimTaken_of_legIsNext h (mounted_of_legIsNext h)
  obtain ⟨hidle, htalk, hhold, hend, hmounted, hx, hg, hmay, hlow, -, -⟩ := h
  have hleg : eligibleLeg s x = some l := eligibleLeg_eq_some_iff.2 ⟨g, hg, hmay, hlow⟩
  have hfree : ¬ (s.mountQueue.hold.isSome = true ∨ (s.modes.attended = true ∧ s.modes.legEnd = true)) := by
    simp [hhold, hend]
  simp only [arbiterLook, hidle, htalk, hmounted, hx, hleg, hg, hclaim]
  rw [if_neg (by simp), if_neg hfree, if_pos trivial]
  rfl

/-- Where no leg is next, the arbiter looks once. -/
theorem arbiterLook_of_no_next (n m : Nat) (h : ¬ ∃ j l x g, legIsNext s j l x g) :
    arbiterLook (n + 1) s = arbiterLook (m + 1) s := by
  unfold arbiterLook
  split
  · rfl
  next hidle =>
    split
    · rfl
    next htalk =>
      split
      · rfl
      next hfree =>
        split
        · rfl
        next j hj =>
          split
          · rfl
          next x hx =>
            split
            · rfl
            next l hl =>
              split
              · rfl
              next g hg =>
                split
                next hclaim =>
                  obtain ⟨g', hg', hmay, hlow⟩ := eligibleLeg_eq_some_iff.1 hl
                  obtain ⟨x', -, hx', -, -, hc, ha, -⟩ := claimTaken_iff.1 hclaim
                  obtain rfl : g = g' := Option.some.inj (hg.symm.trans hg')
                  obtain rfl : x = x' := Option.some.inj (hx.symm.trans hx')
                  obtain ⟨hhold, hend⟩ := not_or.1 hfree
                  exact absurd ⟨j, l, x, g, not_not.1 hidle, htalk, by simpa using hhold, hend, hj, hx, hg,
                    hmay, hlow, hc, ha⟩ h
                next => rfl

/-! ### A start that finds its directory entry EMPTY (R12, R15, R124) -/

/-- The claimed leg, ACTIVE with its not-before time removed (R12). -/
def claimedLeg (g : Leg) : Leg := { g with state := .active, notBefore := none }

theorem takeClaim_eq (hx : s.job? j = some x) (hg : x.legs[l]? = some g) :
    takeClaim j l s = s.setJob j (some { x with legs := x.legs.set l (claimedLeg g) }) :=
  modLeg_eq _ hx hg

/-- What a start with no route leaves: the leg FAILED, the other jobs, the line and the modes. -/
structure NoRoute (j l : Nat) (x : Job) (g : Leg) (s u : State) : Prop where
  entry : ∃ y owed, u.job? j = some y ∧
    y.legs = x.legs.set l (legEndedAs { g with lastReason := some .noRoute } .failed s.stamp owed)
  other : ∀ i, i ≠ j → u.job? i = s.job? i
  line : u.line = { s.line with
    kind := none, active := none, jobSpeed := none, jobS := none, jobT := none
    lastEnding := some (.leg j l (.reason .noRoute false) s.stamp) }
  modes : u.modes = { s.modes with legEnd := s.modes.legEnd || s.modes.attended }
  dialBuf : u.dialBuf = none

theorem noRouteEnd_noRoute (hx : s.job? j = some x) (hg : x.legs[l]? = some g) :
    NoRoute j l x g s (noRouteEnd j l (takeClaim j l s)) := by
  obtain ⟨hl, -⟩ := List.getElem?_eq_some_iff.1 hg
  have hj := job_lt hx
  rw [takeClaim_eq hx hg]
  have hx' : (s.setJob j (some { x with legs := x.legs.set l (claimedLeg g) })).job? j =
      some { x with legs := x.legs.set l (claimedLeg g) } := (job_setJob s j j _ hj).trans (if_pos rfl)
  obtain ⟨⟨y, h, hy, hlegs, owed, hres⟩, hframe, hother⟩ :=
    endEvent_becomes (l := l) (g := claimedLeg g) (.reason .noRoute false) hx' (by simp [hl]) rfl
  unfold noRouteEnd
  rw [legEndReport_eq]
  dsimp only
  generalize endEvent _ _ _ _ = e at hy hother hframe ⊢
  have hline : e.line = s.line := (congrArg State.line hframe).trans rfl
  have hmodes : e.modes = s.modes := (congrArg State.modes hframe).trans rfl
  refine ⟨⟨y, owed, hy, ?_⟩, fun i hi => (hother i hi).trans ((job_setJob s i j _ hj).trans (if_neg hi)),
    ?_, ?_, rfl⟩
  · rw [hlegs, hres]
    simp only [List.set_set]
    rfl
  · rw [State.setDialBuf_line, State.setLine_line, hline]
    rfl
  · rw [State.setDialBuf_modes, State.setLine_modes, hmodes]

/-- How many legs of a job have not ended. -/
def openLegs (x : Job) : Nat := x.legs.countP fun g => !g.state.terminal

theorem openLegs_set_terminal {h : Leg} (hg : x.legs[l]? = some g) (hgo : g.state.terminal = false)
    (hh : h.state.terminal = true) {y : Job} (hy : y.legs = x.legs.set l h) : openLegs y + 1 = openLegs x := by
  obtain ⟨hl, hv⟩ := List.getElem?_eq_some_iff.1 hg
  have hpos : 0 < x.legs.countP fun g => !g.state.terminal :=
    List.countP_pos_iff.2 ⟨g, List.mem_of_getElem? hg, by simp [hgo]⟩
  simp only [openLegs, hy, List.countP_set hl, hv, hgo, hh]
  simp
  omega

/-- At most so many legs of the MOUNTED job have not ended. -/
def openLegsAtMost (n : Nat) (s : State) : Prop :=
  ∀ j x, s.job? j = some x → x.state = .mounted → openLegs x ≤ n

theorem terminal_eq_false_of_mayStart {now : Stamp} (h : mayStart now g) : g.state.terminal = false :=
  terminal_eq_false_of_legEligible ((legEligible_iff_mayStart now g).2 h)

/-- A start with no route keeps R12. -/
theorem noRouteEnd_oneMountedOneActive (hone : OneMountedOneActive s) (h : legIsNext s j l x g) :
    OneMountedOneActive (noRouteEnd j l (takeClaim j l s)) := by
  have claimed := takeClaim_tableKept (claimTaken_of_legIsNext h (mounted_of_legIsNext h))
  have kept := tableFrom_iff.1 (noRouteEnd_kept j l ((tableFrom_self s).step claimed))
  exact kept.one hone

/-- A start with no route leaves one leg less to end, if its job is still MOUNTED. -/
theorem openLegsAtMost_noRoute {u : State} {n : Nat} (hone : OneMountedOneActive s)
    (h : legIsNext s j l x g) (hu : NoRoute j l x g s u) (hn : openLegsAtMost (n + 1) s) :
    openLegsAtMost n u := by
  have hm := mounted_of_legIsNext h
  obtain ⟨-, -, -, -, -, hx, hg, hmay, -⟩ := h
  obtain ⟨y, owed, hy, hlegs⟩ := hu.entry
  intro i z hz hzm
  by_cases hi : i = j
  · subst hi
    obtain rfl : y = z := Option.some.inj (hy.symm.trans hz)
    have := openLegs_set_terminal hg (terminal_eq_false_of_mayStart hmay) (by rfl) hlegs
    have := hn i x hx hm
    omega
  · rw [hu.other i hi] at hz
    exact absurd (hone.1 i j z x hz hx hzm hm) hi

/-- Once the looks are as many as the legs that may still be started, one more finds nothing new. -/
theorem arbiterLook_succ (n : Nat) (hone : OneMountedOneActive s) (hn : openLegsAtMost n s) :
    arbiterLook (n + 1) s = arbiterLook (n + 2) s := by
  induction n generalizing s with
  | zero =>
    refine arbiterLook_of_no_next 0 1 ?_
    rintro ⟨j, l, x, g, h⟩
    have hm := mounted_of_legIsNext h
    obtain ⟨-, -, -, -, -, hx, hg, hmay, -⟩ := h
    have hzero : openLegs x = 0 := Nat.le_zero.1 (hn j x hx hm)
    have := List.countP_eq_zero.1 hzero g (List.mem_of_getElem? hg)
    simp [terminal_eq_false_of_mayStart hmay] at this
  | succ n ih =>
    by_cases h : ∃ j l x g, legIsNext s j l x g
    · obtain ⟨j, l, x, g, h⟩ := h
      rw [arbiterLook_of_legIsNext _ h, arbiterLook_of_legIsNext _ h, legStart, legStart]
      cases snapshot s g.route with
      | some b => rfl
      | none =>
        have hu : NoRoute j l x g s (noRouteEnd j l (takeClaim j l s)) := by
          obtain ⟨-, -, -, -, -, hx, hg, -⟩ := h
          exact noRouteEnd_noRoute hx hg
        exact ih (noRouteEnd_oneMountedOneActive hone h) (openLegsAtMost_noRoute hone h hu hn)
    · exact arbiterLook_of_no_next _ _ h

/-- Settles O41: a start with no route by `noRouteEnd_noRoute`, the look after it by `arbiterLook_succ`. -/
theorem aLegWithNoRouteFailsAndTheArbiterLooksAgain :
    Obligations.ALegWithNoRouteFailsAndTheArbiterLooksAgain := by
  intro s j l i x g hone h hlen hroute hempty
  obtain ⟨hidle, -, -, -, -, hx, hg, -⟩ := id h
  have hu := noRouteEnd_noRoute hx hg
  have hone' := noRouteEnd_oneMountedOneActive hone h
  have hopen : openLegsAtMost 4 s := by
    intro k z hz hzm
    obtain rfl := hone.1 k j z x hz hx hzm (mounted_of_legIsNext h)
    obtain rfl : x = z := Option.some.inj (hx.symm.trans hz)
    exact List.countP_le_length.trans hlen
  have hopen' := openLegsAtMost_noRoute hone h hu hopen
  have hlook : prompt s = arbiterLook 4 (noRouteEnd j l (takeClaim j l s)) := by
    rw [prompt, arbiterLook_of_legIsNext _ h, legStart, hroute]
    simp [snapshot, hempty]
  generalize noRouteEnd j l (takeClaim j l s) = u at hu hone' hopen' hlook
  obtain ⟨y, owed, hy, hlegs⟩ := hu.entry
  refine ⟨u, hlook.trans (arbiterLook_succ 3 hone' hopen'), ?_, ?_, ?_, ?_, ?_, ?_, hu.dialBuf, ?_, hu.modes,
    y, owed, hy, hlegs⟩ <;> rw [hu.line]
  exact hidle

end Sys2Proof.PictureJobs

/-! What a prompt of the arbiter grants (R12, R13, R34, R47, R53, R54, R56, R63, R69, R86, R123, R124). -/

namespace Sys2Proof.PictureJobs
open Machine Laws

variable {s t : State} {j l : Nat} {x : Job} {g : Leg}

/-! ### A leg seizes the line and its picture is prepared (R12, R13, R69, R86, R124) -/

/-- The state with the fields of a leg's call and its snapshot (R124). -/
def callBegun (j l : Nat) (x : Job) (copy : DialBuf) (s : State) : State :=
  (s.setLine { s.line with
    kind := some .leg, active := some (j, l), jobSpeed := some x.speed, jobS := some x.samples
    jobT := some x.lineCount }).setDialBuf (some copy)

/-- The leg of an attempt that begins now (R12, R13). -/
def attempted (now : Stamp) (g : Leg) : Leg := { g with
  state := .active, notBefore := none, attempts := g.attempts + 1
  firstAttempt := g.firstAttempt.or (some now) }

/-- The claim and the attempt event are one change of the leg. -/
theorem attemptEvent_takeClaim (copy : DialBuf) (hx : s.job? j = some x) (hg : x.legs[l]? = some g) :
    attemptEvent j l (callBegun j l x copy (takeClaim j l s)) =
      callBegun j l x copy (s.setJob j (some { x with legs := x.legs.set l (attempted s.stamp g) })) := by
  obtain ⟨hl, -⟩ := List.getElem?_eq_some_iff.1 hg
  have hj := job_lt hx
  rw [takeClaim_eq hx hg]
  have entry : (callBegun j l x copy
      (s.setJob j (some { x with legs := x.legs.set l (claimedLeg g) }))).job? j =
      some { x with legs := x.legs.set l (claimedLeg g) } := (job_setJob s j j _ hj).trans (if_pos rfl)
  unfold attemptEvent
  rw [modLeg_eq (g := claimedLeg g) _ entry (by simp [hl])]
  simp only [List.set_set]
  exact congrArg (callBegun j l x copy) (setJob_setJob s j _ _)

theorem enterSeize_eq (s : State) : enterSeize s = (lineBecomes .seize s).startLimit .seizeWindow 300000 := by
  rw [enterSeize, enterLine_eq]
  rfl

theorem legSeizes_eq (copy : DialBuf) (hx : s.job? j = some x) (hg : x.legs[l]? = some g) :
    enterSeize (attemptEvent j l (callBegun j l x copy (takeClaim j l s))) = legSeizes j l x g copy s := by
  rw [attemptEvent_takeClaim copy hx hg, enterSeize_eq]
  rfl

/-- The position timer loaded and the scanner in WAIT_DRUM (R69, R86). -/
theorem picturePrepares_eq (x : Job) (resume : Nat) (s : State) :
    beginPreparation x.samples x.lineCount x.speed resume (loadTimer x.samples x.speed s) =
      picturePrepares x resume s := rfl

theorem takeClaim_drum (hx : s.job? j = some x) (hg : x.legs[l]? = some g) :
    (takeClaim j l s).drum = s.drum := by
  rw [takeClaim_eq hx hg]; rfl

/-- What the start of a leg with a good snapshot does, the drum's part left open (R124). -/
theorem beginCall_eq (copy : DialBuf) (hx : s.job? j = some x) (hg : x.legs[l]? = some g) :
    beginCall j l x g copy (takeClaim j l s) =
      let t := picturePrepares x g.linesSent (giveSpeed x.speed (legSeizes j l x g copy s))
      if startFaults s.drum then lineFault t else t := by
  have parts : beginCall j l x g copy (takeClaim j l s) =
      let t := picturePrepares x g.linesSent
        (giveSpeed x.speed (enterSeize (attemptEvent j l (callBegun j l x copy (takeClaim j l s)))))
      if startFaults (takeClaim j l s).drum then lineFault t else t := rfl
  rw [parts, legSeizes_eq copy hx hg, takeClaim_drum hx hg]

/-- The seize as it leaves the other blocks, and the line's own state (R122, R125). -/
theorem legSeizes_keeps (copy : DialBuf) : (legSeizes j l x g copy s).drum = s.drum ∧
    (legSeizes j l x g copy s).line.kind = some .leg ∧
    (legSeizes j l x g copy s).line.state = .seize := by
  unfold legSeizes lineBecomes
  dsimp only
  split <;> exact ⟨rfl, rfl, rfl⟩

/-! ### The drum is given the job's speed (R47, R53, R54, R56) -/

/-- The drum under the demand of a job of this speed (R56). -/
def demanded (r : Rpm) (d : Drum) : Drum :=
  { d with demand := some .job, idleTime := none, target := some r }

theorem demandDrum_of_rests (r : Rpm) (h : t.drum.state = .stopped ∨ t.drum.state = .braking) :
    demandDrum .job r t = { t with drum := drumSpinsUp (demanded r t.drum) } := by
  unfold demandDrum
  rw [if_pos h]
  rfl

theorem tracking_iff (st : DrumState) : st.tracking = true ↔ st ∈ [.locking, .locked, .slip] := by
  cases st <;> decide

theorem ne_of_tracking {a b : DrumState} (h : a.tracking = true) (hb : b.tracking = false) : a ≠ b := by
  rintro rfl
  rw [h] at hb
  cases hb

/-- A running drum that has this target already, or is in SPINUP, runs on. -/
theorem demandDrum_of_same (r : Rpm) (h : t.drum.state = .spinup ∨
    (t.drum.state ∈ [.locking, .locked, .slip] ∧ t.drum.target = some r)) :
    demandDrum .job r t = { t with drum := demanded r t.drum } := by
  rw [← tracking_iff] at h
  have hrests : ¬ (t.drum.state = .stopped ∨ t.drum.state = .braking) := by
    rintro (hs | hs) <;> simp [hs, DrumState.tracking] at h
  unfold demandDrum
  rw [if_neg hrests]
  rcases h with hs | ⟨hs, hr⟩
  · have hd : retarget r { t.drum with demand := some .job, idleTime := none } = demanded r t.drum := if_pos hs
    have hp : timeoutPassed (demanded r t.drum) = false := by
      simp [timeoutPassed, demanded, hs, DrumState.tracking]
    dsimp only
    rw [hd, if_neg (by simp [State.setDrum, hp])]
    rfl
  · have hd : retarget r { t.drum with demand := some .job, idleTime := none } = demanded r t.drum := by
      unfold retarget demanded
      rw [if_neg (ne_of_tracking hs rfl), if_neg (by simp [hr]), ← hr]
    dsimp only
    rw [hd, if_neg (by simp [hr])]
    rfl

/-- A drum that is not in its lock does not let the scanner leave WAIT_DRUM (R87). -/
theorem scanRetested_of_not_locked (s : State) (h : t.drum.state ≠ .locked) : scanRetested s t = t := by
  have hl : scanDrumLocked t = false := by
    unfold scanDrumLocked
    split <;> simp [Drum.lockedAt, h]
  unfold scanRetested scanWaitTest
  rw [hl]
  simp

/-- The LOST event with the cover closed (R54). -/
theorem drumLost_eq (s : State) : drumLost s = lostLock s :=
  scanRetested_of_not_locked s (t := lostLock s) (by simp [lostLock, drumSpinsUp])

/-- A drum tracking another speed goes to LOCKING, or loses its lock (R53, R54). -/
theorem demandDrum_of_other (r : Rpm) (h : t.drum.state ∈ [.locking, .locked, .slip])
    (hr : t.drum.target ≠ some r) : demandDrum .job r t =
      let u := { t with drum := { demanded r t.drum with state := .locking, lockCount := 0, spinupTime := none } }
      if t.drum.indexTime ≤ 2 * pNom r then u else lostLock u := by
  rw [← tracking_iff] at h
  have hrests : ¬ (t.drum.state = .stopped ∨ t.drum.state = .braking) := by
    exact not_or.2 ⟨ne_of_tracking h rfl, ne_of_tracking h rfl⟩
  have hd : retarget r { t.drum with demand := some .job, idleTime := none } =
      { demanded r t.drum with state := .locking, lockCount := 0, spinupTime := none } := by
    unfold retarget
    rw [if_neg (ne_of_tracking h rfl), if_pos (by simp [h, hr])]
    rfl
  unfold demandDrum
  rw [if_neg hrests]
  dsimp only
  rw [hd]
  have hp : timeoutPassed
      { demanded r t.drum with state := .locking, lockCount := 0, spinupTime := none } =
      decide (2 * pNom r < t.drum.indexTime) := rfl
  by_cases hi : t.drum.indexTime ≤ 2 * pNom r
  · rw [if_pos hi, if_neg (by simp [State.setDrum, hp, hi])]
    rfl
  · rw [if_neg hi, if_pos (by simpa [State.setDrum, hp, hr] using hi), drumLost_eq]
    rfl

/-! ### A drum that cannot serve the start (R56, R63, R197) -/

/-- The drum in FAULT, braked, with the queue held and the report at the scanner (R63). -/
def drumRefuses (cause : Option FaultCause) (t : State) : State :=
  (scanLost ({ t with
    drum := drumRests .fault cause t.drum
    mountQueue := { t.mountQueue with hold := some .drumFault } } : State).causeQueue).causeFault

theorem scanLost_drum (s : State) : (scanLost s).drum = s.drum := by
  unfold scanLost lineWithdrawn
  (repeat' split) <;> rfl

/-- The report of a lock lost leaves the line where it is, but for the PREPARED report (R92, R131). -/
theorem scanLost_line (s : State) : (scanLost s).line.state = s.line.state ∧
    (scanLost s).line.kind = s.line.kind := by
  unfold scanLost lineWithdrawn
  (repeat' split) <;> exact ⟨rfl, rfl⟩

theorem giveSpeed_of_fault (r : Rpm) (h : startFaults t.drum = true) :
    giveSpeed r t = drumRefuses (startFaultCause t.drum) t := by
  unfold giveSpeed scanFault
  have fault_ne : (faultEntry (startFaultCause t.drum) t).drum.state ≠ .locked := by
    rw [show (faultEntry (startFaultCause t.drum) t).drum.state = .fault from rfl]
    decide
  rw [if_pos h, scanRetested_of_not_locked _ (by rw [scanLost_drum]; exact fault_ne)]
  rfl

theorem headPositioned_line (s : State) : (headPositioned s).line = s.line := by
  unfold headPositioned scanPositioned scanWaitTest
  (repeat' split) <;> rfl

theorem enterHoming_line (s : State) : (enterHoming s).line = s.line := by
  unfold enterHoming homeReached
  dsimp only
  split
  · split
    · rw [headPositioned_line]; rfl
    · rfl
    · rfl
  · rfl

theorem positionIdle_line (p : Nat) (s : State) : (positionIdle p s).line = s.line := by
  unfold positionIdle
  split
  · split
    · exact headPositioned_line s
    · rfl
  · exact enterHoming_line s

/-- The head drive asked for a line does not touch the line unit (R78). -/
theorem positioningRequest_line (p : Nat) (s : State) : (positioningRequest p s).line = s.line := by
  unfold positioningRequest
  split
  · exact positionIdle_line ..
  · rfl
  · split
    · exact enterHoming_line _
    · split
      · exact headPositioned_line _
      · rfl
  · rfl

theorem lineFault_of_seize (h : t.line.kind = some .leg) (hs : t.line.state = .seize) :
    lineFault t = callEnd (.reason .drum true) false t := by
  unfold lineFault
  rw [if_pos h, hs]
  rfl

/-! ### What a prompt grants (R123, R124) -/

/-- A pending talk is granted (R123, R125). -/
theorem prompt_of_talk {p : PendingTalk} (hidle : s.line.state = .idle) (hp : s.line.pendingTalk = some p) :
    prompt s = talkSeizes p.route s := by
  rw [show prompt s = arbiterLook (4 + 1) s from rfl, arbiterLook, if_neg (not_not.2 hidle), hp]
  dsimp only
  rw [grantTalk, enterSeize_eq]
  rfl

/-- Nothing is granted while the queue is held or a leg end is not acknowledged, or with no leg to start. -/
theorem prompt_of_no_start (hidle : s.line.state = .idle) (hp : s.line.pendingTalk = none)
    (h : s.mountQueue.hold ≠ none ∨ (s.modes.attended = true ∧ s.modes.legEnd = true) ∨ s.mounted? = none ∨
      ∃ j x, s.mounted? = some j ∧ s.job? j = some x ∧ ∀ g ∈ x.legs, ¬ mayStart s.stamp g) :
    prompt s = s := by
  rw [show prompt s = arbiterLook (4 + 1) s from rfl, arbiterLook, if_neg (not_not.2 hidle), hp]
  dsimp only
  split
  · rfl
  next hfree =>
    obtain ⟨hhold, hend⟩ := not_or.1 hfree
    rcases h with h | h | h | ⟨j, x, hj, hx, hlegs⟩
    · exact absurd (Option.isSome_iff_ne_none.2 h) hhold
    · exact absurd h hend
    · rw [h]
    · simp only [hj, hx, eligibleLeg_eq_none hlegs]

/-- The snapshot of a route of one's own, or of a directory entry that is SET (R34). -/
theorem snapshot_of_good {copy : DialBuf}
    (h : (∃ d, g.route = .explicit d ∧ copy = { source := .explicit, dial := d, code := none }) ∨
      ∃ i r, g.route = .directory i ∧ s.routes[i]? = some (some r) ∧
        copy = { source := .directory i, dial := r.dial, code := r.code }) :
    snapshot s g.route = some copy := by
  rcases h with ⟨d, hr, rfl⟩ | ⟨i, r, hr, hi, rfl⟩
  · rw [hr]; rfl
  · simp [hr, snapshot, hi]

theorem startFaults_iff (d : Drum) : startFaults d = true ↔
    ((d.state = .stopped ∨ d.state = .braking) ∧ d.coverOpen = true) ∨ d.state = .fault := by
  simp [startFaults, or_comm]

/-- A leg starts on a drum that can serve it. -/
theorem prompt_of_start {copy : DialBuf} (h : legIsNext s j l x g) (hc : snapshot s g.route = some copy)
    (hf : startFaults s.drum = false) :
    prompt s = picturePrepares x g.linesSent (demandDrum .job x.speed (legSeizes j l x g copy s)) := by
  obtain ⟨-, -, -, -, -, hx, hg, -⟩ := id h
  have hdrum : (legSeizes j l x g copy s).drum = s.drum := (legSeizes_keeps copy).1
  have hspeed : giveSpeed x.speed (legSeizes j l x g copy s) =
      demandDrum .job x.speed (legSeizes j l x g copy s) := by
    rw [giveSpeed, if_neg (by simp [hdrum, hf])]
  rw [prompt, arbiterLook_of_legIsNext 4 h, legStart, hc]
  dsimp only
  rw [beginCall_eq copy hx hg]
  dsimp only
  rw [if_neg (by simp [hf]), hspeed]

/-- A leg starts on a drum in FAULT, or at rest with its cover open: its call ends at once. -/
theorem prompt_of_fault {copy : DialBuf} (h : legIsNext s j l x g) (hc : snapshot s g.route = some copy)
    (hf : startFaults s.drum = true) :
    prompt s = callEnd (.reason .drum true) false (picturePrepares x g.linesSent
      (drumRefuses (startFaultCause s.drum) (legSeizes j l x g copy s))) := by
  obtain ⟨-, -, -, -, -, hx, hg, -⟩ := id h
  obtain ⟨hdrum, hkind, hstate⟩ := legSeizes_keeps (s := s) (j := j) (l := l) (x := x) (g := g) copy
  rw [prompt, arbiterLook_of_legIsNext 4 h, legStart, hc]
  dsimp only
  rw [beginCall_eq copy hx hg]
  dsimp only
  rw [if_pos hf, giveSpeed_of_fault _ (by rw [hdrum]; exact hf), hdrum]
  have hline : (picturePrepares x g.linesSent
      (drumRefuses (startFaultCause s.drum) (legSeizes j l x g copy s))).line =
      (drumRefuses (startFaultCause s.drum) (legSeizes j l x g copy s)).line := positioningRequest_line ..
  obtain ⟨lstate, lkind⟩ := scanLost_line ({ legSeizes j l x g copy s with
    drum := drumRests .fault (startFaultCause s.drum) (legSeizes j l x g copy s).drum
    mountQueue := { (legSeizes j l x g copy s).mountQueue with hold := some .drumFault } } : State).causeQueue
  exact lineFault_of_seize (by rw [hline]; exact lkind.trans hkind) (by rw [hline]; exact lstate.trans hstate)

theorem not_resting_of_tracks {st : DrumState} (h : st ∈ [.locking, .locked, .slip]) :
    st ≠ .fault ∧ st ≠ .stopped ∧ st ≠ .braking := by
  have ht := (tracking_iff st).2 h
  exact ⟨ne_of_tracking ht rfl, ne_of_tracking ht rfl, ne_of_tracking ht rfl⟩

/-- Settles O40: the order of the arbiter's looks, and the drum's part of a start by its state. -/
theorem arbiterGrantsTheLineInOrder : Obligations.ArbiterGrantsTheLineInOrder := by
  refine ⟨prompt_of_not_idle, fun s p hidle hp => prompt_of_talk hidle hp,
    fun s hidle hp h => prompt_of_no_start hidle hp h, ?_⟩
  intro s j l x g copy h hcopy t d starts rests tracks
  have hc := snapshot_of_good hcopy
  have hdrum : t.drum = s.drum := (legSeizes_keeps copy).1
  have serves : ¬ (((s.drum.state = .stopped ∨ s.drum.state = .braking) ∧ s.drum.coverOpen = true) ∨
      s.drum.state = .fault) → prompt s = picturePrepares x g.linesSent (demandDrum .job x.speed t) :=
    fun hn => prompt_of_start h hc (Bool.eq_false_iff.2 (mt (startFaults_iff _).1 hn))
  refine ⟨fun hr hcover => ?_, fun hs => ?_, fun hs ht => ?_, fun hs => ?_⟩
  · have hn : s.drum.state ≠ .fault := by rcases hr with hr | hr <;> simp [hr]
    refine (serves (by simp [hcover, hn])).trans ?_
    rw [demandDrum_of_rests x.speed (by rw [hdrum]; exact hr), hdrum]
    rfl
  · have hn : s.drum.state ≠ .fault ∧ s.drum.state ≠ .stopped ∧ s.drum.state ≠ .braking := by
      rcases hs with hs | ⟨hs, -⟩
      · simp [hs]
      · exact not_resting_of_tracks hs
    refine (serves (by simp [hn])).trans ?_
    rw [demandDrum_of_same x.speed (by rw [hdrum]; exact hs), hdrum]
    rfl
  · have hn := not_resting_of_tracks hs
    refine (serves (by simp [hn])).trans ?_
    rw [demandDrum_of_other x.speed (by rw [hdrum]; exact hs) (by rw [hdrum]; exact ht), hdrum]
    rfl
  · refine (prompt_of_fault h hc ((startFaults_iff _).2 hs)).trans ?_
    rw [drumRefuses, hdrum]
    rfl

end Sys2Proof.PictureJobs

/-! The directory, the settings and the curve: written by their own requests and power-on reset alone
(R27, R188, R193). -/

namespace Sys2Proof.Directory
open Machine Laws PictureJobs

variable {s t : State} {lk : Link} {b : Byte} {c : Code} {serve : Serve}

/-! ### What a timed command and a request keep -/

/-- A field that passing time and the command's own event keep, the timed command keeps. -/
theorem timed_keeps {α : Type} (field : State → α) {dt : Nat} {f : State → State}
    (he : field (elapse dt s) = field s) (hf : ∀ u, field (f u) = field u) (h : timed dt f s = .next t) :
    field t = field s := by
  obtain rfl := Host.Outcome.next.inj h
  exact (hf _).trans he

/-- A field that is none of the links' and that the owning block keeps, the request keeps. -/
theorem request_keeps {α : Type} (field : State → α) (hl : ∀ lk r u, field (u.setLink lk r) = field u)
    (hs : ∀ args u, field (serve args u).2 = field u) (h : request c lk b serve s = .next t) :
    field t = field s := by
  unfold request at h
  split at h
  next f _ =>
    split at h
    · obtain rfl := Host.Outcome.next.inj h
      unfold answer
      dsimp only
      split
      · exact (hl _ _ _).trans (hl _ _ _)
      · exact (hl _ _ _).trans ((hs _ _).trans (hl _ _ _))
    · rw [Host.Outcome.next.inj h]
  · rw [Host.Outcome.next.inj h]

/-! ### The directory, the settings and the curve -/

/-- What stands until it is written: the route directory, the settings and the tone curve (R27, R188, R193). -/
def stored (s : State) : Vector (Option RouteRec) 24 × Settings × Vector Nat 17 :=
  (s.routes, s.settings, s.curve)

theorem stored_of_kept (h : Kept s t) : stored t = stored s := by
  have hs : still t = still s := h.still
  exact Prod.ext (congrArg Still.routes hs)
    (Prod.ext (congrArg Still.settings hs) (congrArg Still.curve hs))

@[simp] theorem setLink_stored (lk : Link) (r : LinkRec) (s : State) : stored (s.setLink lk r) = stored s := by
  cases lk <;> rfl

@[simp] theorem setAttn_stored (lk : Link) (a : Attn) (s : State) : stored (s.setAttn lk a) = stored s := by
  cases lk <;> rfl

@[simp] theorem setModes_stored (m : Modes) (s : State) : stored (s.setModes m) = stored s := (rfl)

@[simp] theorem clearLegEnd_stored (s : State) : stored (clearLegEnd s) = stored s :=
  stored_of_kept (by simp)

@[simp] theorem compareRetries_stored (s : State) : stored (compareRetries s) = stored s :=
  stored_of_kept (by simp)

@[simp] theorem beginSelect_stored (lk : Link) (b : Byte) (s : State) :
    stored (beginSelect lk b s) = stored s := by
  unfold beginSelect
  dsimp only
  (repeat' split) <;> simp

@[simp] theorem endSelect_stored (lk : Link) (part : Bool) (s : State) :
    stored (endSelect lk part s) = stored s := by
  unfold endSelect
  dsimp only
  (repeat' split) <;> simp

@[simp] theorem readReply_stored (lk : Link) (s : State) : stored (readReply lk s) = stored s := by
  unfold readReply
  dsimp only
  (repeat' split) <;> simp

@[simp] theorem sendByte_stored (lk : Link) (s : State) : stored (sendByte lk s) = stored s := by
  unfold sendByte
  dsimp only
  (repeat' split) <;> simp

@[simp] theorem clockByte_stored (lk : Link) (b : Byte) (s : State) : stored (clockByte lk b s) = stored s := by
  unfold clockByte receiveByte; (repeat' split) <;> simp

@[simp] theorem readAttention_stored (lk : Link) (s : State) : stored (readAttention lk s) = stored s := by
  cases lk <;> simp [readAttention]

@[simp] theorem changeModes_stored (x y : Bool) (s : State) : stored (changeModes x y s) = stored s := by
  cases y <;> simp [changeModes]

@[simp] theorem setTime_stored (day second : Nat) (s : State) : stored (setTime day second s) = stored s := (rfl)

@[simp] theorem clockTick_stored (s : State) : stored (clockTick s) = stored s := by
  unfold clockTick; split <;> rfl

/-- Machine reset keeps all three (R27, R188, R193). -/
@[simp] theorem machineReset_stored (s : State) : stored (machineReset s) = stored s := by
  rw [machineReset_eq]
  cases h : s.line.state.hookClosed with
  | false => rw [lineReset_of_open h]; rfl
  | true => rw [lineReset_of_closed h]; rfl

theorem elapse_stored (dt : Nat) (s : State) : stored (elapse dt s) = stored s := by simp [stored, elapse]

theorem timed_stored {dt : Nat} {f : State → State} (hf : ∀ u, stored (f u) = stored u)
    (h : timed dt f s = .next t) : stored t = stored s := timed_keeps stored (elapse_stored _ _) hf h

theorem timed_stored_of_kept {dt : Nat} {f : State → State} (hf : ∀ u, Kept u (f u))
    (h : timed dt f s = .next t) : stored t = stored s := timed_stored (fun u => stored_of_kept (hf u)) h

theorem request_stored (hs : ∀ args u, stored (serve args u).2 = stored u)
    (h : request c lk b serve s = .next t) : stored t = stored s :=
  request_keeps stored (fun _ _ _ => setLink_stored _ _ _) hs h

theorem request_stored_of_kept (hs : ∀ args u, Kept u (serve args u).2)
    (h : request c lk b serve s = .next t) : stored t = stored s :=
  request_stored (fun args u => stored_of_kept (hs args u)) h

theorem kept_onJob {j : Nat} {own : Option Link} {k : Job → Reply × State} (hk : ∀ x, Kept s (k x).2) :
    Kept s (onJob j own s k).2 := onJob_snd (Kept.refl s) fun x _ => hk x

/-! ### The owning blocks' parts, by what the shared operations keep -/

theorem serveOpenJob_kept (lk : Link) (args : List Byte) (u : State) : Kept u (serveOpenJob lk args u).2 := by
  unfold serveOpenJob; (repeat' split) <;> simp

theorem serveAddLeg_kept (lk : Link) (args : List Byte) (u : State) : Kept u (serveAddLeg lk args u).2 := by
  unfold serveAddLeg
  split
  · refine kept_onJob fun x => ?_
    (repeat' split) <;> simp
  · exact Kept.refl u

theorem serveCommitJob_kept (lk : Link) (args : List Byte) (u : State) :
    Kept u (serveCommitJob lk args u).2 := by
  unfold serveCommitJob
  split
  · refine kept_onJob fun x => ?_
    (repeat' split) <;> simp
  · exact Kept.refl u

theorem serveCancelJob_kept (lk : Link) (args : List Byte) (u : State) :
    Kept u (serveCancelJob lk args u).2 := by
  unfold serveCancelJob
  split
  · refine kept_onJob fun x => ?_
    (repeat' split) <;> simp
  · exact Kept.refl u

theorem serveClearJob_kept (lk : Link) (args : List Byte) (u : State) :
    Kept u (serveClearJob lk args u).2 := by
  unfold serveClearJob
  split
  · refine kept_onJob fun x => ?_
    (repeat' split) <;> simp
  · exact Kept.refl u

theorem serveSetPriority_kept (args : List Byte) (u : State) : Kept u (serveSetPriority args u).2 := by
  unfold serveSetPriority
  split
  · refine kept_onJob fun x => ?_
    dsimp only
    (repeat' split) <;> simp
  · exact Kept.refl u

theorem serveMount_kept (args : List Byte) (u : State) : Kept u (serveMount args u).2 := by
  unfold serveMount
  split
  · refine kept_onJob fun x => ?_
    (repeat' split) <;> simp
  · exact Kept.refl u

theorem serveUnmount_kept (args : List Byte) (u : State) : Kept u (serveUnmount args u).2 := by
  unfold serveUnmount
  split
  · refine kept_onJob fun x => ?_
    (repeat' split) <;> simp
  · exact Kept.refl u

theorem serveSkipLeg_kept (args : List Byte) (u : State) : Kept u (serveSkipLeg args u).2 := by
  unfold serveSkipLeg
  split
  · refine kept_onJob fun x => ?_
    (repeat' split) <;> simp
  · exact Kept.refl u

theorem serveTalk_kept (args : List Byte) (u : State) : Kept u (serveTalk args u).2 := by
  unfold serveTalk takeTalk; (repeat' split) <;> simp

theorem serveEndTalk_kept (args : List Byte) (u : State) : Kept u (serveEndTalk args u).2 := by
  unfold serveEndTalk; (repeat' split) <;> simp

theorem serveDrumRun_kept (args : List Byte) (u : State) : Kept u (serveDrumRun args u).2 := by
  unfold serveDrumRun
  split
  · split
    · exact Kept.refl u
    · split
      · exact Kept.refl u
      · split
        · exact Kept.refl u
        next hf =>
          split
          · exact Kept.refl u
          · exact demandDrum_kept _ _ (Kept.refl u) hf
  · exact Kept.refl u

theorem serveDrumStop_kept (args : List Byte) (u : State) : Kept u (serveDrumStop args u).2 := by
  unfold serveDrumStop; split <;> simp

theorem serveCollectSlip_kept (args : List Byte) (u : State) : Kept u (serveCollectSlip args u).2 := by
  unfold serveCollectSlip; split <;> simp

theorem serveReprintSlip_kept (args : List Byte) (u : State) : Kept u (serveReprintSlip args u).2 := by
  unfold serveReprintSlip; (repeat' split) <;> simp

theorem serveSetCollection_kept (args : List Byte) (u : State) : Kept u (serveSetCollection args u).2 := by
  unfold serveSetCollection; (repeat' split) <;> simp

theorem serveReadJob_kept (args : List Byte) (u : State) : Kept u (serveReadJob args u).2 := by
  unfold serveReadJob; (repeat' split) <;> simp

theorem serveReadLeg_kept (args : List Byte) (u : State) : Kept u (serveReadLeg args u).2 := by
  unfold serveReadLeg
  split
  · refine kept_onJob fun x => ?_
    split <;> simp
  · exact Kept.refl u

theorem serveReadRoute_kept (args : List Byte) (u : State) : Kept u (serveReadRoute args u).2 := by
  unfold serveReadRoute; (repeat' split) <;> simp

theorem serveReadSetting_kept (args : List Byte) (u : State) : Kept u (serveReadSetting args u).2 := by
  unfold serveReadSetting; (repeat' split) <;> simp

theorem serveSetModes_stored (args : List Byte) (u : State) : stored (serveSetModes args u).2 = stored u := by
  unfold serveSetModes; (repeat' split) <;> simp

theorem serveSetClock_stored (args : List Byte) (u : State) : stored (serveSetClock args u).2 = stored u := by
  unfold serveSetClock; (repeat' split) <;> simp

theorem serveSetAttn_stored (lk : Link) (args : List Byte) (u : State) :
    stored (serveSetAttn lk args u).2 = stored u := by
  unfold serveSetAttn; (repeat' split) <;> simp

/-! ### Every command -/

/-- The commands that may write one of the three: their own writes, and power-on reset (R27, R188, R193). -/
def writesStore : Instr → Bool
  | .writeRoute _ _ => true
  | .eraseRoute _ _ => true
  | .writeSetting _ _ => true
  | .writeCurve _ _ => true
  | .powerOnReset _ _ _ _ _ => true
  | _ => false

theorem unknownRequest_stored (h : execUnknownRequest lk b s = .next t) : stored t = stored s := by
  unfold execUnknownRequest at h
  (repeat' split at h) <;> obtain rfl := Host.Outcome.next.inj h <;> simp [placeReply, takeRequest]

theorem exec_stored {c : Instr} (hc : writesStore c = false) (h : exec c s = .next t) : stored t = stored s := by
  cases c with
  | writeRoute lk b => cases hc
  | eraseRoute lk b => cases hc
  | writeSetting lk b => cases hc
  | writeCurve lk b => cases hc
  | powerOnReset a b c d e => cases hc
  | selectStart dt lk b => exact timed_stored (beginSelect_stored lk b) h
  | selectRelease dt lk part => exact timed_stored (endSelect_stored lk part) h
  | replyRead dt lk => exact timed_stored (readReply_stored lk) h
  | byteClock dt lk b => exact timed_stored (clockByte_stored lk b) h
  | unknownRequest lk b => exact unknownRequest_stored h
  | openJob lk b => exact request_stored_of_kept (serveOpenJob_kept lk) h
  | addLeg lk b => exact request_stored_of_kept (serveAddLeg_kept lk) h
  | commitJob lk b => exact request_stored_of_kept (serveCommitJob_kept lk) h
  | cancelJob lk b => exact request_stored_of_kept (serveCancelJob_kept lk) h
  | clearJob lk b => exact request_stored_of_kept (serveClearJob_kept lk) h
  | setPriority lk b => exact request_stored_of_kept serveSetPriority_kept h
  | mount lk b => exact request_stored_of_kept serveMount_kept h
  | unmount lk b => exact request_stored_of_kept serveUnmount_kept h
  | skipLeg lk b => exact request_stored_of_kept serveSkipLeg_kept h
  | readJob lk b => exact request_stored_of_kept serveReadJob_kept h
  | readLeg lk b => exact request_stored_of_kept serveReadLeg_kept h
  | readQueue lk b => exact request_stored_of_kept (fun _ u => Kept.refl u) h
  | readRoute lk b => exact request_stored_of_kept serveReadRoute_kept h
  | talk lk b => exact request_stored_of_kept serveTalk_kept h
  | endTalk lk b => exact request_stored_of_kept serveEndTalk_kept h
  | readLine lk b => exact request_stored_of_kept (fun _ u => Kept.refl u) h
  | drumRun lk b => exact request_stored_of_kept serveDrumRun_kept h
  | drumStop lk b => exact request_stored_of_kept serveDrumStop_kept h
  | readDrum lk b => exact request_stored_of_kept (fun _ u => Kept.refl u) h
  | holdQueue lk b => exact request_stored_of_kept (fun _ u => holdQueue_kept .operator (Kept.refl u)) h
  | releaseQueue lk b => exact request_stored_of_kept (fun _ u => releaseHold_kept (Kept.refl u)) h
  | setModes lk b => exact request_stored serveSetModes_stored h
  | collectSlip lk b => exact request_stored_of_kept serveCollectSlip_kept h
  | reprintSlip lk b => exact request_stored_of_kept serveReprintSlip_kept h
  | setCollection lk b => exact request_stored_of_kept serveSetCollection_kept h
  | readSlipState lk b => exact request_stored_of_kept (fun _ u => Kept.refl u) h
  | readSetting lk b => exact request_stored_of_kept serveReadSetting_kept h
  | readCurve lk b => exact request_stored_of_kept (fun _ u => Kept.refl u) h
  | setClock lk b => exact request_stored serveSetClock_stored h
  | readClock lk b => exact request_stored_of_kept (fun _ u => Kept.refl u) h
  | readAttn lk b => exact request_stored (fun _ u => readAttention_stored lk u) h
  | setAttn lk b => exact request_stored (serveSetAttn_stored lk) h
  | identify lk b => exact request_stored_of_kept (fun _ u => Kept.refl u) h
  | machineReset lk b => exact request_stored (fun _ u => machineReset_stored u) h
  | index dt sample drumFirst =>
    exact timed_stored_of_kept (fun u => takeIndex_kept sample drumFirst (Kept.refl u))
      (show execIndex dt sample drumFirst s = .next t from h)
  | encoderPulse dt sample =>
    exact timed_stored_of_kept (fun u => takePulse_kept sample (Kept.refl u))
      (show execEncoderPulse dt sample s = .next t from h)
  | positionStart dt sample =>
    exact timed_stored_of_kept (fun u => by (repeat' split) <;> simp)
      (show execPositionStart dt sample s = .next t from h)
  | spanEnd dt =>
    exact timed_stored_of_kept (fun u => by split <;> simp)
      (show execSpanEnd dt s = .next t from h)
  | indexTimeout dt =>
    refine timed_stored_of_kept (fun u => ?_)
      (show execIndexTimeout dt s = .next t from h)
    split
    next hd => exact drumLost_kept (Kept.refl u) (tracking_running _ hd.1)
    next => exact Kept.refl u
  | spinupLimitExpiry dt =>
    exact timed_stored_of_kept (fun u => by split <;> simp)
      (show execSpinupLimitExpiry dt s = .next t from h)
  | brakingStillness dt =>
    exact timed_stored_of_kept (fun u => by split <;> simp)
      (show execBrakingStillness dt s = .next t from h)
  | idleStop dt =>
    exact timed_stored_of_kept (fun u => by split <;> simp)
      (show execIdleStop dt s = .next t from h)
  | coverOpen dt =>
    exact timed_stored_of_kept (fun u => by split <;> simp)
      (show execCoverOpen dt s = .next t from h)
  | coverClose dt =>
    exact timed_stored (fun u => by rfl)
      (show execCoverClose dt s = .next t from h)
  | headStep dt home =>
    exact timed_stored_of_kept (fun u => by (repeat' split) <;> simp)
      (show execHeadStep dt home s = .next t from h)
  | homingFailure dt =>
    exact timed_stored_of_kept (fun u => by split <;> simp)
      (show execHomingFailure dt s = .next t from h)
  | scanStepEnd dt home =>
    exact timed_stored_of_kept (fun u => by split <;> simp)
      (show execScanStepEnd dt home s = .next t from h)
  | phaseUpdate dt =>
    exact timed_stored_of_kept (fun u => by split <;> simp)
      (show execPhaseUpdate dt s = .next t from h)
  | markStepEnd dt =>
    exact timed_stored_of_kept (fun u => by (repeat' split) <;> simp)
      (show execMarkStepEnd dt s = .next t from h)
  | toneOnEnd dt =>
    exact timed_stored_of_kept (fun u => by split <;> simp)
      (show execToneOnEnd dt s = .next t from h)
  | toneOffEnd dt =>
    exact timed_stored_of_kept (fun u => by split <;> simp)
      (show execToneOffEnd dt s = .next t from h)
  | breakEnd dt =>
    exact timed_stored_of_kept (fun u => by split <;> simp)
      (show execBreakEnd dt s = .next t from h)
  | makeEnd dt =>
    exact timed_stored_of_kept (fun u => by (repeat' split) <;> simp)
      (show execMakeEnd dt s = .next t from h)
  | interdigitEnd dt =>
    exact timed_stored_of_kept (fun u => by split <;> simp)
      (show execInterdigitEnd dt s = .next t from h)
  | pauseEnd dt =>
    exact timed_stored_of_kept (fun u => by split <;> simp)
      (show execPauseEnd dt s = .next t from h)
  | flashEnd dt =>
    exact timed_stored_of_kept (fun u => by split <;> simp)
      (show execFlashEnd dt s = .next t from h)
  | seizeWindowEnd dt loop =>
    exact timed_stored_of_kept (fun u => by split <;> simp)
      (show execSeizeWindowEnd dt loop s = .next t from h)
  | readyEvent dt freq held =>
    exact timed_stored_of_kept (fun u => by split <;> simp)
      (show execReadyEvent dt freq held s = .next t from h)
  | answerTimeoutExpiry dt =>
    exact timed_stored_of_kept (fun u => by split <;> simp)
      (show execAnswerTimeoutExpiry dt s = .next t from h)
  | prepareLimitExpiry dt =>
    exact timed_stored_of_kept (fun u => by split <;> simp)
      (show execPrepareLimitExpiry dt s = .next t from h)
  | bridgeLimitExpiry dt =>
    exact timed_stored_of_kept (fun u => by split <;> simp)
      (show execBridgeLimitExpiry dt s = .next t from h)
  | stopTimeExpiry dt =>
    exact timed_stored_of_kept (fun u => by split <;> simp)
      (show execStopTimeExpiry dt s = .next t from h)
  | symbolDetected dt rowHz colHz held gap =>
    exact timed_stored_of_kept (fun u => by (repeat' split) <;> simp)
      (show execSymbolDetected dt rowHz colHz held gap s = .next t from h)
  | answerbackWindowExpiry dt =>
    exact timed_stored_of_kept (fun u => by split <;> simp)
      (show execAnswerbackWindowExpiry dt s = .next t from h)
  | answerbackDeadline dt =>
    exact timed_stored_of_kept (fun u => by split <;> simp)
      (show execAnswerbackDeadline dt s = .next t from h)
  | loopLost dt =>
    exact timed_stored_of_kept (fun u => by split <;> simp)
      (show execLoopLost dt s = .next t from h)
  | guardTimeExpiry dt =>
    exact timed_stored_of_kept (fun u => by split <;> simp)
      (show execGuardTimeExpiry dt s = .next t from h)
  | clockSecond dt =>
    exact timed_stored (fun u => by split <;> simp)
      (show execClockSecond dt s = .next t from h)
  | printCharacter dt paperOut busy =>
    exact timed_stored_of_kept (fun u => by (repeat' split) <;> simp)
      (show execPrintCharacter dt paperOut busy s = .next t from h)
  | paperOutClears dt =>
    exact timed_stored_of_kept (fun u => by split <;> simp)
      (show execPaperOutClears dt s = .next t from h)
  | busyTimeout dt =>
    refine timed_stored_of_kept (fun u => ?_)
      (show execBusyTimeout dt s = .next t from h)
    split
    · exact causePrinter_kept (setSlips_kept _ (setPins_kept _ (Kept.refl u)))
    · exact Kept.refl u
  | busyLowInFault dt =>
    exact timed_stored_of_kept (fun u => by split <;> simp)
      (show execBusyLowInFault dt s = .next t from h)
  | lampFrame dt paperOut =>
    exact timed_stored (fun u => by split <;> rfl)
      (show execLampFrame dt paperOut s = .next t from h)
  | loopSenseChange dt present =>
    exact timed_stored_of_kept (fun u => changeSense_kept present (Kept.refl u))
      (show execLoopSenseChange dt present s = .next t from h)

/-! ### The commands that write one of the three -/

theorem serveWriteRoute_writes (args : List Byte) (u : State) :
    ∃ x, (serveWriteRoute args u).2 = u.setRoutes x := by
  unfold serveWriteRoute
  (repeat' split) <;> exact ⟨_, rfl⟩

theorem serveEraseRoute_writes (args : List Byte) (u : State) :
    ∃ x, (serveEraseRoute args u).2 = u.setRoutes x := by
  unfold serveEraseRoute
  (repeat' split) <;> exact ⟨_, rfl⟩

theorem serveWriteCurve_writes (args : List Byte) (u : State) :
    ∃ x, (serveWriteCurve args u).2 = u.setCurve x := by
  unfold serveWriteCurve
  (repeat' split) <;> exact ⟨_, rfl⟩

theorem idleCompared_writes (n : Nat) (s : State) : ∃ d, idleCompared n s = s.setDrum d := by
  unfold idleCompared
  split
  · exact ⟨_, rfl⟩
  · exact ⟨s.drum, rfl⟩

theorem storeStation_writes (val : List Byte) (u : State) :
    ∃ x, (storeStation val u).2 = u.setSettings x := by
  unfold storeStation
  (repeat' split) <;> exact ⟨_, rfl⟩

theorem storeNumber_writes (k : SettingKind) (n v : Nat) (u : State) :
    ∃ x d, (storeNumber k n v u).2 = (u.setSettings x).setDrum d := by
  unfold storeNumber
  dsimp only
  split
  · exact ⟨u.settings, u.drum, rfl⟩
  · split
    · exact ⟨u.settings, u.drum, rfl⟩
    · obtain ⟨d, hd⟩ := idleCompared_writes n (u.setSettings (u.settings.store (k.bring v) n))
      exact ⟨_, d, hd⟩

/-- WRITE_SETTING writes the settings, and the drum's record where DRUM_IDLE stops the drum (R59, R189). -/
theorem serveWriteSetting_writes (args : List Byte) (u : State) :
    ∃ x d, (serveWriteSetting args u).2 = (u.setSettings x).setDrum d := by
  have refused : ∃ x d, u = (u.setSettings x).setDrum d := ⟨u.settings, u.drum, rfl⟩
  unfold serveWriteSetting
  split
  · exact refused
  · split
    · exact refused
    · obtain ⟨x, hx⟩ := storeStation_writes _ u
      exact ⟨x, u.drum, hx⟩
    · split
      · split
        · exact storeNumber_writes _ _ _ u
        · exact refused
      · exact refused

/-- A request that writes the directory alone keeps the settings and the curve. -/
theorem settings_curve_of_writes_routes (hw : ∀ args u, ∃ x, (serve args u).2 = u.setRoutes x)
    (h : request c lk b serve s = .next t) : t.settings = s.settings ∧ t.curve = s.curve := by
  refine ⟨request_keeps State.settings (fun lk _ _ => by cases lk <;> rfl) (fun args u => ?_) h,
    request_keeps State.curve (fun lk _ _ => by cases lk <;> rfl) (fun args u => ?_) h⟩ <;>
  · obtain ⟨x, hx⟩ := hw args u
    rw [hx]
    rfl

theorem routes_settings_of_writeCurve (h : execWriteCurve lk b s = .next t) :
    t.routes = s.routes ∧ t.settings = s.settings := by
  refine ⟨request_keeps State.routes (fun lk _ _ => by cases lk <;> rfl) (fun args u => ?_) h,
    request_keeps State.settings (fun lk _ _ => by cases lk <;> rfl) (fun args u => ?_) h⟩ <;>
  · obtain ⟨x, hx⟩ := serveWriteCurve_writes args u
    rw [hx]
    rfl

theorem routes_curve_of_writeSetting (h : execWriteSetting lk b s = .next t) :
    t.routes = s.routes ∧ t.curve = s.curve := by
  refine ⟨request_keeps State.routes (fun lk _ _ => by cases lk <;> rfl) (fun args u => ?_) h,
    request_keeps State.curve (fun lk _ _ => by cases lk <;> rfl) (fun args u => ?_) h⟩ <;>
  · obtain ⟨x, d, hx⟩ := serveWriteSetting_writes args u
    rw [hx]
    rfl

/-- Settles O5: a command that writes none of the three by `exec_stored`, each writer by what it writes. -/
theorem directoryAndStoreKeptUntilWritten : Obligations.DirectoryAndStoreKeptUntilWritten := by
  intro c s t h hp
  by_cases hc : writesStore c = false
  · have hs : (t.routes, t.settings, t.curve) = (s.routes, s.settings, s.curve) := exec_stored hc h
    simp only [Prod.mk.injEq] at hs
    obtain ⟨hroutes, hsettings, hcurve⟩ := hs
    exact ⟨fun _ _ => hroutes, fun _ => hsettings, fun _ => hcurve⟩
  · cases c with
    | writeRoute lk b =>
      obtain ⟨hsettings, hcurve⟩ := settings_curve_of_writes_routes serveWriteRoute_writes h
      exact ⟨fun hw => absurd rfl (hw lk b), fun _ => hsettings, fun _ => hcurve⟩
    | eraseRoute lk b =>
      obtain ⟨hsettings, hcurve⟩ := settings_curve_of_writes_routes serveEraseRoute_writes h
      exact ⟨fun _ he => absurd rfl (he lk b), fun _ => hsettings, fun _ => hcurve⟩
    | writeSetting lk b =>
      obtain ⟨hroutes, hcurve⟩ := routes_curve_of_writeSetting h
      exact ⟨fun _ _ => hroutes, fun hw => absurd rfl (hw lk b), fun _ => hcurve⟩
    | writeCurve lk b =>
      obtain ⟨hroutes, hsettings⟩ := routes_settings_of_writeCurve h
      exact ⟨fun _ _ => hroutes, fun _ => hsettings, fun hw => absurd rfl (hw lk b)⟩
    | powerOnReset v w x y z => exact absurd rfl (hp v w x y z)
    | _ => exact absurd rfl hc

end Sys2Proof.Directory

/-! WRITE_ROUTE and ERASE_ROUTE (R29, R30, R176). -/

namespace Sys2Proof.Directory
open Machine Laws PictureJobs

variable {s : State} {lk : Link} {b : Byte}

/-! ### A WRITE_ROUTE frame and its parts (R176) -/

/-- A length byte, the bytes it counts, and what follows them. -/
def field (xs rest : List Byte) : List Byte := BitVec.ofNat 8 xs.length :: (xs ++ rest)

/-- The arguments of a WRITE_ROUTE request that carries these parts. -/
def frameBytes (f : RouteFrame) : List Byte :=
  [f.index, f.mode, f.rate, BitVec.ofNat 8 f.syms.length] ++ f.syms ++
    [BitVec.ofNat 8 f.label.length] ++ f.label ++ [BitVec.ofNat 8 f.code.length] ++ f.code

theorem frameBytes_eq (f : RouteFrame) : frameBytes f =
    f.index :: f.mode :: f.rate :: field f.syms (field f.label (field f.code [])) := by
  simp [frameBytes, field]

theorem takeField_field {xs : List Byte} (rest : List Byte) (h : xs.length < 256) :
    takeField (field xs rest) = some (xs, rest) := by
  simp [field, takeField, Nat.mod_eq_of_lt h]

theorem eq_field_of_takeField {bs xs rest : List Byte} (h : takeField bs = some (xs, rest)) :
    bs = field xs rest := by
  cases bs with
  | nil => cases h
  | cons n bs =>
    simp only [takeField] at h
    by_cases hn : n.toNat ≤ bs.length
    · rw [if_pos hn] at h
      cases h
      simp [field, hn]
    · rw [if_neg hn] at h
      cases h

/-- A frame of at most 64 bytes splits into exactly the parts it carries. -/
theorem splitRoute_frameBytes {f : RouteFrame} (h : (frameBytes f).length ≤ 64) :
    splitRoute (frameBytes f) = some f := by
  have hlen : f.syms.length + f.label.length + f.code.length + 6 ≤ 64 := by
    simp only [frameBytes, List.length_append, List.length_cons, List.length_nil] at h
    omega
  rw [frameBytes_eq]
  simp only [splitRoute, takeField_field _ (show f.syms.length < 256 by omega),
    takeField_field _ (show f.label.length < 256 by omega),
    takeField_field _ (show f.code.length < 256 by omega)]

theorem eq_frameBytes_of_splitRoute {args : List Byte} {f : RouteFrame} (h : splitRoute args = some f) :
    args = frameBytes f := by
  unfold splitRoute at h
  split at h
  next i m r rest =>
    split at h
    next syms rest1 hsyms =>
      split at h
      next label rest2 hlabel =>
        split at h
        next code hcode =>
          cases h
          rw [frameBytes_eq, eq_field_of_takeField hsyms, eq_field_of_takeField hlabel,
            eq_field_of_takeField hcode]
        next => cases h
      next => cases h
    next => cases h
  next => cases h

/-! ### The two requests (R29, R30) -/

theorem exec_writeRoute {args : List Byte} (h : Taken codeWriteRoute lk b args s) :
    exec (.writeRoute lk b) s = answered lk (serveWriteRoute args (takeRequest lk s)) := request_of_taken _ h

theorem setRoute_takeRequest (lk : Link) (i : Nat) (r : Option RouteRec) (s : State) :
    (takeRequest lk s).setRoute i r =
      { takeRequest lk s with routes := s.routes.setIfInBounds i r } := by
  rw [State.setRoute, takeRequest_routes]
  rfl

/-- Settles O34: the parts of the frame by `splitRoute`, which inverts `frameBytes`. -/
theorem routesAreReplacedWholeAndErased : Obligations.RoutesAreReplacedWholeAndErased := by
  refine ⟨fun lk b args s ht => ⟨fun f x hargs => ?_, fun hno => ?_⟩, fun lk b i s ht => ?_⟩
  · have hframe : args = frameBytes f := hargs
    have hsplit : splitRoute args = some f := by
      rw [hframe]
      exact splitRoute_frameBytes (hframe ▸ arrives_length_le ht.arrives)
    rw [exec_writeRoute ht]
    simp only [serveWriteRoute, hsplit]
    refine ⟨fun hi => ?_, fun hi hbad => ?_, fun hi hgood => ?_⟩
    · rw [if_pos hi]; rfl
    · rw [if_neg (Nat.not_lt.2 hi), hbad]; rfl
    · rw [if_neg (Nat.not_lt.2 hi), hgood, ← setRoute_takeRequest]; rfl
  · have hsplit : splitRoute args = none := by
      rw [Option.eq_none_iff_forall_ne_some]
      exact fun f hf => hno ⟨f, eq_frameBytes_of_splitRoute hf⟩
    rw [exec_writeRoute ht, serveWriteRoute, hsplit]
    rfl
  · have hexec : exec (.eraseRoute lk b) s = answered lk (serveEraseRoute [i] (takeRequest lk s)) :=
      request_of_taken _ ht
    rw [hexec, serveEraseRoute]
    split
    · rfl
    · rw [← setRoute_takeRequest]; rfl

end Sys2Proof.Directory

/-! The dialer (R36 to R42, R126 to R128, R148). -/

namespace Sys2Proof.Directory
open Machine Laws PictureJobs

variable {s t : State} {dt : Nat}

/-! ### A step that has run out, and one that has not (R37) -/

theorem dialDue_of_left_zero {st : DialerState} (hl : t.dialer.left = 0) (hs : t.dialer.state = st) :
    dialDue st t = true := by simp [dialDue, hs, hl]

theorem dialDue_of_left_pos (st : DialerState) (hl : t.dialer.left ≠ 0) : dialDue st t = false := by
  simp [dialDue, hl]

theorem exec_toneOnEnd (dt : Nat) (s : State) : exec (.toneOnEnd dt) s = .next (
    if dialDue .toneOn (elapse dt s) then
      dialStep .toneOff (msec (elapse dt s).settings.toneOff) (modSilent (elapse dt s))
    else elapse dt s) := rfl

theorem exec_toneOffEnd (dt : Nat) (s : State) : exec (.toneOffEnd dt) s = .next (
    if dialDue .toneOff (elapse dt s) then symbolDone (elapse dt s) else elapse dt s) := rfl

theorem exec_breakEnd (dt : Nat) (s : State) : exec (.breakEnd dt) s = .next (
    if dialDue .breaking (elapse dt s) then
      dialStep .making (msec (makeMs (dialRate (elapse dt s)) (elapse dt s).settings.makeBreak))
        ((elapse dt s).setDialer { (elapse dt s).dialer with breaks := (elapse dt s).dialer.breaks - 1 })
    else elapse dt s) := rfl

theorem exec_makeEnd (dt : Nat) (s : State) : exec (.makeEnd dt) s = .next (
    if dialDue .making (elapse dt s) then
      if 0 < (elapse dt s).dialer.breaks then dialBreak (dialRate (elapse dt s)) (elapse dt s)
      else dialStep .interdigit (msec (elapse dt s).settings.interdigit) (elapse dt s)
    else elapse dt s) := rfl

theorem exec_interdigitEnd (dt : Nat) (s : State) : exec (.interdigitEnd dt) s = .next (
    if dialDue .interdigit (elapse dt s) then symbolDone (elapse dt s) else elapse dt s) := rfl

theorem exec_pauseEnd (dt : Nat) (s : State) : exec (.pauseEnd dt) s = .next (
    if dialDue .pause (elapse dt s) then symbolDone (elapse dt s) else elapse dt s) := rfl

theorem exec_flashEnd (dt : Nat) (s : State) : exec (.flashEnd dt) s = .next (
    if dialDue .flash (elapse dt s) then symbolDone (elapse dt s) else elapse dt s) := rfl

/-! ### Breaks and makes (R39) -/

/-- The break times in ms, by rate and MAKE_BREAK (R39). -/
def breakTimes : List (PulseRate × MakeBreak × Nat) :=
  [(.pps10, .mb4060, 60), (.pps10, .mb3367, 67), (.pps20, .mb4060, 30), (.pps20, .mb3367, 33)]

theorem breakMs_of_mem {r : PulseRate} {m : MakeBreak} {ms : Nat} (h : (r, m, ms) ∈ breakTimes) :
    breakMs r m = ms := by
  cases r <;> cases m <;> simp_all [breakTimes, breakMs, pulsePeriod, breakFactor]

theorem pulsePeriod_eq (r : PulseRate) : pulsePeriod r = if r = .pps10 then 100 else 50 := by cases r <;> rfl

theorem dialRate_eq {b : DialBuf} (h : t.dialBuf = some b) : dialRate t = b.dial.rate := by
  simp [dialRate, h]

theorem breaksOf_eq (d : Fin 10) : breaksOf d = if d = 0 then 10 else d.val := by
  simp only [breaksOf, Fin.val_eq_zero_iff]

theorem dialBreak_eq {r : PulseRate} {ms : Nat} (h : (r, t.settings.makeBreak, ms) ∈ breakTimes) :
    dialBreak r t = dialerIn .breaking (1000 * ms) t := by
  rw [dialBreak, breakMs_of_mem h, msec_eq]
  rfl

theorem dialPulse_eq {r : PulseRate} {ms : Nat} (d : Fin 10)
    (h : (r, t.settings.makeBreak, ms) ∈ breakTimes) : dialPulse r d t = dialerIn .breaking (1000 * ms)
      { t with dialer := { t.dialer with breaks := if d = 0 then 10 else d.val } } := by
  rw [← breaksOf_eq]
  exact dialBreak_eq (t := t.setDialer { t.dialer with breaks := breaksOf d }) h

/-! ### The next symbol, and dial complete (R37, R38, R40, R41) -/

theorem dialNext_of_symbol {b : DialBuf} {x : DialSym} (hb : s.dialBuf = some b)
    (hx : b.dial.string[s.dialer.position]? = some x) : dialNext s = beginSymbol b.dial x s := by
  simp only [dialNext, hb, hx]

theorem dialNext_of_end {b : DialBuf} (hb : s.dialBuf = some b)
    (hx : b.dial.string.length ≤ s.dialer.position) : dialNext s = dialComplete s := by
  simp only [dialNext, hb, List.getElem?_eq_none hx]

theorem dialTone_eq (k : KeySym) (s : State) :
    dialTone k s = dialerIn .toneOn (1000 * s.settings.toneOn) (pairSounds k s) := by
  rw [dialTone, msec_eq]
  rfl

/-- A symbol of the dial string begins by its kind and the dial mode (R37). -/
theorem beginSymbol_eq (d : DialSpec) (s : State) :
    (∀ n, d.mode = .tone → beginSymbol d (.digit n) s = dialTone (.digit n) s) ∧
    (∀ n, d.mode = .pulse → beginSymbol d (.digit n) s = dialPulse d.rate n s) ∧
    beginSymbol d .pause s = dialerIn .pause (1000000 * s.settings.pauseTime) s ∧
    beginSymbol d .flash s = dialerIn .flash (1000 * s.settings.flashTime) s := by
  refine ⟨fun n h => ?_, fun n h => ?_, ?_, ?_⟩
  · simp only [beginSymbol, h]
  · simp only [beginSymbol, h]
  · rw [← sec_eq]; rfl
  · rw [← msec_eq]; rfl

theorem enterTalk_eq (s : State) : enterTalk s =
    let t := modSilent (lineBecomes .talk s)
    { t with line := { t.line with monitor := some 0 }, dialBuf := none } := by
  rw [enterTalk, enterLine_eq]
  rfl

theorem enterAwaitReady_eq (s : State) : enterAwaitReady s =
    let t := (modSilent (lineBecomes .awaitReady s)).startLimit .answerTimeout
      (1000000 * s.settings.answerTimeout)
    { t with
      line := { t.line with monitor := some 0 }
      aux := { t.aux with readyHz := s.settings.readyHz } } := by
  rw [enterAwaitReady, enterLine_eq, sec_eq]
  rfl

/-- Settles O55: each step by its command, the next symbol by its kind. -/
theorem theDialerTakesItsSymbolsInTurn : Obligations.TheDialerTakesItsSymbolsInTurn := by
  refine ⟨?_, ?_⟩
  · intro dt s b t brk next hb
    refine ⟨fun hl => ?_, fun hl => ?_⟩
    · refine ⟨fun hs => ?_, fun hs => ?_, fun ms hs hms => ?_, fun ms hs hms => ?_, fun hs => ?_, fun hs => ?_,
        fun hs => ?_⟩ <;> have due := dialDue_of_left_zero hl hs
      · rw [exec_toneOnEnd, if_pos due, msec_eq]; rfl
      · rw [exec_toneOffEnd, if_pos due]; rfl
      · rw [exec_breakEnd, if_pos due, dialRate_eq hb, makeMs, breakMs_of_mem hms, pulsePeriod_eq, msec_eq]; rfl
      · rw [exec_makeEnd, if_pos due, dialRate_eq hb, dialBreak_eq hms, msec_eq]
        by_cases h0 : t.dialer.breaks = 0
        · rw [if_pos h0, if_neg (Nat.not_lt.2 h0.le)]; rfl
        · rw [if_neg h0, if_pos (Nat.pos_of_ne_zero h0)]
      · rw [exec_interdigitEnd, if_pos due]; rfl
      · rw [exec_pauseEnd, if_pos due]; rfl
      · rw [exec_flashEnd, if_pos due]; rfl
    · have early : ∀ st, ¬ dialDue st t = true := fun st => by simp [dialDue_of_left_pos st hl]
      refine ⟨?_, ?_, ?_, ?_, ?_, ?_, ?_⟩
      · rw [exec_toneOnEnd, if_neg (early _)]
      · rw [exec_toneOffEnd, if_neg (early _)]
      · rw [exec_breakEnd, if_neg (early _)]
      · rw [exec_makeEnd, if_neg (early _)]
      · rw [exec_interdigitEnd, if_neg (early _)]
      · rw [exec_pauseEnd, if_neg (early _)]
      · rw [exec_flashEnd, if_neg (early _)]
  · intro s b x hb rest
    refine ⟨fun hx => ?_, fun hx => ?_⟩
    · rw [dialNext_of_symbol hb hx]
      obtain ⟨htone, hpulse, hpause, hflash⟩ := beginSymbol_eq b.dial s
      refine ⟨?_, ?_, ?_, ?_, ?_, ?_⟩
      · rintro d rfl hm
        rw [htone d hm, dialTone_eq]
      · rintro rfl
        exact dialTone_eq .star s
      · rintro rfl
        exact dialTone_eq .hash s
      · rintro d ms rfl hm hms
        rw [hpulse d hm, dialPulse_eq d hms]
      · rintro rfl
        exact hpause
      · rintro rfl
        exact hflash
    · rw [dialNext_of_end hb hx, dialComplete]
      refine ⟨fun hk => ?_, fun hk => ?_⟩ <;> dsimp only
      · rw [if_pos hk, enterTalk_eq]; rfl
      · rw [if_neg hk, enterAwaitReady_eq]; rfl

end Sys2Proof.Directory

/-! The events of a call from its transmission to its end (R38, R127, R129, R139 to R143). -/

namespace Sys2Proof.Directory
open Machine Laws PictureJobs

variable {s t : State} {dt : Nat}

/-! ### The keypad's pairs (R38, R129) -/

/-- The twelve keys with their row and column tones (R38). -/
def keyTones : List (KeySym × Nat × Nat) :=
  [(.digit 1, 697, 1209), (.digit 2, 697, 1336), (.digit 3, 697, 1477), (.digit 4, 770, 1209),
   (.digit 5, 770, 1336), (.digit 6, 770, 1477), (.digit 7, 852, 1209), (.digit 8, 852, 1336),
   (.digit 9, 852, 1477), (.star, 941, 1209), (.digit 0, 941, 1336), (.hash, 941, 1477)]

theorem keyTones_right : ∀ x ∈ keyTones, rowTone x.1 = x.2.1 ∧ colTone x.1 = x.2.2 := by decide

theorem mem_keyTones (k : KeySym) : (k, rowTone k, colTone k) ∈ keyTones := by
  cases k with
  | digit d => revert d; decide
  | star => decide
  | hash => decide

/-- Two tones make a key exactly when they are its row and its column (R129). -/
theorem keyOf_eq_some_iff {rowHz colHz : Nat} {k : KeySym} :
    keyOf? rowHz colHz = some k ↔ rowTone k = rowHz ∧ colTone k = colHz := by
  constructor
  · intro h
    simpa using List.find?_some h
  · rintro ⟨rfl, rfl⟩
    exact keyOf_tones k

/-! ### A limit that runs out, and one that does not (R121) -/

/-- The event of a limit that has run out is taken once the command's time has passed. -/
theorem timed_of_limit {l : Limit} (f : State → State) (h : limitRunsOut l (elapse dt s)) :
    timed dt (fun t => if t.limitDue l then f t else t) s = .next (f (elapse dt s)) :=
  congrArg Host.Outcome.next (if_pos ((limitDue_iff l _).2 h))

/-- A limit that has not run out lets the time pass and nothing else. -/
theorem timed_of_not_limit {l : Limit} (f : State → State) (h : ¬ limitRunsOut l (elapse dt s)) :
    timed dt (fun t => if t.limitDue l then f t else t) s = .next (elapse dt s) :=
  congrArg Host.Outcome.next (if_neg (mt (limitDue_iff l _).1 h))

theorem exec_bridgeLimitExpiry (dt : Nat) (s : State) : exec (.bridgeLimitExpiry dt) s =
    timed dt (fun t => if t.limitDue .bridgeLimit then beginClosing .bridgeLimit t else t) s := rfl

theorem exec_stopTimeExpiry (dt : Nat) (s : State) : exec (.stopTimeExpiry dt) s =
    timed dt (fun t => if t.limitDue .stopTime then endStopTime t else t) s := rfl

theorem exec_answerbackWindowExpiry (dt : Nat) (s : State) : exec (.answerbackWindowExpiry dt) s =
    timed dt (fun t => if t.limitDue .answerbackWindow then endWindow t else t) s := rfl

theorem exec_answerbackDeadline (dt : Nat) (s : State) : exec (.answerbackDeadline dt) s =
    timed dt (fun t => if t.limitDue .answerbackDeadline then
      callEnd (.delivered .unconfirmed none true) false t else t) s := rfl

/-! ### STOP_TIME and the answerback (R140 to R142) -/

theorem endStopTime_of_closing {c : Closing} (h : t.line.closing = some c) :
    endStopTime t = callEnd c.result false t := by
  simp only [endStopTime, h]

/-- STOP passes to ANSWERBACK: SILENT, an empty buffer, the window (R141). -/
theorem endStopTime_of_stop (hc : t.line.closing = none) (hs : t.line.state = .stop) :
    endStopTime t = (lineBecomes .answerback { t with
      modu := t.modu.silence, line := { t.line with answerback := [] } }).startLimit
      .answerbackWindow (1000000 * t.settings.answerbackWindow) := by
  have enters : endStopTime t = enterAnswerback t := by
    simp only [endStopTime, hc]
    exact if_pos hs
  rw [enters, enterAnswerback, enterLine_eq, sec_eq]
  rfl

theorem exec_symbolDetected_of_taken {rowHz colHz held gap : Nat} {k : KeySym}
    (hk : keyOf? rowHz colHz = some k) (ht : symbolTaken held gap (elapse dt s) = true) :
    exec (.symbolDetected dt rowHz colHz held gap) s = .next (takeSymbol k
      ((elapse dt s).setAux { (elapse dt s).aux with sinceSymbol := some 0 })) := by
  change execSymbolDetected dt rowHz colHz held gap s = _
  simp only [execSymbolDetected, timed, hk]
  rw [if_pos ht]

theorem exec_symbolDetected_of_not_taken {rowHz colHz held gap : Nat}
    (h : keyOf? rowHz colHz = none ∨ symbolTaken held gap (elapse dt s) = false) :
    exec (.symbolDetected dt rowHz colHz held gap) s = .next (elapse dt s) := by
  change execSymbolDetected dt rowHz colHz held gap s = _
  simp only [execSymbolDetected, timed]
  split
  next hk =>
    rcases h with h | h
    · rw [h] at hk; cases hk
    · rw [if_neg (by simp [h])]
  next => rfl

/-! ### The loop monitor (R127) -/

theorem exec_loopLost (dt : Nat) (s : State) : exec (.loopLost dt) s = .next (
    if (elapse dt s).line.monitor.any fun a => decide (loopLossTime ≤ a) then loseLoop (elapse dt s)
    else elapse dt s) := rfl

theorem talkRelease_eq (e : TalkEnding) (s : State) : talkRelease e s = talkReleased e s := by
  rw [talkRelease, talkReleased, enterGuard, enterLine_eq, sec_eq]
  rfl

/-- What a lost loop makes of a leg's call in its transmission or before it (R127). -/
def lossResult (l : LineRec) : LegResult :=
  match l.closing with
  | some c => c.result
  | none => .reason .dropped false

theorem loseLoop_eq (s : State) : loseLoop s =
    if s.line.state = .talk then talkReleased .loopLost s
    else if s.line.state = .stop ∨ s.line.state = .answerback then
      callEnd (.delivered .unconfirmed none false) true s
    else callEnd (lossResult s.line) true s := by
  unfold loseLoop
  split
  next h => rw [if_pos h, talkRelease_eq]
  next h => rw [if_neg (by simp [h]), if_pos (.inl h)]
  next h => rw [if_neg (by simp [h]), if_pos (.inr h)]
  next htalk hstop hanswer =>
    rw [if_neg htalk, if_neg (not_or.2 ⟨hstop, hanswer⟩), lossResult]
    cases s.line.closing <;> rfl

/-! ### The answerback parsed (R143) -/

/-- A buffer in the form of R143. -/
def answerForm (code : List (Fin 10)) (grade : Fin 10) : List KeySym :=
  code.map KeySym.digit ++ [.star, .digit grade, .hash]

theorem parseAnswerback_answerForm {code : List (Fin 10)} (grade : Fin 10) (h1 : 1 ≤ code.length)
    (h8 : code.length ≤ 8) :
    parseAnswerback (answerForm code grade) = some { code := code, grade := grade } := by
  have lead := leadingDigits_append code [.star, .digit grade, .hash] (by simp)
  simp only [parseAnswerback, answerForm, lead, h1, h8, and_self, if_true]

theorem parseAnswerback_eq_none {ks : List KeySym}
    (h : ∀ (c : List (Fin 10)) (d : Fin 10), 1 ≤ c.length → c.length ≤ 8 → ks ≠ answerForm c d) :
    parseAnswerback ks = none := by
  have hjoin := leadingDigits_join ks
  unfold parseAnswerback
  split
  next code grade hd =>
    rw [hd] at hjoin
    exact if_neg fun hlen => h code grade hlen.1 hlen.2 hjoin
  next => rfl

theorem answerbackOutcome_eq (expected : Option (List (Fin 10))) (code : List (Fin 10)) :
    answerbackOutcome expected code =
      if expected = none ∨ expected = some code then .confirmed else .wrongStation := by
  cases expected <;> simp [answerbackOutcome]

/-- Settles O45: the keypad by `keyOf_eq_some_iff`, the limits by `timed_of_limit`, a lost loop by `loseLoop_eq`,
the answerback by `leadingDigits`. -/
theorem callEventsFromTheTransmissionOn : Obligations.CallEventsFromTheTransmissionOn := by
  refine ⟨?_, ?_⟩
  · intro k rowHz colHz
    constructor
    · rintro ⟨rfl, rfl⟩
      exact mem_keyTones k
    · exact keyTones_right (k, rowHz, colHz)
  · intro dt s t
    refine ⟨?_, ?_, ?_, ?_, ?_, ?_, ?_, ?_, ?_, ?_⟩
    · exact fun h => timed_of_limit (beginClosing .bridgeLimit) h
    · intro h
      rw [exec_stopTimeExpiry, timed_of_limit endStopTime h]
      refine ⟨fun hc => ?_, fun hc => ?_, fun hc => ?_, fun hc hs => ?_⟩
      · rw [endStopTime_of_closing hc]; rfl
      · rw [endStopTime_of_closing hc]; rfl
      · rw [endStopTime_of_closing hc]; rfl
      · rw [endStopTime_of_stop hc hs]
    · intro rowHz colHz held gap k hrow hcol hdet hheld htime hgap u heard v
      rw [exec_symbolDetected_of_taken (keyOf_eq_some_iff.2 ⟨hrow, hcol⟩)
        ((symbolTaken_iff _ _ _).2 ⟨hdet, hheld, htime, hgap⟩)]
      rfl
    · intro rowHz colHz held gap h
      refine exec_symbolDetected_of_not_taken ?_
      rcases h with hkey | hrest
      · refine .inl (Option.eq_none_iff_forall_ne_some.2 fun k hk => ?_)
        obtain ⟨hrow, hcol⟩ := keyOf_eq_some_iff.1 hk
        exact (hkey k).elim (· hrow) (· hcol)
      · refine .inr (Bool.eq_false_iff.2 fun htaken => ?_)
        obtain ⟨hdet, hheld, htime, hgap⟩ := (symbolTaken_iff _ _ _).1 htaken
        rcases hrest with h | h | h | ⟨since, hsince, h⟩
        · exact h hdet
        · exact absurd hheld (Nat.not_le.2 h)
        · exact absurd htime (Nat.not_le.2 h)
        · have := hgap since hsince
          omega
    · intro h
      rw [exec_answerbackWindowExpiry, timed_of_limit endWindow h]
      rfl
    · exact fun h => timed_of_limit (callEnd (.delivered .unconfirmed none true) false) h
    · intro h
      exact ⟨timed_of_not_limit (beginClosing .bridgeLimit) (h _), timed_of_not_limit endStopTime (h _),
        timed_of_not_limit endWindow (h _),
        timed_of_not_limit (callEnd (.delivered .unconfirmed none true) false) (h _)⟩
    · intro h
      rw [exec_loopLost, if_neg]
      intro hany
      obtain ⟨absent, hm, hlong⟩ := (Option.any_eq_true _ _).1 hany
      exact absurd (h absent hm) (Nat.not_lt.2 (of_decide_eq_true hlong))
    · intro absent hm hlong
      rw [exec_loopLost, if_pos ((Option.any_eq_true _ _).2 ⟨absent, hm, decide_eq_true hlong⟩), loseLoop_eq]
      unfold lossResult
      subst t
      cases (elapse dt s).line.closing with
      | none => rfl
      | some c => cases c <;> rfl
    · intro expected code grade ks
      refine ⟨fun h1 h8 hks => ?_, fun hno => ?_⟩
      · have hparse : parseAnswerback ks = some { code := code, grade := grade } :=
          hks ▸ parseAnswerback_answerForm grade h1 h8
        rw [answerbackResult, hparse]
        simp only [answerbackOutcome_eq]
      · rw [answerbackResult, parseAnswerback_eq_none hno]

end Sys2Proof.Directory

/-! Slips: their text, their making and their printing (R33, R153 to R164, R169). -/

namespace Sys2Proof.Directory
open Machine Laws PictureJobs

variable {s t : State} {dt : Nat}

/-! ### Numbers as text (R169) -/

theorem digits_succ (w n : Nat) : digits (w + 1) n = digits w (n / 10) ++ [digitChar n] := by
  have head : ∀ i ∈ List.range w, BitVec.ofNat 8 (48 + n / 10 ^ (w + 1 - 1 - i) % 10) =
      BitVec.ofNat 8 (48 + n / 10 / 10 ^ (w - 1 - i) % 10) := by
    intro i hi
    have he : w + 1 - 1 - i = (w - 1 - i) + 1 := by have := List.mem_range.1 hi; omega
    rw [he, Nat.div_div_eq_div_mul, Nat.pow_succ']
  simp only [digits, List.range_succ, List.map_append, List.map_congr_left head]
  simp [digitChar]

theorem decFixed_eq (w n : Nat) : decFixed w n = digits w n := by
  induction w generalizing n with
  | zero => rfl
  | succ w ih => rw [decFixed, digits_succ, ih]

/-- The width found is the number's own, as long as the number has at most `fuel` + 1 digits. -/
theorem decWidth_spec (fuel n : Nat) (h : n < 10 ^ (fuel + 1)) : 1 ≤ decWidth fuel n ∧
    n < 10 ^ decWidth fuel n ∧ (decWidth fuel n = 1 ∨ 10 ^ (decWidth fuel n - 1) ≤ n) := by
  induction fuel generalizing n with
  | zero => exact ⟨le_rfl, h, .inl rfl⟩
  | succ fuel ih =>
    unfold decWidth
    split
    next hn => exact ⟨le_rfl, hn, .inl rfl⟩
    next hn =>
      obtain ⟨h1, hlt, hle⟩ := ih (n / 10) (by rw [Nat.pow_succ] at h; omega)
      refine ⟨by omega, ?_, .inr ?_⟩
      · rw [Nat.pow_succ]; omega
      · rw [Nat.add_sub_cancel]
        rcases hle with h1 | hle
        · rw [h1]; omega
        · rw [← Nat.sub_add_cancel h1, Nat.pow_succ]; omega

theorem plainNumber_dec {n : Nat} (h : n < 10000000000) : plainNumber n (dec n) := by
  obtain ⟨h1, hlt, hle⟩ := decWidth_spec 9 n h
  exact ⟨decWidth 9 n, h1, decFixed_eq _ _, hlt, hle⟩

theorem timeText_eq (x : Stamp) : timeText x = stampText x := by
  simp only [timeText, stampText, decFixed_eq]
  rfl

theorem digitChar_eq (d : Fin 10) : digitChar d.val = BitVec.ofNat 8 (48 + d.val) := by
  rw [digitChar, Nat.mod_eq_of_lt d.isLt]

theorem digitsText_eq (ds : List (Fin 10)) :
    digitsText ds = ds.map fun d => BitVec.ofNat 8 (48 + d.val) := by
  simp only [digitsText, digitChar_eq]

/-! ### The lines of a slip, and the destination it names (R33, R169) -/

theorem routeText_set {i : Nat} {r : RouteRec} (h : s.routes[i]? = some (some r)) :
    routeText s (.directory i) = r.label := by
  simp [routeText, h]

theorem routeText_empty {i : Nat} (h : s.routes[i]? = some none) :
    routeText s (.directory i) = ascii "ROUTE " ++ digits 2 i := by
  simp only [routeText, h, Option.join_some, decFixed_eq]
  rfl

/-! ### A leg handed over (R153 to R156) -/

theorem slipReason_eq (g : Leg) : slipReason g =
    if g.state = .confirmed ∨ g.state = .unconfirmed ∨ g.state = .wrongStation then none else g.lastReason := by
  cases h : g.state <;> simp [slipReason, h, LegState.deliveredState]

theorem handOver_of_full {j l : Nat} {x : Job} {g : Leg} (hx : s.job? j = some x) (hg : x.legs[l]? = some g)
    (h : 8 ≤ s.slips.queue.length) : handOver j l s =
      { s with slips := { s.slips with owed := s.slips.owed ++ [(j, l)] } }.setJob j
        (some { x with legs := x.legs.set l { g with slipOwed := true } }) := by
  rw [handOver, slipRoom, if_neg (Nat.not_lt.2 h)]
  exact modLeg_eq (s := s.setSlips { s.slips with owed := s.slips.owed ++ [(j, l)] }) _ hx hg

theorem handOver_of_room {j l : Nat} {x : Job} {g : Leg} (hx : s.job? j = some x) (hg : x.legs[l]? = some g)
    (h : s.slips.queue.length < 8) : handOver j l s = printerLook ((s.setSlips { s.slips with
      queue := s.slips.queue ++ [slipOf s j l x g]
      nextNumber := nextSlipNumber s.slips.nextNumber }).causeSlip x.owner) := by
  rw [handOver, slipRoom, if_pos h]
  simp only [createSlip, hx, leg_of_job hx hg]

/-! ### The printer's choice (R160) -/

theorem printerLook_of_busy (h : s.slips.printer ≠ .idle) : printerLook s = s := if_pos h

theorem printerLook_of_reprint {r : SlipRec} (hi : s.slips.printer = .idle) (hr : s.slips.reprint = true)
    (hc : s.slips.copy = some r) :
    printerLook s = slipBegins .copy { s with slips := { s.slips with reprint := false } } := by
  rw [printerLook, if_neg (not_not.2 hi), if_pos (by simp [hr, hc])]
  rfl

/-- With no copy to print the oldest unprinted record is begun. -/
theorem printerLook_of_record {r : SlipRec} (hi : s.slips.printer = .idle)
    (hn : s.slips.reprint = false ∨ s.slips.copy = none)
    (hf : (s.slips.queue.find? fun r => !r.printed) = some r) :
    printerLook s = slipBegins (.record r.number) s := by
  have no_copy : ¬ (s.slips.reprint && s.slips.copy.isSome) = true := by rcases hn with h | h <;> simp [h]
  rw [printerLook, if_neg (not_not.2 hi), if_neg no_copy, hf]
  rfl

theorem printerLook_of_printed (hi : s.slips.printer = .idle)
    (hn : s.slips.reprint = false ∨ s.slips.copy = none) (hp : ∀ r ∈ s.slips.queue, r.printed = true) :
    printerLook s = s := by
  have no_copy : ¬ (s.slips.reprint && s.slips.copy.isSome) = true := by rcases hn with h | h <;> simp [h]
  have hf : (s.slips.queue.find? fun r => !r.printed) = none :=
    List.find?_eq_none.2 fun r hr => by simp [hp r hr]
  rw [printerLook, if_neg (not_not.2 hi), if_neg no_copy, hf]

/-! ### A character (R159, R161) -/

theorem printedRecord_eq {u : SlipUnit} {i : PrintItem} {r : SlipRec}
    (h : i = .copy ∧ u.copy = some r ∨ ∃ older newer, u.queue = older ++ r :: newer ∧
      i = .record r.number ∧ ∀ o ∈ older, o.number ≠ r.number) : printedRecord u i = some r := by
  rcases h with ⟨rfl, hc⟩ | ⟨older, newer, hq, rfl, hold⟩
  · exact hc
  · refine List.find?_eq_some_iff_append.2 ⟨by simp, older, newer, hq, fun o ho => ?_⟩
    simpa using hold o ho

theorem exec_printCharacter {paperOut busy : Bool} {p : Printing} {ch : Byte}
    (hp : (elapse dt s).slips.printer = .printing) (hq : (elapse dt s).slips.printing = some p)
    (hc : nextChar (elapse dt s).slips p = some ch) : exec (.printCharacter dt paperOut busy) s =
      .next (printStep paperOut busy p ch (elapse dt s)) := by
  change execPrintCharacter dt paperOut busy s = _
  simp only [execPrintCharacter, timed, hp, hq, hc]

/-- Without paper the printer waits; BUSY high holds the character back; else it is strobed (R159). -/
theorem printStep_eq (paperOut busy : Bool) (p : Printing) (ch : Byte) (s : State) :
    printStep paperOut busy p ch s =
      let seen := s.setPins { s.pins with paperOut := paperOut, busy := busy }
      let checked := seen.setAux { s.aux with paperChecked := true }
      if paperOut = true ∧ s.aux.paperChecked = false then
        (seen.setSlips { s.slips with printer := .paperWait }).causePrinter
      else if busy = true then checked
      else strobe p ch checked := by
  have unseen : (!s.aux.paperChecked && paperOut) = true ↔ paperOut = true ∧ s.aux.paperChecked = false := by
    rw [Bool.and_eq_true, Bool.not_eq_true', and_comm]
  dsimp only
  by_cases h : paperOut = true ∧ s.aux.paperChecked = false
  · rw [printStep, if_pos (unseen.2 h), if_pos h]
    rfl
  · rw [printStep, if_neg (mt unseen.1 h), if_neg h]
    rfl

/-! ### Paper, and BUSY (R162, R163) -/

theorem exec_paperOutClears (dt : Nat) (s : State) : exec (.paperOutClears dt) s = .next (
    let u := (elapse dt s).setPins { (elapse dt s).pins with paperOut := false }
    if (elapse dt s).slips.printer = .paperWait then restartSlip u else u) := rfl

theorem exec_busyLowInFault (dt : Nat) (s : State) : exec (.busyLowInFault dt) s = .next (
    let u := (elapse dt s).setPins { (elapse dt s).pins with busy := false }
    if (elapse dt s).slips.printer = .fault then restartSlip u else u) := rfl

theorem restartSlip_eq {p : Printing} (h : t.slips.printing = some p) : restartSlip t = { t with
    slips := { t.slips with
      printer := .printing
      printing := some { p with
        line := 1, chars := 0, restarted := p.restarted || decide (1 < p.line ∨ 0 < p.chars) } }
    aux := { t.aux with charTime := 0, paperChecked := false } } := by
  simp only [restartSlip, h, Bool.decide_or, Bool.or_assoc]
  rfl

/-- Settles O57: the layout line by line, the making by `handOver`, the choice by `printerLook`, a character by
`printStep_eq` and a restart by `restartSlip_eq`. -/
theorem slipsAreMadeAndPrintedCharacterByCharacter :
    Obligations.SlipsAreMadeAndPrintedCharacterByCharacter := by
  refine ⟨?_, ?_, ?_, ?_, ?_, ?_⟩
  · intro r copy restarted hn slash code
    have plain : ∀ n ∈ [r.attempts, r.notes.short, r.notes.fill, r.notes.slip, r.notes.lamp, r.notes.bridge],
        plainNumber n (dec n) := fun n h => plainNumber_dec (hn n h)
    have hcode : ∀ ds, code ds = digitsText ds := fun ds => (digitsText_eq ds).symm
    refine ⟨?_, ?_, ?_, ?_, ⟨dec r.attempts, plain _ (by simp), ?_⟩, ?_, ?_,
      ⟨_, _, _, _, _, plain r.notes.short (by simp), plain r.notes.fill (by simp), plain r.notes.slip (by simp),
        plain r.notes.lamp (by simp), plain r.notes.bridge (by simp), ?_⟩, ?_⟩
    · rw [← decFixed_eq]; rfl
    · rw [← timeText_eq]; rfl
    · rfl
    · rfl
    · rw [← decFixed_eq, ← decFixed_eq]; rfl
    · refine congrArg₂ (· ++ ·) (congrArg₂ (· ++ ·) rfl ?_) ?_
      · cases r.outcome <;> rfl
      · cases r.reason with
        | none => rfl
        | some x => cases x <;> rfl
    · simp only [hcode, slipLine, answerbackText]
      cases r.answerback <;> rfl
    · rfl
    · rw [hcode, ← timeText_eq]; rfl
  · intro s
    refine ⟨fun d => List.map_congr_left fun x _ => ?_, fun i r h => routeText_set h, fun i h => routeText_empty h⟩
    cases x with
    | digit k => exact digitChar_eq k
    | _ => rfl
  · intro s j l x g hx hg a e ha he
    refine ⟨fun h => handOver_of_full hx hg h, fun h => ?_⟩
    rw [handOver_of_room hx hg h, slipOf, slipReason_eq, ha, he]
    rfl
  · intro s
    refine ⟨fun h => printerLook_of_busy h, fun r hi hr hc => printerLook_of_reprint hi hr hc, fun hi hn => ?_⟩
    refine ⟨fun older r newer hq hold hr => ?_, fun hp => printerLook_of_printed hi hn hp⟩
    refine printerLook_of_record hi hn (List.find?_eq_some_iff_append.2 ⟨by simp [hr], older, newer, hq, ?_⟩)
    exact fun o ho => by simp [hold o ho]
  · intro dt paperOut busy s p r ch t seen checked strobed copying hp hq hr hch
    have hnext : nextChar t.slips p = some ch := by
      rw [nextChar, printedRecord_eq hr]
      exact hch
    rw [exec_printCharacter hp hq hnext, printStep_eq]
    rfl
  · intro dt s t again paper low
    refine ⟨fun p hp => ⟨?_, ?_⟩, rfl⟩
    · rw [exec_paperOutClears]
      dsimp only
      rw [restartSlip_eq (t := t.setPins { t.pins with paperOut := false }) hp]
      rfl
    · rw [exec_busyLowInFault]
      dsimp only
      rw [restartSlip_eq (t := t.setPins { t.pins with busy := false }) hp]
      rfl

end Sys2Proof.Directory

/-! What leaves the position timer as it is: one lemma per operation. -/

namespace Sys2Proof.DrumDrive
open Machine Laws

variable (s : State)

/-- A fold over operations that leave the timer leaves the timer. -/
theorem foldl_posTimer {α : Type} (f : State → α → State) (hf : ∀ t a, (f t a).posTimer = t.posTimer)
    (as : List α) : (as.foldl f s).posTimer = s.posTimer := by
  induction as generalizing s with
  | nil => rfl
  | cons a as ih => rw [List.foldl_cons, ih, hf]

/-! ### Cause events and slips -/

@[simp] theorem setJob_posTimer (j : Nat) (x : Option Job) : (s.setJob j x).posTimer = s.posTimer := (rfl)
@[simp] theorem modLeg_posTimer (j l : Nat) (f : Leg → Leg) : (s.modLeg j l f).posTimer = s.posTimer := by
  unfold State.modLeg; split <;> rfl
@[simp] theorem cause_posTimer (c : Cause) (toDesk toPanel : Bool) :
    (s.cause c toDesk toPanel).posTimer = s.posTimer := by
  unfold State.cause; (repeat' split) <;> rfl
@[simp] theorem causeJob_posTimer (owner : Link) :
    (s.causeJob owner).posTimer = s.posTimer := by simp [State.causeJob]
@[simp] theorem causeQueue_posTimer : (s.causeQueue).posTimer = s.posTimer := (rfl)
@[simp] theorem causeLine_posTimer : (s.causeLine).posTimer = s.posTimer := (rfl)
@[simp] theorem causeDrum_posTimer : (s.causeDrum).posTimer = s.posTimer := (rfl)
@[simp] theorem causeSlip_posTimer (owner : Link) :
    (s.causeSlip owner).posTimer = s.posTimer := by simp [State.causeSlip]
@[simp] theorem causePrinter_posTimer : (s.causePrinter).posTimer = s.posTimer := (rfl)
@[simp] theorem causeFault_posTimer : (s.causeFault).posTimer = s.posTimer := (rfl)
@[simp] theorem startLimit_posTimer (l : Limit) (us : Nat) :
    (s.startLimit l us).posTimer = s.posTimer := (rfl)
@[simp] theorem elapse_posTimer (dt : Nat) : (elapse dt s).posTimer = s.posTimer := (rfl)
@[simp] theorem beginSlip_posTimer (i : PrintItem) : (beginSlip i s).posTimer = s.posTimer := (rfl)
@[simp] theorem printerLook_posTimer : (printerLook s).posTimer = s.posTimer := by
  unfold printerLook; (repeat' split) <;> rfl
@[simp] theorem createSlip_posTimer (j l : Nat) : (createSlip j l s).posTimer = s.posTimer := by
  unfold createSlip; split <;> simp
@[simp] theorem handOver_posTimer (j l : Nat) : (handOver j l s).posTimer = s.posTimer := by
  unfold handOver; split <;> simp
@[simp] theorem createOwed_posTimer : (createOwed s).posTimer = s.posTimer := by
  unfold createOwed; split <;> simp
@[simp] theorem removeSlip_posTimer (n : Nat) :
    (removeSlip n s).posTimer = s.posTimer := by simp [removeSlip]
@[simp] theorem removalTest_posTimer (n : Nat) : (removalTest n s).posTimer = s.posTimer := by
  unfold removalTest; (repeat' split) <;> simp
@[simp] theorem modSlip_posTimer (n : Nat) (f : SlipRec → SlipRec) :
    (modSlip n f s).posTimer = s.posTimer := (rfl)
@[simp] theorem slipEnd_posTimer (p : Printing) : (slipEnd p s).posTimer = s.posTimer := by
  unfold slipEnd; split <;> simp
@[simp] theorem strobe_posTimer (p : Printing) (b : Byte) : (strobe p b s).posTimer = s.posTimer := by
  unfold strobe; (repeat' split) <;> simp
@[simp] theorem restartSlip_posTimer : (restartSlip s).posTimer = s.posTimer := by
  unfold restartSlip; split <;> rfl

/-! ### Jobs and the mount queue (R7, R12 to R19) -/

@[simp] theorem setEntries_posTimer (es : List Nat) : (setEntries es s).posTimer = s.posTimer := by
  unfold setEntries; split <;> rfl
@[simp] theorem joinQueue_posTimer (j : Nat) : (joinQueue j s).posTimer = s.posTimer := by
  unfold joinQueue; split <;> simp
@[simp] theorem leaveQueue_posTimer (j : Nat) :
    (leaveQueue j s).posTimer = s.posTimer := by simp [leaveQueue]
@[simp] theorem moveInQueue_posTimer (j : Nat) : (moveInQueue j s).posTimer = s.posTimer := by
  unfold moveInQueue; split <;> simp
@[simp] theorem holdQueue_posTimer (r : HoldReason) : (holdQueue r s).posTimer = s.posTimer := (rfl)
@[simp] theorem setJobState_posTimer (j : Nat) (st : JobState) :
    (setJobState j st s).posTimer = s.posTimer := by
  unfold setJobState; split <;> simp
@[simp] theorem endJob_posTimer (j : Nat) (st : JobState) : (endJob j st s).posTimer = s.posTimer := by
  unfold endJob; (repeat' split) <;> simp
@[simp] theorem jobEndTest_posTimer (j : Nat) : (jobEndTest j s).posTimer = s.posTimer := by
  unfold jobEndTest; (repeat' split) <;> simp
@[simp] theorem legTerminal_posTimer (j l : Nat) (st : LegState) :
    (legTerminal j l st s).posTimer = s.posTimer := by
  unfold legTerminal; (repeat' split) <;> simp
@[simp] theorem cancelWaiting_posTimer (j : Nat) : (cancelWaiting j s).posTimer = s.posTimer :=
  foldl_posTimer s _ (fun t l => by split <;> simp) _
@[simp] theorem takeClaim_posTimer (j l : Nat) :
    (takeClaim j l s).posTimer = s.posTimer := by simp [takeClaim]
@[simp] theorem attemptEvent_posTimer (j l : Nat) :
    (attemptEvent j l s).posTimer = s.posTimer := by simp [attemptEvent]
@[simp] theorem modActive_posTimer (f : Leg → Leg) : (modActive f s).posTimer = s.posTimer := by
  unfold modActive; split <;> simp
@[simp] theorem noteEvent_posTimer (k : NoteKind) :
    (noteEvent k s).posTimer = s.posTimer := by simp [noteEvent]
@[simp] theorem lineSentEvent_posTimer : (lineSentEvent s).posTimer = s.posTimer := by
  simp [lineSentEvent]
@[simp] theorem applyResult_posTimer (j l : Nat) (x : Job) (g : Leg) (res : LegResult) :
    (applyResult j l x g res s).posTimer = s.posTimer := by
  unfold applyResult; (repeat' split) <;> simp
@[simp] theorem startIdle_posTimer : (startIdle s).posTimer = s.posTimer := by
  unfold startIdle; split <;> rfl
@[simp] theorem endEvent_posTimer (j l : Nat) (res : LegResult) :
    (endEvent j l res s).posTimer = s.posTimer := by
  unfold endEvent; (repeat' split) <;> simp

/-! ### The drum, the ring and the tones -/

@[simp] theorem drumStopped_posTimer : (drumStopped s).posTimer = s.posTimer := (rfl)
@[simp] theorem drumBraking_posTimer : (drumBraking s).posTimer = s.posTimer := (rfl)
@[simp] theorem countIndex_posTimer : (countIndex s).posTimer = s.posTimer := (rfl)
@[simp] theorem setSlot_posTimer (i : Nat) (x : Slot) : (s.setSlot i x).posTimer = s.posTimer := (rfl)
@[simp] theorem emptyRing_posTimer : (emptyRing s).posTimer = s.posTimer := (rfl)
@[simp] theorem unsend_posTimer : (unsend s).posTimer = s.posTimer := (rfl)
@[simp] theorem modSilent_posTimer : (modSilent s).posTimer = s.posTimer := (rfl)
@[simp] theorem modTone_posTimer (f : Nat) : (modTone f s).posTimer = s.posTimer := (rfl)
@[simp] theorem modMode_posTimer (m : Mode) (f : Nat) : (modMode m f s).posTimer = s.posTimer := (rfl)
@[simp] theorem startPair_posTimer (k : KeySym) : (startPair k s).posTimer = s.posTimer := (rfl)
@[simp] theorem markTone_posTimer : (markTone s).posTimer = s.posTimer := by
  unfold markTone; split <;> rfl
@[simp] theorem startMark_posTimer : (startMark s).posTimer = s.posTimer := (rfl)
@[simp] theorem stopMark_posTimer : (stopMark s).posTimer = s.posTimer := (rfl)
@[simp] theorem blackHold_posTimer : (blackHold s).posTimer = s.posTimer := (rfl)
@[simp] theorem bridgeMode_posTimer : (bridgeMode s).posTimer = s.posTimer := (rfl)
@[simp] theorem stopMode_posTimer : (stopMode s).posTimer = s.posTimer := (rfl)
@[simp] theorem phasingMode_posTimer (target : Nat) : (phasingMode target s).posTimer = s.posTimer := (rfl)

/-! ### The scanner and the head -/

@[simp] theorem abandonFilling_posTimer : (abandonFilling s).posTimer = s.posTimer := by
  unfold abandonFilling; split <;> rfl
@[simp] theorem scanIdle_posTimer : (scanIdle s).posTimer = s.posTimer := by simp [scanIdle]
@[simp] theorem scanHalt_posTimer : (scanHalt s).posTimer = s.posTimer := by
  unfold scanHalt; split <;> simp
@[simp] theorem scanResume_posTimer : (scanResume s).posTimer = s.posTimer := by
  unfold scanResume; split <;> rfl
@[simp] theorem scanTransmission_posTimer : (scanTransmission s).posTimer = s.posTimer := by
  unfold scanTransmission; split <;> rfl
@[simp] theorem scanPicture_posTimer : (scanPicture s).posTimer = s.posTimer := by
  unfold scanPicture; split <;> rfl
@[simp] theorem scanFinished_posTimer : (scanFinished s).posTimer = s.posTimer := by
  unfold scanFinished; split <;> simp
@[simp] theorem scanWaitTest_posTimer : (scanWaitTest s).posTimer = s.posTimer := by
  unfold scanWaitTest; split <;> rfl
@[simp] theorem scanPositioned_posTimer (p : Nat) : (scanPositioned p s).posTimer = s.posTimer := by
  unfold scanPositioned; split <;> simp
@[simp] theorem headPulse_posTimer (forward : Bool) : (headPulse forward s).posTimer = s.posTimer := (rfl)
@[simp] theorem headPositioned_posTimer :
    (headPositioned s).posTimer = s.posTimer := by simp [headPositioned]
@[simp] theorem headMoving_posTimer : (headMoving s).posTimer = s.posTimer := (rfl)
@[simp] theorem homeReached_posTimer : (homeReached s).posTimer = s.posTimer := by
  unfold homeReached; split <;> simp
@[simp] theorem enterHoming_posTimer : (enterHoming s).posTimer = s.posTimer := by
  unfold enterHoming; split <;> simp
@[simp] theorem positionIdle_posTimer (p : Nat) : (positionIdle p s).posTimer = s.posTimer := by
  unfold positionIdle; (repeat' split) <;> simp
@[simp] theorem positioningRequest_posTimer (p : Nat) : (positioningRequest p s).posTimer = s.posTimer := by
  unfold positioningRequest; (repeat' split) <;> simp
@[simp] theorem scanStep_posTimer : (scanStep s).posTimer = s.posTimer := by
  unfold scanStep; split <;> rfl

/-! ### The line unit and the dialer -/

@[simp] theorem enterLine_posTimer (st : LineState) : (enterLine st s).posTimer = s.posTimer := by
  unfold enterLine; split <;> rfl
@[simp] theorem enterGuard_posTimer : (enterGuard s).posTimer = s.posTimer := by simp [enterGuard]
@[simp] theorem dialStep_posTimer (st : DialerState) (us : Nat) :
    (dialStep st us s).posTimer = s.posTimer := (rfl)
@[simp] theorem stopDialer_posTimer : (stopDialer s).posTimer = s.posTimer := (rfl)
@[simp] theorem dialBreak_posTimer (r : PulseRate) : (dialBreak r s).posTimer = s.posTimer := (rfl)
@[simp] theorem dialTone_posTimer (k : KeySym) : (dialTone k s).posTimer = s.posTimer := (rfl)
@[simp] theorem dialPulse_posTimer (r : PulseRate) (d : Fin 10) :
    (dialPulse r d s).posTimer = s.posTimer := (rfl)
@[simp] theorem beginSymbol_posTimer (d : DialSpec) (x : DialSym) :
    (beginSymbol d x s).posTimer = s.posTimer := by
  unfold beginSymbol; (repeat' split) <;> rfl
@[simp] theorem enterTalk_posTimer : (enterTalk s).posTimer = s.posTimer := by simp [enterTalk]
@[simp] theorem enterAwaitReady_posTimer :
    (enterAwaitReady s).posTimer = s.posTimer := by simp [enterAwaitReady]
@[simp] theorem dialComplete_posTimer : (dialComplete s).posTimer = s.posTimer := by
  unfold dialComplete; split <;> simp
@[simp] theorem dialNext_posTimer : (dialNext s).posTimer = s.posTimer := by
  unfold dialNext; (repeat' split) <;> simp
@[simp] theorem symbolDone_posTimer : (symbolDone s).posTimer = s.posTimer := by simp [symbolDone]
@[simp] theorem enterDial_posTimer : (enterDial s).posTimer = s.posTimer := by simp [enterDial]
@[simp] theorem enterSeize_posTimer : (enterSeize s).posTimer = s.posTimer := by simp [enterSeize]
@[simp] theorem legEndReport_posTimer : (legEndReport s).posTimer = s.posTimer := by
  unfold legEndReport; split <;> rfl
@[simp] theorem beginClosing_posTimer (c : Closing) :
    (beginClosing c s).posTimer = s.posTimer := by simp [beginClosing]
@[simp] theorem bridgeEntry_posTimer : (bridgeEntry s).posTimer = s.posTimer := by
  simp [bridgeEntry]
@[simp] theorem bridgeResume_posTimer : (bridgeResume s).posTimer = s.posTimer := by
  simp [bridgeResume]
@[simp] theorem transmissionBegin_posTimer :
    (transmissionBegin s).posTimer = s.posTimer := by simp [transmissionBegin]
@[simp] theorem linePrepared_posTimer : (linePrepared s).posTimer = s.posTimer := by
  unfold linePrepared; (repeat' split) <;> simp
@[simp] theorem lineWithdrawn_posTimer : (lineWithdrawn s).posTimer = s.posTimer := (rfl)
@[simp] theorem lineLost_posTimer : (lineLost s).posTimer = s.posTimer := by
  unfold lineLost; split <;> simp
@[simp] theorem lineLocked_posTimer (r : Rpm) : (lineLocked r s).posTimer = s.posTimer := by
  unfold lineLocked; split <;> simp
@[simp] theorem lineSlipRev_posTimer : (lineSlipRev s).posTimer = s.posTimer := by
  unfold lineSlipRev; split <;> simp
@[simp] theorem lineIndex_posTimer : (lineIndex s).posTimer = s.posTimer := by
  unfold lineIndex; split <;> simp
@[simp] theorem linePhasingComplete_posTimer : (linePhasingComplete s).posTimer = s.posTimer := by
  unfold linePhasingComplete; split <;> simp
@[simp] theorem linePictureComplete_posTimer : (linePictureComplete s).posTimer = s.posTimer := by
  unfold linePictureComplete; split <;> simp
@[simp] theorem enterAnswerback_posTimer :
    (enterAnswerback s).posTimer = s.posTimer := by simp [enterAnswerback]

/-! ### Preparation and capture -/

@[simp] theorem beginPreparation_posTimer (samples lineCount : Nat) (speed : Rpm) (resume : Nat) :
    (beginPreparation samples lineCount speed resume s).posTimer = s.posTimer := by
  simp [beginPreparation]
@[simp] theorem sendPrepared_posTimer : (sendPrepared s).posTimer = s.posTimer := by
  simp [sendPrepared]
@[simp] theorem enterPrepared_posTimer : (enterPrepared s).posTimer = s.posTimer := by
  unfold enterPrepared; dsimp only; (repeat' split) <;> simp
@[simp] theorem darkDone_posTimer (sum samples : Nat) :
    (darkDone sum samples s).posTimer = s.posTimer := (rfl)
@[simp] theorem scanLost_posTimer : (scanLost s).posTimer = s.posTimer := by
  unfold scanLost; (repeat' split) <;> rfl
@[simp] theorem scanRetested_posTimer (t : State) : (scanRetested s t).posTimer = t.posTimer := by
  unfold scanRetested; split <;> simp
@[simp] theorem scanLocked_posTimer (r : Rpm) : (scanLocked r s).posTimer = s.posTimer := by
  unfold scanLocked; (repeat' split) <;> simp
@[simp] theorem lampHold_posTimer : (lampHold s).posTimer = s.posTimer := by
  unfold lampHold; split <;> simp
@[simp] theorem trackDone_posTimer (meas : Nat) : (trackDone meas s).posTimer = s.posTimer := by
  unfold trackDone; split <;> simp
@[simp] theorem captureBegin_posTimer : (captureBegin s).posTimer = s.posTimer := by
  unfold captureBegin; (repeat' split) <;> rfl
@[simp] theorem captureDone_posTimer (f : Filling) (levels : List Nat) :
    (captureDone f levels s).posTimer = s.posTimer := by simp [captureDone]
@[simp] theorem writeLevel_posTimer (samples r : Nat) : (writeLevel samples r s).posTimer = s.posTimer := by
  unfold writeLevel; (repeat' split) <;> simp
@[simp] theorem shortLine_posTimer : (shortLine s).posTimer = s.posTimer := by
  unfold shortLine; split <;> simp
@[simp] theorem trackSample_posTimer (samples k r : Nat) :
    (trackSample samples k r s).posTimer = s.posTimer := by
  unfold trackSample; (repeat' split) <;> simp
@[simp] theorem darkEnd_posTimer : (darkEnd s).posTimer = s.posTimer := by
  unfold darkEnd; (repeat' split) <;> rfl
@[simp] theorem scanSpanEnd_posTimer : (scanSpanEnd s).posTimer = s.posTimer := by
  unfold scanSpanEnd; split <;> simp
@[simp] theorem warmIndex_posTimer : (warmIndex s).posTimer = s.posTimer := by
  unfold warmIndex; split <;> rfl
@[simp] theorem darkIndex_posTimer : (darkIndex s).posTimer = s.posTimer := by
  unfold darkIndex; (repeat' split) <;> simp
@[simp] theorem scanIndex_posTimer : (scanIndex s).posTimer = s.posTimer := by
  unfold scanIndex; split <;> simp

/-! ### The picture -/

@[simp] theorem spanDecision_posTimer : (spanDecision s).posTimer = s.posTimer := by
  unfold spanDecision; (repeat' split) <;> simp
@[simp] theorem modPosition_posTimer (k : Nat) : (modPosition k s).posTimer = s.posTimer := by
  unfold modPosition; dsimp only; (repeat' split) <;> simp
@[simp] theorem endSend_posTimer : (endSend s).posTimer = s.posTimer := by
  unfold endSend; dsimp only; (repeat' split) <;> simp
@[simp] theorem modSpanEnd_posTimer : (modSpanEnd s).posTimer = s.posTimer := by
  unfold modSpanEnd; split <;> simp
@[simp] theorem modRevolution_posTimer : (modRevolution s).posTimer = s.posTimer := by
  unfold modRevolution; split <;> simp
@[simp] theorem modPhasingIndex_posTimer : (modPhasingIndex s).posTimer = s.posTimer := by
  unfold modPhasingIndex; dsimp only; (repeat' split) <;> simp
@[simp] theorem spanEndReport_posTimer : (spanEndReport s).posTimer = s.posTimer := by
  simp [spanEndReport]
@[simp] theorem indexSpanEnd_posTimer : (indexSpanEnd s).posTimer = s.posTimer := by
  unfold indexSpanEnd; split <;> simp

/-! ### The drum's reports, its index and its demands (R45 to R57, R64) -/

@[simp] theorem reportLocked_posTimer (r : Rpm) :
    (reportLocked r s).posTimer = s.posTimer := by simp [reportLocked]
@[simp] theorem reportLost_posTimer : (reportLost s).posTimer = s.posTimer := by simp [reportLost]
@[simp] theorem scanFault_posTimer : (scanFault s).posTimer = s.posTimer := by simp [scanFault]
@[simp] theorem drumLost_posTimer : (drumLost s).posTimer = s.posTimer := by simp [drumLost]
@[simp] theorem faultEntry_posTimer (c : Option FaultCause) :
    (faultEntry c s).posTimer = s.posTimer := (rfl)
@[simp] theorem enterLocked_posTimer (r : Rpm) :
    (enterLocked r s).posTimer = s.posTimer := by simp [enterLocked]
@[simp] theorem lockingIndex_posTimer (r : Rpm) (e : Int) : (lockingIndex r e s).posTimer = s.posTimer := by
  unfold lockingIndex; dsimp only; (repeat' split) <;> simp
@[simp] theorem lockedIndex_posTimer (r : Rpm) (e : Int) : (lockedIndex r e s).posTimer = s.posTimer := by
  unfold lockedIndex; split <;> rfl
@[simp] theorem slipIndex_posTimer (r : Rpm) (e : Int) : (slipIndex r e s).posTimer = s.posTimer := by
  unfold slipIndex; dsimp only; (repeat' split) <;> simp
@[simp] theorem spinupIndex_posTimer (r : Rpm) (p : Nat) : (spinupIndex r p s).posTimer = s.posTimer := by
  unfold spinupIndex; split <;> rfl
@[simp] theorem drumIndex_posTimer : (drumIndex s).posTimer = s.posTimer := by
  unfold drumIndex; (repeat' split) <;> simp
@[simp] theorem demandDrum_posTimer (k : Demand) (r : Rpm) : (demandDrum k r s).posTimer = s.posTimer := by
  unfold demandDrum; dsimp only; (repeat' split) <;> simp
@[simp] theorem giveSpeed_posTimer (r : Rpm) : (giveSpeed r s).posTimer = s.posTimer := by
  unfold giveSpeed; split <;> simp
@[simp] theorem openCover_posTimer : (openCover s).posTimer = s.posTimer := by
  unfold openCover; (repeat' split) <;> simp

/-! ### What the commands do -/

@[simp] theorem noRouteEnd_posTimer (j l : Nat) :
    (noRouteEnd j l s).posTimer = s.posTimer := by simp [noRouteEnd]
@[simp] theorem grantTalk_posTimer (p : PendingTalk) :
    (grantTalk p s).posTimer = s.posTimer := by simp [grantTalk]
@[simp] theorem commitJob_posTimer (j : Nat) (x : Job) :
    (commitJob j x s).posTimer = s.posTimer := by simp [commitJob]
@[simp] theorem unmountJob_posTimer (j : Nat) (x : Job) :
    (unmountJob j x s).posTimer = s.posTimer := by simp [unmountJob]
@[simp] theorem stopDrum_posTimer : (stopDrum s).posTimer = s.posTimer := by
  unfold stopDrum; (repeat' split) <;> rfl
@[simp] theorem senseHome_posTimer (home : Bool) : (senseHome home s).posTimer = s.posTimer := (rfl)
@[simp] theorem homingStep_posTimer (home : Bool) : (homingStep home s).posTimer = s.posTimer := by
  unfold homingStep; split <;> simp
@[simp] theorem movingStep_posTimer (home : Bool) : (movingStep home s).posTimer = s.posTimer := by
  unfold movingStep; dsimp only; (repeat' split) <;> simp
@[simp] theorem failHoming_posTimer : (failHoming s).posTimer = s.posTimer := (rfl)
@[simp] theorem endScanStep_posTimer (home : Bool) : (endScanStep home s).posTimer = s.posTimer := by
  unfold endScanStep; dsimp only; (repeat' split) <;> simp
@[simp] theorem updateDac_posTimer : (updateDac s).posTimer = s.posTimer := by
  unfold updateDac; split <;> rfl
@[simp] theorem markSilence_posTimer : (markSilence s).posTimer = s.posTimer := (rfl)
@[simp] theorem markNext_posTimer : (markNext s).posTimer = s.posTimer := by
  unfold markNext; dsimp only; (repeat' split) <;> simp
@[simp] theorem takeReady_posTimer : (takeReady s).posTimer = s.posTimer := by
  unfold takeReady; split <;> simp
@[simp] theorem collect_posTimer (r : SlipRec) : (collect r s).posTimer = s.posTimer := by
  simp [collect]
@[simp] theorem collectionOff_posTimer : (collectionOff s).posTimer = s.posTimer :=
  foldl_posTimer _ _ (fun t n => by simp) _
@[simp] theorem printStep_posTimer (paperOut busy : Bool) (p : Printing) (ch : Byte) :
    (printStep paperOut busy p ch s).posTimer = s.posTimer := by
  unfold printStep; (repeat' split) <;> simp
@[simp] theorem changeSense_posTimer (present : Bool) :
    (changeSense present s).posTimer = s.posTimer := (rfl)
@[simp] theorem idleCompared_posTimer (n : Nat) : (idleCompared n s).posTimer = s.posTimer := by
  unfold idleCompared; split <;> rfl

end Sys2Proof.DrumDrive

/-! The position timer's record (R67 to R74): what each operation of the blocks makes of it. -/

namespace Sys2Proof.DrumDrive
open Machine Laws

/-! ### The timer's record is kept by every operation of the blocks -/

theorem unload_right (t : PosTimer) : timerRight t.unload := by
  simp [timerRight, PosTimer.unload, PosTimer.reset]

theorem reset_right : timerRight PosTimer.reset := by simp [timerRight, PosTimer.reset]

section
variable {s : State}

/-- The end of a call unloads the timer (R69, R144). -/
@[simp] theorem callGone_right : timerRight (callGone s).posTimer := unload_right _

/-- A leg start loads the timer with S, G and N; no position has begun (R67, R69). -/
@[simp] theorem loadTimer_right (samples : Nat) (speed : Rpm) :
    timerRight (loadTimer samples speed s).posTimer := by
  simp [timerRight, loadTimer, PosTimer.reset, gapOf, positionsOf]

@[simp] theorem callEnd_right (res : LegResult) (loopLoss : Bool) (h : timerRight s.posTimer) :
    timerRight (callEnd res loopLoss s).posTimer := by
  unfold callEnd; split <;> simp [h]

@[simp] theorem talkRelease_right (e : TalkEnding) : timerRight (talkRelease e s).posTimer := by
  simp [talkRelease]

@[simp] theorem lineLamp_right (h : timerRight s.posTimer) : timerRight (lineLamp s).posTimer := by
  unfold lineLamp; split <;> simp [h]

@[simp] theorem lineFault_right (h : timerRight s.posTimer) : timerRight (lineFault s).posTimer := by
  unfold lineFault; (repeat' split) <;> simp [h]

@[simp] theorem abortCall_right (h : timerRight s.posTimer) : timerRight (abortCall s).posTimer := by
  unfold abortCall; (repeat' split) <;> simp [h]

@[simp] theorem takeSymbol_right (k : KeySym) (h : timerRight s.posTimer) :
    timerRight (takeSymbol k s).posTimer := by
  unfold takeSymbol
  split
  · exact callEnd_right _ _ h
  · dsimp only
    split
    · exact callEnd_right _ _ h
    · exact h

@[simp] theorem endSeize_right (loop : Bool) (h : timerRight s.posTimer) :
    timerRight (endSeize loop s).posTimer := by
  unfold endSeize
  split
  · (repeat' split) <;> simp [h]
  · split
    · simpa using h
    · exact callEnd_right _ _ h

@[simp] theorem endStopTime_right (h : timerRight s.posTimer) : timerRight (endStopTime s).posTimer := by
  unfold endStopTime; (repeat' split) <;> simp [h]

@[simp] theorem endWindow_right (h : timerRight s.posTimer) : timerRight (endWindow s).posTimer := by
  unfold endWindow; split <;> simp [h]

@[simp] theorem loseLoop_right (h : timerRight s.posTimer) : timerRight (loseLoop s).posTimer := by
  unfold loseLoop; (repeat' split) <;> simp [h]

@[simp] theorem lampFailure_right (h : timerRight s.posTimer) : timerRight (lampFailure s).posTimer := by
  simp [lampFailure, h]

@[simp] theorem whiteDone_right (meas : Nat) (h : timerRight s.posTimer) :
    timerRight (whiteDone meas s).posTimer := by
  unfold whiteDone
  dsimp only
  split
  · simpa using h
  · exact lampFailure_right h

@[simp] theorem whiteSample_right (samples k r : Nat) (h : timerRight s.posTimer) :
    timerRight (whiteSample samples k r s).posTimer := by
  unfold whiteSample
  split
  · dsimp only
    split
    · exact whiteDone_right _ h
    · exact h
  · exact h

@[simp] theorem scanSample_right (k r : Nat) (h : timerRight s.posTimer) :
    timerRight (scanSample k r s).posTimer := by
  unfold scanSample; dsimp only; (repeat' split) <;> simp [h]

@[simp] theorem reportFault_right (h : timerRight s.posTimer) : timerRight (reportFault s).posTimer := by
  simp [reportFault, h]

@[simp] theorem drumFault_right (c : Option FaultCause) (h : timerRight s.posTimer) :
    timerRight (drumFault c s).posTimer := by simp [drumFault, h]

/-! ### Positions and the index (R70 to R74) -/

/-- A timer that counts is RUNNING, and its next position, if N allows one, may begin (R71, R72). -/
theorem timerRight_next {t : PosTimer} {k : Nat} (h : timerRight t) (hk : t.counter = some k)
    (hn : k + 1 < t.positions.getD 0) : timerRight { t with counter := some (k + 1) } := by
  unfold timerRight at h ⊢
  split at h
  next hr =>
    obtain ⟨speed, source, interval, n, samples, gap, positions, -⟩ := h
    have below : k + 1 < n + n / 8 := by simpa [positions] using hn
    have counts : t.interval ≠ none := fun hi => by simp [interval.1 hi] at hk
    simp [hr, speed, source, counts, samples, gap, positions, below]
  next =>
    obtain ⟨-, -, -, -, -, -, counter⟩ := h
    rw [counter] at hk
    cases hk

/-- In a RUNNING timer a revolution begins at position 0, with an interval (R70, R71). -/
theorem timerRight_revolution {t : PosTimer} (h : timerRight t) (hr : t.running = true)
    (lastRev : Option LastRev) (interval : Nat) :
    timerRight { t with lastRev := lastRev, counter := some 0, interval := some interval } := by
  unfold timerRight at h ⊢
  rw [if_pos hr] at h
  obtain ⟨speed, source, -, n, samples, gap, positions, -⟩ := h
  simp [hr, speed, source, samples, gap, positions]

theorem beginPosition_right {k : Nat} (sample : Nat)
    (h : timerRight { s.posTimer with counter := some k }) :
    timerRight (beginPosition k sample s).posTimer := by
  rw [beginPosition, modPosition_posTimer]
  exact scanSample_right _ _ h

/-- A period reported changes the held period alone, in either timer state (R70). -/
theorem holdPeriod_right (p : Option Nat) (h : timerRight s.posTimer) :
    timerRight (holdPeriod p s).posTimer := h

@[simp] theorem timerIndex_right (period : Option Nat) (scan phase : Bool) (sample : Nat)
    (h : timerRight s.posTimer) : timerRight (timerIndex period scan phase sample s).posTimer := by
  have held := holdPeriod_right period h
  unfold timerIndex
  dsimp only
  split
  next hr =>
    have begun : timerRight (startRevolution (indexSpanEnd (holdPeriod period s))).posTimer :=
      timerRight_revolution (by simpa using held) (by simpa using hr) _ _
    have position0 : ∀ u, u.posTimer = (startRevolution (indexSpanEnd (holdPeriod period s))).posTimer →
        timerRight (beginPosition 0 sample u).posTimer := fun u hu =>
      beginPosition_right _ (by rw [hu]; exact begun)
    exact position0 _ (by (repeat' split) <;> simp)
  · exact held

@[simp] theorem takePulse_right (sample : Nat) (h : timerRight s.posTimer) :
    timerRight (takePulse sample s).posTimer := by
  unfold takePulse
  split
  · split
    next k hk =>
      split
      next hn => exact beginPosition_right _ (timerRight_next h hk hn)
      · split <;> simp [h]
    · exact h
  · exact h

/-- A position that is due with source TIMER lies below N, and may begin (R71). -/
theorem beginPosition_due_right {k : Nat} (sample : Nat) (h : timerRight s.posTimer)
    (hk : s.posTimer.counter = some k) (hd : positionDue s k = true) :
    timerRight (beginPosition (k + 1) sample s).posTimer := by
  simp only [positionDue, Bool.and_eq_true, decide_eq_true_eq] at hd
  obtain ⟨⟨-, hn⟩, -⟩ := hd
  exact beginPosition_right _ (timerRight_next h hk hn)

@[simp] theorem takeIndex_right (sample : Nat) (drumFirst : Bool) (h : timerRight s.posTimer) :
    timerRight (takeIndex sample drumFirst s).posTimer := by
  unfold takeIndex; dsimp only; split <;> simp [h]

/-! ### The arbiter and the requests it prompts -/

@[simp] theorem beginCall_right (j l : Nat) (x : Job) (g : Leg) (b : DialBuf) :
    timerRight (beginCall j l x g b s).posTimer := by
  unfold beginCall; dsimp only; split <;> simp

@[simp] theorem arbiterLook_right (n : Nat) (h : timerRight s.posTimer) :
    timerRight (arbiterLook n s).posTimer := by
  induction n generalizing s with
  | zero => exact h
  | succ n ih => unfold arbiterLook; (repeat' split) <;> simp [h, ih]

@[simp] theorem prompt_right (h : timerRight s.posTimer) : timerRight (prompt s).posTimer :=
  arbiterLook_right 5 h

@[simp] theorem cancelIdle_right (j : Nat) (x : Job) (h : timerRight s.posTimer) :
    timerRight (cancelIdle j x s).posTimer := by
  unfold cancelIdle; dsimp only; split <;> simp [h]

@[simp] theorem cancelActive_right (j : Nat) (x : Job) (h : timerRight s.posTimer) :
    timerRight (cancelActive j x s).posTimer := by simp [cancelActive, h]

@[simp] theorem mountJob_right (j : Nat) (x : Job) (h : timerRight s.posTimer) :
    timerRight (mountJob j x s).posTimer := by simp [mountJob, h]

@[simp] theorem skipLeg_right (j l : Nat) (h : timerRight s.posTimer) :
    timerRight (skipLeg j l s).posTimer := by
  unfold skipLeg; dsimp only; split <;> simp [h]

@[simp] theorem releaseHold_right (h : timerRight s.posTimer) : timerRight (releaseHold s).posTimer := by
  unfold releaseHold; split <;> simp [h]

@[simp] theorem clearLegEnd_right (h : timerRight s.posTimer) : timerRight (clearLegEnd s).posTimer := by
  unfold clearLegEnd
  split
  · exact prompt_right h
  · exact h

@[simp] theorem compareRetries_right (h : timerRight s.posTimer) :
    timerRight (compareRetries s).posTimer := by
  unfold compareRetries; split <;> simp [h]

end

end Sys2Proof.DrumDrive

/-! Every command and every step: the drum's and the position timer's records (R43, R67 to R69). -/

namespace Sys2Proof.DrumDrive
open Machine Laws PictureJobs Directory

/-! ### What a command writes of the drum and the position timer -/

/-- The drum's and the position timer's standing relations are kept (R43, R67 to R69). -/
structure RecordsKept (s t : State) : Prop where
  drum : StartDuties s → DrumRecord s → DrumRecord t
  timer : timerRight s.posTimer → timerRight t.posTimer

/-- What those relations and their premise speak of. -/
def drive (s : State) : Drum × PosTimer × Settings := (s.drum, s.posTimer, s.settings)

section
variable {s t : State} {dt : Nat} {lk : Link} {b : Byte} {c : Code} {serve : Serve} {f : State → State}

theorem recordsKept_of_kept (k : Kept s t) (h : timerRight s.posTimer → timerRight t.posTimer) :
    RecordsKept s t := ⟨k.drum, h⟩

theorem RecordsKept.refl (s : State) : RecordsKept s s := ⟨fun _ h => h, id⟩

/-- Records, settings and premise are those of other states. -/
theorem RecordsKept.congr {s' t' : State} (h : RecordsKept s t) (hs : drive s' = drive s)
    (ht : drive t' = drive t) : RecordsKept s' t' := by
  simp only [drive, Prod.mk.injEq] at hs ht
  obtain ⟨drum, timer, settings⟩ := hs
  obtain ⟨drum', timer', -⟩ := ht
  obtain ⟨hd, hp⟩ := h
  refine ⟨?_, by rwa [timer, timer']⟩
  unfold StartDuties DrumRecord at hd ⊢
  rwa [drum, drum', settings]

theorem recordsKept_of_drive (h : drive t = drive s) : RecordsKept s t := (RecordsKept.refl s).congr rfl h

@[simp] theorem setLink_drive (lk : Link) (r : LinkRec) (s : State) : drive (s.setLink lk r) = drive s := by
  cases lk <;> rfl

theorem elapse_startDuties (dt : Nat) (h : StartDuties s) : StartDuties (elapse dt s) := by
  unfold StartDuties at h ⊢
  simpa [elapse] using h

/-- Passing time leaves the times of SPINUP and BRAKING present or absent, and the rest as it is (R43). -/
theorem elapse_drum_right (dt : Nat) (h : DrumRecord s) : DrumRecord (elapse dt s) := by
  obtain ⟨row, target, duty, spinup, braking⟩ := h
  exact ⟨row, target, duty, by simpa [elapse, Drum.elapse] using spinup,
    by simpa [elapse, Drum.elapse] using braking⟩

theorem timed_recordsKept (hf : ∀ u, RecordsKept u (f u)) (h : timed dt f s = .next t) :
    RecordsKept s t := by
  obtain rfl := Host.Outcome.next.inj h
  obtain ⟨drum, timer⟩ := hf (elapse dt s)
  rw [elapse_posTimer] at timer
  exact ⟨fun hd hr => drum (elapse_startDuties dt hd) (elapse_drum_right dt hr), timer⟩

/-- An event of the blocks, by what its operations keep of both records. -/
theorem timed_kept (hk : ∀ u, Kept u (f u))
    (hp : ∀ u, timerRight u.posTimer → timerRight (f u).posTimer) (h : timed dt f s = .next t) :
    RecordsKept s t := timed_recordsKept (fun u => recordsKept_of_kept (hk u) (hp u)) h

theorem request_recordsKept (hs : ∀ args u, RecordsKept u (serve args u).2)
    (h : request c lk b serve s = .next t) : RecordsKept s t := by
  unfold request at h
  split at h
  next f _ =>
    split at h
    · obtain rfl := Host.Outcome.next.inj h
      unfold answer
      dsimp only
      split
      · exact recordsKept_of_drive (by simp [takeRequest, placeReply])
      · exact (hs f.args (takeRequest lk s)).congr (by simp [takeRequest]) (by simp [placeReply])
    · exact recordsKept_of_drive (by rw [Host.Outcome.next.inj h])
  · exact recordsKept_of_drive (by rw [Host.Outcome.next.inj h])

/-- A request, by what its block's part keeps of both records. -/
theorem request_kept (hk : ∀ args u, Kept u (serve args u).2)
    (hp : ∀ args u, timerRight u.posTimer → timerRight (serve args u).2.posTimer)
    (h : request c lk b serve s = .next t) : RecordsKept s t :=
  request_recordsKept (fun args u => recordsKept_of_kept (hk args u) (hp args u)) h

/-- A request whose block answers from the state as it stands. -/
theorem request_read (hs : ∀ args u, (serve args u).2 = u) (h : request c lk b serve s = .next t) :
    RecordsKept s t := request_recordsKept (fun args u => recordsKept_of_drive (by rw [hs])) h

theorem onJob_right {j : Nat} {own : Option Link} {k : Job → Reply × State} (h : timerRight s.posTimer)
    (hk : ∀ x, timerRight (k x).2.posTimer) : timerRight (onJob j own s k).2.posTimer :=
  onJob_snd (P := fun u => timerRight u.posTimer) h fun x _ => hk x

/-! ### The parts of the requests -/

theorem serveOpenJob_right (lk : Link) (args : List Byte) (s : State) (h : timerRight s.posTimer) :
    timerRight (serveOpenJob lk args s).2.posTimer := by
  unfold serveOpenJob; (repeat' split) <;> simp [h]

theorem serveAddLeg_right (lk : Link) (args : List Byte) (s : State) (h : timerRight s.posTimer) :
    timerRight (serveAddLeg lk args s).2.posTimer := by
  unfold serveAddLeg
  split
  · refine onJob_right h fun x => ?_
    (repeat' split) <;> simp [h]
  · exact h

theorem serveCommitJob_right (lk : Link) (args : List Byte) (s : State) (h : timerRight s.posTimer) :
    timerRight (serveCommitJob lk args s).2.posTimer := by
  unfold serveCommitJob
  split
  · refine onJob_right h fun x => ?_
    (repeat' split) <;> simp [h]
  · exact h

theorem serveCancelJob_right (lk : Link) (args : List Byte) (s : State) (h : timerRight s.posTimer) :
    timerRight (serveCancelJob lk args s).2.posTimer := by
  unfold serveCancelJob
  split
  · refine onJob_right h fun x => ?_
    (repeat' split) <;> simp [h]
  · exact h

theorem serveClearJob_right (lk : Link) (args : List Byte) (s : State) (h : timerRight s.posTimer) :
    timerRight (serveClearJob lk args s).2.posTimer := by
  unfold serveClearJob
  split
  · refine onJob_right h fun x => ?_
    (repeat' split) <;> simp [h]
  · exact h

theorem serveSetPriority_right (args : List Byte) (s : State) (h : timerRight s.posTimer) :
    timerRight (serveSetPriority args s).2.posTimer := by
  unfold serveSetPriority
  split
  · refine onJob_right h fun x => ?_
    (repeat' split) <;> simp [h]
  · exact h

theorem serveMount_right (args : List Byte) (s : State) (h : timerRight s.posTimer) :
    timerRight (serveMount args s).2.posTimer := by
  unfold serveMount
  split
  · refine onJob_right h fun x => ?_
    (repeat' split) <;> simp [h]
  · exact h

theorem serveUnmount_right (args : List Byte) (s : State) (h : timerRight s.posTimer) :
    timerRight (serveUnmount args s).2.posTimer := by
  unfold serveUnmount
  split
  · refine onJob_right h fun x => ?_
    (repeat' split) <;> simp [h]
  · exact h

theorem serveSkipLeg_right (args : List Byte) (s : State) (h : timerRight s.posTimer) :
    timerRight (serveSkipLeg args s).2.posTimer := by
  unfold serveSkipLeg
  split
  · refine onJob_right h fun x => ?_
    (repeat' split) <;> simp [h]
  · exact h

theorem serveReadLeg_right (args : List Byte) (s : State) (h : timerRight s.posTimer) :
    timerRight (serveReadLeg args s).2.posTimer := by
  unfold serveReadLeg
  split
  · refine onJob_right h fun x => ?_
    (repeat' split) <;> simp [h]
  · exact h

theorem takeTalk_right (route : Option DialBuf) (h : timerRight s.posTimer) :
    timerRight (takeTalk route s).2.posTimer := by
  unfold takeTalk
  split
  · exact prompt_right h
  all_goals (repeat' split) <;> simp [h]

theorem serveTalk_right (args : List Byte) (s : State) (h : timerRight s.posTimer) :
    timerRight (serveTalk args s).2.posTimer := by
  unfold serveTalk; split <;> simp [h, takeTalk_right]

theorem serveEndTalk_right (args : List Byte) (s : State) (h : timerRight s.posTimer) :
    timerRight (serveEndTalk args s).2.posTimer := by
  unfold serveEndTalk; (repeat' split) <;> simp [h]

theorem serveDrumRun_right (args : List Byte) (s : State) (h : timerRight s.posTimer) :
    timerRight (serveDrumRun args s).2.posTimer := by
  unfold serveDrumRun; (repeat' split) <;> simp [h]

theorem serveDrumStop_right (args : List Byte) (s : State) (h : timerRight s.posTimer) :
    timerRight (serveDrumStop args s).2.posTimer := by
  unfold serveDrumStop; (repeat' split) <;> simp [h]

theorem serveCollectSlip_right (args : List Byte) (s : State) (h : timerRight s.posTimer) :
    timerRight (serveCollectSlip args s).2.posTimer := by
  unfold serveCollectSlip; (repeat' split) <;> simp [h]

theorem serveReprintSlip_right (args : List Byte) (s : State) (h : timerRight s.posTimer) :
    timerRight (serveReprintSlip args s).2.posTimer := by
  unfold serveReprintSlip; (repeat' split) <;> simp [h]

theorem serveSetCollection_right (args : List Byte) (s : State) (h : timerRight s.posTimer) :
    timerRight (serveSetCollection args s).2.posTimer := by
  unfold serveSetCollection; (repeat' split) <;> simp [h]

theorem serveReadJob_right (args : List Byte) (s : State) (h : timerRight s.posTimer) :
    timerRight (serveReadJob args s).2.posTimer := by
  unfold serveReadJob; (repeat' split) <;> simp [h]

theorem serveReadRoute_right (args : List Byte) (s : State) (h : timerRight s.posTimer) :
    timerRight (serveReadRoute args s).2.posTimer := by
  unfold serveReadRoute; (repeat' split) <;> simp [h]

theorem serveReadSetting_right (args : List Byte) (s : State) (h : timerRight s.posTimer) :
    timerRight (serveReadSetting args s).2.posTimer := by
  unfold serveReadSetting; (repeat' split) <;> simp [h]

end
/-! ### The commands that write beside the blocks: links, directory, store, clock, modes, resets -/

section
variable {s t : State} {lk : Link} {b : Byte}

theorem beginSelect_drive (lk : Link) (b : Byte) (s : State) : drive (beginSelect lk b s) = drive s := by
  unfold beginSelect; dsimp only; (repeat' split) <;> simp

theorem endSelect_drive (lk : Link) (part : Bool) (s : State) : drive (endSelect lk part s) = drive s := by
  unfold endSelect; dsimp only; (repeat' split) <;> simp

theorem readReply_drive (lk : Link) (s : State) : drive (readReply lk s) = drive s := by
  unfold readReply; dsimp only; (repeat' split) <;> simp

@[simp] theorem sendByte_drive (lk : Link) (s : State) : drive (sendByte lk s) = drive s := by
  unfold sendByte; dsimp only; (repeat' split) <;> simp

theorem clockByte_drive (lk : Link) (b : Byte) (s : State) : drive (clockByte lk b s) = drive s := by
  unfold clockByte receiveByte; (repeat' split) <;> simp

/-- A request whose block writes no more than a part of the state that neither record is in. -/
theorem request_writes {α : Type} {c : Code} {serve : Serve} {write : State → α → State}
    (hs : ∀ args u, ∃ x, (serve args u).2 = write u x) (hw : ∀ u x, drive (write u x) = drive u)
    (h : request c lk b serve s = .next t) : RecordsKept s t :=
  request_recordsKept (fun args u => by
    obtain ⟨x, hx⟩ := hs args u
    rw [hx]
    exact recordsKept_of_drive (hw u x)) h

theorem unknownRequest_recordsKept (h : execUnknownRequest lk b s = .next t) : RecordsKept s t := by
  refine recordsKept_of_drive ?_
  unfold execUnknownRequest at h
  (repeat' split at h) <;> obtain rfl := Host.Outcome.next.inj h <;> simp [placeReply, takeRequest]

/-- A write of DRUM_IDLE that stops the drum brakes it (R59, R189). -/
theorem idleCompared_recordsKept (n : Nat) (g : Settings) (s : State) :
    RecordsKept s (idleCompared n (s.setSettings g)) := by
  refine ⟨fun _ h => ?_, by simp⟩
  unfold idleCompared
  split
  · exact toBraking_right _
  · exact h

theorem serveWriteSetting_recordsKept (args : List Byte) (s : State) :
    RecordsKept s (serveWriteSetting args s).2 := by
  have same : RecordsKept s s := .refl s
  unfold serveWriteSetting
  split
  · exact same
  · split
    · exact same
    · unfold storeStation
      (repeat' split) <;> exact ⟨fun _ h => h, id⟩
    · split
      · split
        · unfold storeNumber
          dsimp only
          (repeat' split) <;> first | exact same | exact idleCompared_recordsKept _ _ s
        · exact same
      · exact same

/-- The leg-end flag is cleared once fields of neither record have been written. -/
theorem clearLegEnd_recordsKept {u : State} (h : drive s = drive u) : RecordsKept s (clearLegEnd u) :=
  (recordsKept_of_kept (by simp) clearLegEnd_right).congr h rfl

theorem serveSetModes_recordsKept (args : List Byte) (s : State) :
    RecordsKept s (serveSetModes args s).2 := by
  have same : RecordsKept s s := .refl s
  unfold serveSetModes
  split
  · split
    next x y _ _ =>
      change RecordsKept s (changeModes x y s)
      unfold changeModes
      split
      · exact recordsKept_of_drive rfl
      · exact clearLegEnd_recordsKept rfl
    · exact same
  · exact same

theorem readAttention_recordsKept (lk : Link) (s : State) : RecordsKept s (readAttention lk s) := by
  cases lk with
  | desk => exact recordsKept_of_drive rfl
  | panel => exact clearLegEnd_recordsKept rfl

theorem serveSetAttn_drive (lk : Link) (args : List Byte) (s : State) :
    drive (serveSetAttn lk args s).2 = drive s := by
  cases lk <;> (unfold serveSetAttn; (repeat' split) <;> rfl)

theorem compareRetries_recordsKept {u : State} (h : drive s = drive u) :
    RecordsKept s (compareRetries u) :=
  (recordsKept_of_kept (by simp) compareRetries_right).congr h rfl

theorem serveSetClock_recordsKept (args : List Byte) (s : State) :
    RecordsKept s (serveSetClock args s).2 := by
  have same : RecordsKept s s := .refl s
  unfold serveSetClock
  split
  · split
    · exact same
    · exact compareRetries_recordsKept rfl
  · exact same

theorem coverClose_recordsKept (s : State) :
    RecordsKept s (s.setDrum { s.drum with coverOpen := false }) := ⟨fun _ h => h, id⟩

theorem clockTick_drive (s : State) : drive (clockTick s) = drive s := by
  unfold clockTick; split <;> rfl

theorem lineReset_drive (s : State) : drive (lineReset s) = drive s := by
  cases h : s.line.state.hookClosed with
  | false => rw [lineReset_of_open h]; rfl
  | true => rw [lineReset_of_closed h]; rfl

/-- Machine reset stops the drum or brakes it; a braking drum brakes on (R66). -/
theorem drum_machineReset_right {d : Drum} (h : drumRight d) : drumRight d.machineReset := by
  unfold Drum.machineReset
  split
  · exact toStopped_right d
  next hs =>
    obtain ⟨row, target, duty, spinup, -⟩ := toBraking_right d
    obtain ⟨-, -, -, -, braking⟩ := h
    exact ⟨row, target, duty, spinup, iff_of_true (braking.2 hs) rfl⟩
  · split
    · exact toStopped_right d
    · exact toBraking_right d
  · exact toBraking_right d

theorem machineReset_recordsKept (s : State) : RecordsKept s (machineReset s) := by
  have reset := lineReset_drive s
  simp only [drive, Prod.mk.injEq] at reset
  obtain ⟨drum, -, -⟩ := reset
  rw [machineReset_eq]
  refine ⟨fun _ h => ?_, fun _ => reset_right⟩
  unfold DrumRecord at h ⊢
  rw [drum]
  exact drum_machineReset_right h

theorem powerOnReset_recordsKept {coverOpen home loop paperOut busy : Bool}
    (h : execPowerOnReset coverOpen home loop paperOut busy s = .next t) : RecordsKept s t := by
  obtain rfl := Host.Outcome.next.inj h
  exact ⟨fun _ _ => by simp [DrumRecord, drumRight, drumRow, Drum.reset], fun _ => reset_right⟩

/-! ### Every command and every step -/

/-- Every command keeps the drum's and the position timer's records. -/
theorem exec_recordsKept {c : Instr} (h : exec c s = .next t) : RecordsKept s t := by
  cases c with
  | selectStart dt lk b =>
    exact timed_recordsKept (fun u => recordsKept_of_drive (beginSelect_drive lk b u)) h
  | selectRelease dt lk part =>
    exact timed_recordsKept (fun u => recordsKept_of_drive (endSelect_drive lk part u)) h
  | replyRead dt lk => exact timed_recordsKept (fun u => recordsKept_of_drive (readReply_drive lk u)) h
  | unknownRequest lk b => exact unknownRequest_recordsKept h
  | openJob lk b => exact request_kept (serveOpenJob_kept lk) (serveOpenJob_right lk) h
  | addLeg lk b => exact request_kept (serveAddLeg_kept lk) (serveAddLeg_right lk) h
  | commitJob lk b => exact request_kept (serveCommitJob_kept lk) (serveCommitJob_right lk) h
  | cancelJob lk b => exact request_kept (serveCancelJob_kept lk) (serveCancelJob_right lk) h
  | clearJob lk b => exact request_kept (serveClearJob_kept lk) (serveClearJob_right lk) h
  | setPriority lk b => exact request_kept serveSetPriority_kept serveSetPriority_right h
  | mount lk b => exact request_kept serveMount_kept serveMount_right h
  | unmount lk b => exact request_kept serveUnmount_kept serveUnmount_right h
  | skipLeg lk b => exact request_kept serveSkipLeg_kept serveSkipLeg_right h
  | readJob lk b => exact request_kept serveReadJob_kept serveReadJob_right h
  | readLeg lk b => exact request_kept serveReadLeg_kept serveReadLeg_right h
  | readQueue lk b => exact request_read (fun _ _ => rfl) h
  | writeRoute lk b => exact request_writes serveWriteRoute_writes (fun _ _ => rfl) h
  | eraseRoute lk b => exact request_writes serveEraseRoute_writes (fun _ _ => rfl) h
  | readRoute lk b => exact request_kept serveReadRoute_kept serveReadRoute_right h
  | talk lk b => exact request_kept serveTalk_kept serveTalk_right h
  | endTalk lk b => exact request_kept serveEndTalk_kept serveEndTalk_right h
  | readLine lk b => exact request_read (fun _ _ => rfl) h
  | drumRun lk b => exact request_kept serveDrumRun_kept serveDrumRun_right h
  | drumStop lk b => exact request_kept serveDrumStop_kept serveDrumStop_right h
  | readDrum lk b => exact request_read (fun _ _ => rfl) h
  | holdQueue lk b =>
    exact request_kept (fun _ u => holdQueue_kept .operator (Kept.refl u)) (fun _ _ h => h) h
  | releaseQueue lk b =>
    exact request_kept (fun _ u => releaseHold_kept (Kept.refl u)) (fun _ _ h => releaseHold_right h) h
  | setModes lk b => exact request_recordsKept serveSetModes_recordsKept h
  | collectSlip lk b => exact request_kept serveCollectSlip_kept serveCollectSlip_right h
  | reprintSlip lk b => exact request_kept serveReprintSlip_kept serveReprintSlip_right h
  | setCollection lk b => exact request_kept serveSetCollection_kept serveSetCollection_right h
  | readSlipState lk b => exact request_read (fun _ _ => rfl) h
  | writeSetting lk b => exact request_recordsKept serveWriteSetting_recordsKept h
  | readSetting lk b => exact request_kept serveReadSetting_kept serveReadSetting_right h
  | writeCurve lk b => exact request_writes serveWriteCurve_writes (fun _ _ => rfl) h
  | readCurve lk b => exact request_read (fun _ _ => rfl) h
  | setClock lk b => exact request_recordsKept serveSetClock_recordsKept h
  | readClock lk b => exact request_read (fun _ _ => rfl) h
  | readAttn lk b => exact request_recordsKept (fun _ u => readAttention_recordsKept lk u) h
  | setAttn lk b =>
    exact request_recordsKept (fun args u => recordsKept_of_drive (serveSetAttn_drive lk args u)) h
  | identify lk b => exact request_read (fun _ _ => rfl) h
  | machineReset lk b => exact request_recordsKept (fun _ u => machineReset_recordsKept u) h
  | powerOnReset v w x y z => exact powerOnReset_recordsKept h
  | index dt sample drumFirst =>
    exact timed_kept (fun u => takeIndex_kept sample drumFirst (Kept.refl u)) (fun u h => by simp [h])
      (show execIndex dt sample drumFirst s = .next t from h)
  | encoderPulse dt sample =>
    exact timed_kept (fun u => takePulse_kept sample (Kept.refl u)) (fun u h => by simp [h])
      (show execEncoderPulse dt sample s = .next t from h)
  | positionStart dt sample =>
    refine timed_kept (fun u => by (repeat' split) <;> simp) (fun u hu => ?_)
      (show execPositionStart dt sample s = .next t from h)
    split
    next k hk =>
      split
      next hd => exact beginPosition_due_right sample hu hk hd
      · exact hu
    · exact hu
  | spanEnd dt =>
    exact timed_kept (fun u => by split <;> simp) (fun u h => by split <;> simp [h])
      (show execSpanEnd dt s = .next t from h)
  | indexTimeout dt =>
    refine timed_kept (fun u => ?_) (fun u h => by split <;> simp [h])
      (show execIndexTimeout dt s = .next t from h)
    split
    next hd => exact drumLost_kept (Kept.refl u) (tracking_running _ hd.1)
    next => exact Kept.refl u
  | spinupLimitExpiry dt =>
    exact timed_kept (fun u => by split <;> simp) (fun u h => by split <;> simp [h])
      (show execSpinupLimitExpiry dt s = .next t from h)
  | brakingStillness dt =>
    exact timed_kept (fun u => by split <;> simp) (fun u h => by split <;> simp [h])
      (show execBrakingStillness dt s = .next t from h)
  | idleStop dt =>
    exact timed_kept (fun u => by split <;> simp) (fun u h => by split <;> simp [h])
      (show execIdleStop dt s = .next t from h)
  | coverOpen dt =>
    exact timed_kept (fun u => by split <;> simp) (fun u h => by split <;> simp [h])
      (show execCoverOpen dt s = .next t from h)
  | coverClose dt =>
    exact timed_recordsKept (fun u => coverClose_recordsKept u) (show execCoverClose dt s = .next t from h)
  | headStep dt home =>
    exact timed_kept (fun u => by (repeat' split) <;> simp) (fun u h => by (repeat' split) <;> simp [h])
      (show execHeadStep dt home s = .next t from h)
  | homingFailure dt =>
    exact timed_kept (fun u => by split <;> simp) (fun u h => by split <;> simp [h])
      (show execHomingFailure dt s = .next t from h)
  | scanStepEnd dt home =>
    exact timed_kept (fun u => by split <;> simp) (fun u h => by split <;> simp [h])
      (show execScanStepEnd dt home s = .next t from h)
  | phaseUpdate dt =>
    exact timed_kept (fun u => by split <;> simp) (fun u h => by split <;> simp [h])
      (show execPhaseUpdate dt s = .next t from h)
  | markStepEnd dt =>
    exact timed_kept (fun u => by (repeat' split) <;> simp) (fun u h => by (repeat' split) <;> simp [h])
      (show execMarkStepEnd dt s = .next t from h)
  | toneOnEnd dt =>
    exact timed_kept (fun u => by split <;> simp) (fun u h => by split <;> simp [h])
      (show execToneOnEnd dt s = .next t from h)
  | toneOffEnd dt =>
    exact timed_kept (fun u => by split <;> simp) (fun u h => by split <;> simp [h])
      (show execToneOffEnd dt s = .next t from h)
  | breakEnd dt =>
    exact timed_kept (fun u => by split <;> simp) (fun u h => by split <;> simp [h])
      (show execBreakEnd dt s = .next t from h)
  | makeEnd dt =>
    exact timed_kept (fun u => by (repeat' split) <;> simp) (fun u h => by (repeat' split) <;> simp [h])
      (show execMakeEnd dt s = .next t from h)
  | interdigitEnd dt =>
    exact timed_kept (fun u => by split <;> simp) (fun u h => by split <;> simp [h])
      (show execInterdigitEnd dt s = .next t from h)
  | pauseEnd dt =>
    exact timed_kept (fun u => by split <;> simp) (fun u h => by split <;> simp [h])
      (show execPauseEnd dt s = .next t from h)
  | flashEnd dt =>
    exact timed_kept (fun u => by split <;> simp) (fun u h => by split <;> simp [h])
      (show execFlashEnd dt s = .next t from h)
  | seizeWindowEnd dt loop =>
    exact timed_kept (fun u => by split <;> simp) (fun u h => by split <;> simp [h])
      (show execSeizeWindowEnd dt loop s = .next t from h)
  | readyEvent dt freq held =>
    exact timed_kept (fun u => by split <;> simp) (fun u h => by split <;> simp [h])
      (show execReadyEvent dt freq held s = .next t from h)
  | answerTimeoutExpiry dt =>
    exact timed_kept (fun u => by split <;> simp) (fun u h => by split <;> simp [h])
      (show execAnswerTimeoutExpiry dt s = .next t from h)
  | prepareLimitExpiry dt =>
    exact timed_kept (fun u => by split <;> simp) (fun u h => by split <;> simp [h])
      (show execPrepareLimitExpiry dt s = .next t from h)
  | bridgeLimitExpiry dt =>
    exact timed_kept (fun u => by split <;> simp) (fun u h => by split <;> simp [h])
      (show execBridgeLimitExpiry dt s = .next t from h)
  | stopTimeExpiry dt =>
    exact timed_kept (fun u => by split <;> simp) (fun u h => by split <;> simp [h])
      (show execStopTimeExpiry dt s = .next t from h)
  | symbolDetected dt rowHz colHz held gap =>
    exact timed_kept (fun u => by (repeat' split) <;> simp)
      (fun u h => by (repeat' split) <;> first | exact takeSymbol_right _ h | exact h)
      (show execSymbolDetected dt rowHz colHz held gap s = .next t from h)
  | answerbackWindowExpiry dt =>
    exact timed_kept (fun u => by split <;> simp) (fun u h => by split <;> simp [h])
      (show execAnswerbackWindowExpiry dt s = .next t from h)
  | answerbackDeadline dt =>
    exact timed_kept (fun u => by split <;> simp) (fun u h => by split <;> simp [h])
      (show execAnswerbackDeadline dt s = .next t from h)
  | loopLost dt =>
    exact timed_kept (fun u => by split <;> simp) (fun u h => by split <;> simp [h])
      (show execLoopLost dt s = .next t from h)
  | guardTimeExpiry dt =>
    exact timed_kept (fun u => by split <;> simp) (fun u h => by split <;> simp [h])
      (show execGuardTimeExpiry dt s = .next t from h)
  | clockSecond dt =>
    refine timed_recordsKept (fun u => ?_) (show execClockSecond dt s = .next t from h)
    split
    · exact compareRetries_recordsKept (clockTick_drive u).symm
    · exact .refl u
  | printCharacter dt paperOut busy =>
    exact timed_kept (fun u => by (repeat' split) <;> simp) (fun u h => by (repeat' split) <;> simp [h])
      (show execPrintCharacter dt paperOut busy s = .next t from h)
  | paperOutClears dt =>
    exact timed_kept (fun u => by split <;> simp) (fun u h => by split <;> simp [h])
      (show execPaperOutClears dt s = .next t from h)
  | busyTimeout dt =>
    refine timed_kept (fun u => ?_) (fun u h => by split <;> simp [h])
      (show execBusyTimeout dt s = .next t from h)
    split
    · exact causePrinter_kept (setSlips_kept _ (setPins_kept _ (Kept.refl u)))
    · exact Kept.refl u
  | busyLowInFault dt =>
    exact timed_kept (fun u => by split <;> simp) (fun u h => by split <;> simp [h])
      (show execBusyLowInFault dt s = .next t from h)
  | lampFrame dt paperOut =>
    exact timed_recordsKept (fun u => recordsKept_of_drive (by split <;> rfl))
      (show execLampFrame dt paperOut s = .next t from h)
  | byteClock dt lk b => exact timed_recordsKept (fun u => recordsKept_of_drive (clockByte_drive lk b u)) h
  | loopSenseChange dt present =>
    exact timed_kept (fun u => changeSense_kept present (Kept.refl u)) (fun u h => by simp [h])
      (show execLoopSenseChange dt present s = .next t from h)

/-- A step runs the front command, or lets one µs pass; either keeps both records. -/
theorem step_recordsKept (h : step s = .next t) : RecordsKept s t := by
  unfold step at h
  split at h
  · exact timed_recordsKept (dt := 16) (f := id) RecordsKept.refl h
  next c rest _ => exact (exec_recordsKept h).congr rfl rfl

end

/-- Settles O10, by `step_recordsKept`. -/
theorem stepsKeepDrumAndTimerRecords : Obligations.StepsKeepDrumAndTimerRecords := fun _ _ h =>
  ⟨(step_recordsKept h).drum, (step_recordsKept h).timer⟩

end Sys2Proof.DrumDrive

/-! The levels, the tones and the corrected duty between their ends (R49, R95, R96, R110). -/

namespace Sys2Proof.DrumDrive
open Machine Laws

/-! ### Levels (R95, R96) -/

/-- A rounded part of a difference, f of 64, is at most the difference. -/
theorem part64_le {f : Nat} (x : Nat) (h : f ≤ 64) : (x * f + 32) / 64 ≤ x := by
  have : x * f ≤ x * 64 := Nat.mul_le_mul_left x h
  omega

variable {curve : Vector Nat 17} {d w r q : Nat}

/-- The points of a rising curve rise with their index. -/
theorem curve_getD_mono (h : curve.toList.Pairwise (· ≤ ·)) {i j : Nat} (hij : i ≤ j) (hj : j ≤ 16) :
    curve.toList.getD i 0 ≤ curve.toList.getD j 0 := by
  have len : curve.toList.length = 17 := by simp
  rw [List.getD_eq_getElem _ _ (by omega), List.getD_eq_getElem _ _ (by omega)]
  rcases Nat.eq_or_lt_of_le hij with rfl | hlt
  · exact le_rfl
  · exact List.pairwise_iff_getElem.1 h i j (by omega) (by omega) hlt

theorem curve_getD (i : Nat) (h : i < 17) : curve.toList.getD i 0 = curve[i] := by
  rw [List.getD_eq_getElem _ _ (by simpa using h)]
  simp

/-- The part of a normalised value past its point: at most 64, the last point's included. -/
theorem curve_part_le (h : q ≤ 1024) : q - 64 * min 15 (q / 64) ≤ 64 := by omega

theorem curveLevel_eq (curve : Vector Nat 17) (q : Nat) :
    curveLevel curve q = curve.toList.getD (min 15 (q / 64)) 0 +
      ((curve.toList.getD (min 15 (q / 64) + 1) 0 - curve.toList.getD (min 15 (q / 64)) 0) *
        (q - 64 * min 15 (q / 64)) + 32) / 64 := rfl

theorem le_curveLevel (curve : Vector Nat 17) (q : Nat) :
    curve.toList.getD (min 15 (q / 64)) 0 ≤ curveLevel curve q := Nat.le_add_right _ _

theorem curveLevel_le (h : curve.toList.Pairwise (· ≤ ·)) (hq : q ≤ 1024) :
    curveLevel curve q ≤ curve.toList.getD (min 15 (q / 64) + 1) 0 := by
  have rises := curve_getD_mono h (Nat.le_add_right (min 15 (q / 64)) 1) (by omega)
  have part := part64_le (curve.toList.getD (min 15 (q / 64) + 1) 0 - curve.toList.getD (min 15 (q / 64)) 0)
    (curve_part_le hq)
  rw [curveLevel_eq]
  omega

/-- Within one piece of the curve the part rises; from piece to piece the points do (R96). -/
theorem curveLevel_mono (h : curve.toList.Pairwise (· ≤ ·)) {p : Nat} (hpq : p ≤ q) (hq : q ≤ 1024) :
    curveLevel curve p ≤ curveLevel curve q := by
  have pieces : min 15 (p / 64) ≤ min 15 (q / 64) := by omega
  rcases Nat.eq_or_lt_of_le pieces with same | next
  · rw [curveLevel_eq, curveLevel_eq, same]
    gcongr
  · calc curveLevel curve p
        ≤ curve.toList.getD (min 15 (p / 64) + 1) 0 := curveLevel_le h (by omega)
      _ ≤ curve.toList.getD (min 15 (q / 64)) 0 := curve_getD_mono h next (by omega)
      _ ≤ curveLevel curve q := le_curveLevel curve q

theorem curveLevel_zero (curve : Vector Nat 17) : curveLevel curve 0 = curve[0] := by
  rw [← curve_getD 0 (by omega), curveLevel_eq]
  simp

theorem curveLevel_full (h : curve.toList.Pairwise (· ≤ ·)) : curveLevel curve 1024 = curve[16] := by
  have rises := curve_getD_mono h (show 15 ≤ 16 by omega) le_rfl
  rw [← curve_getD 16 (by omega), curveLevel_eq]
  simp only [Nat.reduceDiv, Nat.reduceMul, Nat.reduceSub, Nat.reduceAdd, Nat.reduceLeDiff, inf_of_le_left]
  omega

theorem normalised_mono (d w : Nat) (h : r ≤ q) : normalised d w r ≤ normalised d w q := by
  unfold normalised
  gcongr

theorem normalised_of_dark (w : Nat) (h : r ≤ d) : normalised d w r = 0 := by
  simp [normalised, Nat.sub_eq_zero_of_le h]

theorem normalised_of_white (hd : d < w) (h : w ≤ q) : normalised d w q = 1024 := by
  rw [normalised, min_eq_right (by omega), Nat.mul_div_cancel_left _ (by omega)]

/-! ### Tones (R110) -/

/-- With BLACK_HZ at or below WHITE_HZ the tone's arithmetic is that of the natural numbers. -/
theorem levelFreq_eq {black white : Nat} (h : black ≤ white) (l : Nat) :
    levelFreq black white l = black + ((white - black) * l + 127) / 255 := by
  have cast : (black : Int) + (((white : Int) - black) * l + 127) / 255 =
      ((black + ((white - black) * l + 127) / 255 : Nat) : Int) := by
    push_cast [h]
    rfl
  rw [levelFreq, cast, Int.toNat_natCast]

theorem part255_le {l : Nat} (x : Nat) (h : l ≤ 255) : (x * l + 127) / 255 ≤ x := by
  have : x * l ≤ x * 255 := Nat.mul_le_mul_left x h
  omega

/-! ### The duty (R49) -/

/-- A corrected duty that the clamp leaves alone. -/
theorem correctedDuty_eq {u gain : Nat} {e : Int} (h0 : 0 ≤ (u : Int) + e * gain / 4096)
    (h1 : (u : Int) + e * gain / 4096 ≤ 1023) : (correctedDuty u e gain : Int) = u + e * gain / 4096 := by
  rw [correctedDuty, min_eq_right h1, max_eq_right h0, Int.toNat_of_nonneg h0]

/-- Settles O54: the levels by `curveLevel_mono` and its ends, the tones by `levelFreq_eq`. -/
theorem levelsTonesAndDutyLieBetweenTheirEnds : Obligations.LevelsTonesAndDutyLieBetweenTheirEnds := by
  refine ⟨fun curve d w r q hc hw hrq => ?_, fun black white l m hb hl hm => ?_, fun f hf => ?_,
    fun u e gain => ⟨correctedDuty_le u e gain, correctedDuty_eq⟩⟩
  · have full := normalised_le d w
    have dark : levelOf curve d w 0 = curve[0] := by
      rw [levelOf, normalised_of_dark w (Nat.zero_le d), curveLevel_zero]
    have white : curveLevel curve 1024 = curve[16] := curveLevel_full hc
    refine ⟨?_, curveLevel_mono hc (normalised_mono d w hrq) (full q), ?_, fun hr => ?_, fun hq => ?_, ?_⟩
    · exact dark ▸ curveLevel_mono hc (normalised_mono d w (Nat.zero_le r)) (full r)
    · exact white ▸ curveLevel_mono hc (full q) le_rfl
    · rw [levelOf, normalised_of_dark w hr, curveLevel_zero]
    · rw [levelOf, normalised_of_white hw hq, white]
    · rintro x i f rfl rfl rfl
      exact ⟨curve_part_le (full r), curveLevel_eq curve _⟩
  · simp only [levelFreq_eq hb]
    have rises : (white - black) * l ≤ (white - black) * m := Nat.mul_le_mul_left _ hl
    have top := part255_le (white - black) hm
    refine ⟨Nat.le_add_right _ _, ?_, ?_, ?_, ?_, trivial⟩ <;> omega
  · refine ⟨rfl, ?_⟩
    unfold phaseStep
    omega

end Sys2Proof.DrumDrive

/-! The passing of time, and the state after power-on reset (R26, R43, R127, R194). -/

namespace Sys2Proof.DrumDrive
open Machine Laws PictureJobs

/-! ### The passing of time (R43, R121, R127, R194) -/

theorem step_of_idle {s : State} (h : s.pending = []) : step s = .next (elapse 16 s) := by
  unfold step
  rw [h]
  rfl

theorem elapse_frame (dt : Nat) (s : State) : elapse dt s = { s with
    drum := (elapse dt s).drum, line := (elapse dt s).line, dialer := (elapse dt s).dialer
    markGen := (elapse dt s).markGen, clock := (elapse dt s).clock, aux := (elapse dt s).aux } := by
  simp only [elapse, State.setDrum, State.setLine, State.setDialer, State.setMarkGen, State.setClock,
    State.setAux]

theorem elapse_drum (dt : Nat) (s : State) :
    (elapse dt s).drum = s.drum.elapse ((s.aux.sub16 + dt) / 16) s.aux.idleSub := by simp [elapse]

theorem elapse_line (dt : Nat) (s : State) :
    (elapse dt s).line = s.line.elapse ((s.aux.sub16 + dt) / 16) s.pins.loop := by simp [elapse]

theorem elapse_dialer (dt : Nat) (s : State) :
    (elapse dt s).dialer = s.dialer.elapse ((s.aux.sub16 + dt) / 16) := by simp [elapse]

theorem elapse_markGen (dt : Nat) (s : State) :
    (elapse dt s).markGen = s.markGen.elapse ((s.aux.sub16 + dt) / 16) := by simp [elapse]

theorem elapse_clock (dt : Nat) (s : State) :
    (elapse dt s).clock = { s.clock with cycles := crystalCount dt s.aux s.clock % 32768 } := by
  simp [elapse, crystalRate]

theorem elapse_aux (dt : Nat) (s : State) : (elapse dt s).aux =
    s.aux.elapse dt ((s.aux.sub16 + dt) / 16) s.drum.idleTime.isSome
      (decide (4194303 < s.drum.indexTime + (s.aux.sub16 + dt) / 16)) s.clock := by
  simp only [elapse, State.setAux_aux]
  rfl

/-- Settles O2, a record at a time. -/
theorem passingTimeRunsTheTimersAlone : Obligations.PassingTimeRunsTheTimersAlone := by
  refine ⟨fun s h => step_of_idle h, fun dt s => ?_⟩
  refine ⟨elapse_frame dt s, elapse_drum dt s, elapse_line dt s, elapse_dialer dt s, elapse_markGen dt s,
    elapse_clock dt s, ?_⟩
  have idle (n : Nat) : (if s.drum.idleTime.isSome then n else 0) =
      if s.drum.idleTime = none then 0 else n := by cases s.drum.idleTime <;> rfl
  rw [elapse_aux, Aux.elapse, idle]
  rfl

/-! ### The state after power-on reset -/

theorem reset_job (j : Nat) : State.reset.job? j = none := by
  change ((Vector.replicate 16 (none : Option Job))[j]?).join = none
  rw [Vector.getElem?_replicate]
  split <;> rfl

theorem reset_leg (j l : Nat) : State.reset.leg? j l = none := by rw [State.leg?, reset_job]; rfl

theorem reset_mountQueue : MountQueueRight State.reset :=
  ⟨.nil, fun j => iff_of_false List.not_mem_nil (by simp [reset_job]), .nil⟩

theorem reset_oneMounted : OneMountedOneActive State.reset := by
  simp [OneMountedOneActive, legIsActive, reset_job, reset_leg]

/-- Settles O16: the records by computation; the invariants of the job table by its being empty. -/
theorem resetHasEveryInvariant : Obligations.ResetHasEveryInvariant := by
  have settings : SettingsRight State.reset := by
    simp [SettingsRight, rangesRight, spacingRight, within, State.reset, Settings.default]
  have curve : CurveRises State.reset := by unfold CurveRises; decide
  have links : LinkRecords State.reset := by
    simp [LinkRecords, linkRight, State.reset, LinkRec.reset]
  have slips : SlipQueueRight State.reset := by
    simp [SlipQueueRight, within, State.reset, SlipUnit.reset]
  have drum : DrumRecord State.reset := by
    simp [DrumRecord, drumRight, drumRow, State.reset, Drum.reset]
  refine ⟨rfl, ⟨rfl, rfl⟩, ⟨rfl, rfl, rfl⟩, ?_, drum, settings, curve, ?_, reset_mountQueue,
    reset_oneMounted, slips, links, reset_right⟩
  · unfold StartDuties dutiesRight
    decide
  · unfold ClockRange
    decide

end Sys2Proof.DrumDrive

/-! DRUM_RUN and DRUM_STOP (R53, R55 to R58). -/

namespace Sys2Proof.DrumDrive
open Machine Laws PictureJobs

variable {s t : State} {lk : Link} {b v : Byte} {r : Rpm}

/-! ### An ACTIVE leg (R57) -/

theorem legActive_iff (s : State) : s.legActive = true ↔ ∃ j l, legIsActive s j l := by
  have entry (j : Nat) : ((s.job? j).any Job.hasActive = true) ↔ ∃ l, legIsActive s j l := by
    cases hx : s.job? j with
    | none => simp [legIsActive, State.leg?, hx]
    | some x =>
      simp only [Option.any_some, hasActive_eq_true_iff, legIsActive, State.leg?, hx, Option.bind_some]
      constructor
      · rintro ⟨g, hg, ha⟩
        obtain ⟨l, hl⟩ := List.getElem?_of_mem hg
        exact ⟨l, g, hl, ha⟩
      · rintro ⟨l, g, hl, ha⟩
        exact ⟨g, List.mem_of_getElem? hl, ha⟩
  simp only [State.legActive, jobNumbers, List.any_eq_true, List.mem_range, entry]
  refine ⟨fun ⟨j, _, h⟩ => ⟨j, h⟩, fun ⟨j, l, h⟩ => ⟨j, ?_, l, h⟩⟩
  obtain ⟨g, hg, -⟩ := h
  obtain ⟨x, hx, -⟩ := Option.bind_eq_some_iff.1 hg
  exact job_lt hx

/-! ### A demand of either kind (R53, R56, R57) -/

/-- The drum under a demand of this kind and speed. -/
def demandedBy (k : Demand) (r : Rpm) (d : Drum) : Drum :=
  { d with demand := some k, idleTime := none, target := some r }

theorem demand_of_rests (k : Demand) (r : Rpm) (h : t.drum.state = .stopped ∨ t.drum.state = .braking) :
    demandDrum k r t = { t with drum := drumSpinsUp (demandedBy k r t.drum) } := by
  unfold demandDrum
  rw [if_pos h]
  rfl

/-- The new target on a drum that runs already: nothing but the demand changes in SPINUP and at the speed it
has; another speed brings it to LOCKING. -/
theorem retarget_eq (k : Demand) (r : Rpm) {d : Drum} (h : d.state = .spinup ∨ d.state.tracking = true) :
    retarget r { d with demand := some k, idleTime := none } =
      if d.state = .spinup ∨ d.target = some r then demandedBy k r d
      else { demandedBy k r d with state := .locking, lockCount := 0, spinupTime := none } := by
  unfold retarget demandedBy
  dsimp only
  by_cases hs : d.state = .spinup
  · rw [if_pos hs, if_pos (.inl hs)]
  · rw [if_neg hs]
    by_cases hr : d.target = some r
    · rw [if_neg (by simp [hr]), if_pos (.inr hr), ← hr]
    · rw [if_pos (by simp [hr, h.resolve_left hs]), if_neg (by simp [hs, hr])]
      rfl

/-- A running drum is given the demand; one that tracks another speed loses its lock when the time since
the index is past the new timeout (R53). -/
theorem demand_of_runs (k : Demand) (r : Rpm) (h : t.drum.state = .spinup ∨ t.drum.state.tracking = true) :
    demandDrum k r t =
      if t.drum.state = .spinup ∨ t.drum.target = some r then { t with drum := demandedBy k r t.drum }
      else
        let u := { t with drum := { demandedBy k r t.drum with
          state := .locking, lockCount := 0, spinupTime := none } }
        if t.drum.indexTime ≤ 2 * pNom r then u else lostLock u := by
  have runs : ¬ (t.drum.state = .stopped ∨ t.drum.state = .braking) := by
    rintro (hs | hs) <;> simp [hs, DrumState.tracking] at h
  unfold demandDrum
  rw [if_neg runs]
  dsimp only
  rw [retarget_eq k r h]
  by_cases hk : t.drum.state = .spinup ∨ t.drum.target = some r
  · rw [if_pos hk, if_pos hk, if_neg]
    · rfl
    · rintro ⟨hr, hp⟩
      have hs : t.drum.state = .spinup := hk.resolve_right hr
      simp [timeoutPassed, demandedBy, State.setDrum, hs, DrumState.tracking] at hp
  · rw [if_neg hk, if_neg hk]
    have other : t.drum.target ≠ some r := fun hr => hk (.inr hr)
    have passed : timeoutPassed
        { demandedBy k r t.drum with state := .locking, lockCount := 0, spinupTime := none } =
        decide (2 * pNom r < t.drum.indexTime) := rfl
    by_cases hi : t.drum.indexTime ≤ 2 * pNom r
    · rw [if_pos hi, if_neg (by rw [State.setDrum_drum, passed]; simp [hi])]
      rfl
    · rw [if_neg hi, if_pos ⟨other, by rw [State.setDrum_drum, passed]; simpa using hi⟩,
        PictureJobs.drumLost_eq]
      rfl

/-! ### DRUM_RUN (R57) -/

theorem ofNat_eq_none_iff (n : Nat) : Rpm.ofNat? n = none ↔ n ∉ [60, 90, 120] := by
  unfold Rpm.ofNat?
  split <;> simp_all

theorem ofNat_of_mem {n : Nat} (h : (n, r) ∈ [(60, Rpm.rpm60), (90, .rpm90), (120, .rpm120)]) :
    Rpm.ofNat? n = some r := by
  simp only [List.mem_cons, Prod.mk.injEq, List.not_mem_nil, or_false] at h
  rcases h with ⟨rfl, rfl⟩ | ⟨rfl, rfl⟩ | ⟨rfl, rfl⟩ <;> rfl

theorem exec_drumRun (h : Taken codeDrumRun lk b [v] s) :
    exec (.drumRun lk b) s = answered lk (serveDrumRun [v] (takeRequest lk s)) :=
  request_of_taken serveDrumRun h

/-- The checks of R57 in their order, once the byte names a speed. -/
theorem serveDrumRun_eq (h : Rpm.ofNat? v.toNat = some r) (t : State) : serveDrumRun [v] t =
    if t.legActive then refuse .drumBusy t
    else if t.drum.state = .fault then refuse .wrongState t
    else if t.drum.coverOpen then refuse .notStopped t
    else accept (demandDrum .manual r t) := by
  simp only [serveDrumRun, h]

theorem exec_drumRun_demand (h : Taken codeDrumRun lk b [v] s) (hv : Rpm.ofNat? v.toNat = some r)
    (ha : s.legActive = false) (hf : s.drum.state ≠ .fault) (hc : s.drum.coverOpen = false) :
    exec (.drumRun lk b) s = answered lk (accept (demandDrum .manual r (takeRequest lk s))) := by
  rw [exec_drumRun h, serveDrumRun_eq hv]
  simp [ha, hf, hc]

/-! ### DRUM_STOP (R58) -/

theorem stopDrum_eq (t : State) : stopDrum t =
    if t.drum.state = .stopped ∨ t.drum.state = .braking then t
    else if t.drum.state = .fault ∧ 2000000 ≤ t.drum.indexTime then
      { t with drum := drumRests .stopped none t.drum }.causeDrum
    else { t with drum := drumRests .braking none t.drum } := by
  have still : t.drum.still = true ↔ 2000000 ≤ t.drum.indexTime := decide_eq_true_iff
  unfold stopDrum
  cases hs : t.drum.state with
  | fault =>
    simp only [still, reduceCtorEq, or_self, if_false, true_and]
    rfl
  | stopped => rfl
  | braking => rfl
  | _ => simp only [reduceCtorEq, or_self, if_false, false_and]; rfl

/-- Settles O46: a demand by `demand_of_rests` and `demand_of_runs`, a stop by `stopDrum_eq`. -/
theorem drumRunAndDrumStopByTheDrumState : Obligations.DrumRunAndDrumStopByTheDrumState := by
  refine ⟨legActive_iff, fun lk b v s h => ?_, fun lk b s h => ?_⟩
  · intro t refused ok
    refine ⟨fun hv => ?_, fun r hr => ?_⟩
    · rw [exec_drumRun h, serveDrumRun]
      simp only [(ofNat_eq_none_iff _).2 hv]
      rfl
    intro d tracks
    have hv := ofNat_of_mem hr
    refine ⟨fun ha => ?_, fun ha hf => ?_, fun ha hf hc => ?_, fun ha hc => ⟨fun hs => ?_, fun hs => ?_, ?_⟩⟩
    · rw [exec_drumRun h, serveDrumRun_eq hv, if_pos (by simpa using ha)]
      rfl
    · rw [exec_drumRun h, serveDrumRun_eq hv, if_neg (by simp [ha]), if_pos (by simpa using hf)]
      rfl
    · rw [exec_drumRun h, serveDrumRun_eq hv, if_neg (by simp [ha]), if_neg (by simpa using hf),
        if_pos (by simpa using hc)]
      rfl
    · rw [exec_drumRun_demand h hv ha (by rintro hf; simp [hf] at hs) hc,
        demand_of_rests _ _ (by simpa using hs), takeRequest_drum]
      rfl
    · have runs : s.drum.state = .spinup ∨ s.drum.state.tracking = true :=
        hs.imp id fun hs => (tracking_iff _).2 hs.1
      have same : s.drum.state = .spinup ∨ s.drum.target = some r := hs.imp id And.right
      rw [exec_drumRun_demand h hv ha (by rintro hf; simp [hf, DrumState.tracking] at runs) hc,
        demand_of_runs _ _ (by simpa using runs), takeRequest_drum, if_pos same]
      rfl
    · intro hs hr u
      have hs := (tracking_iff _).2 hs
      have other : ¬ (s.drum.state = .spinup ∨ s.drum.target = some r) :=
        not_or.2 ⟨ne_of_tracking hs rfl, hr⟩
      rw [exec_drumRun_demand h hv ha (ne_of_tracking hs rfl) hc,
        demand_of_runs _ _ (.inr (by simpa using hs)), takeRequest_drum, if_neg other]
      rfl
  · intro t ok braked
    have served : exec (.drumStop lk b) s = answered lk (serveDrumStop [] (takeRequest lk s)) :=
      request_of_taken serveDrumStop h
    rw [served, serveDrumStop, takeRequest_legActive]
    refine ⟨fun ha => ?_, fun ha => ?_⟩
    · rw [if_pos ha]
      rfl
    · rw [if_neg (by simp [ha]), stopDrum_eq, takeRequest_drum]
      rfl

end Sys2Proof.DrumDrive

/-! An index at the drum controller (R45 to R52, R60, R61, R63). -/

namespace Sys2Proof.DrumDrive
open Machine Laws PictureJobs

variable {s t : State} {r : Rpm} {p : Nat} {e : Int}

/-! ### The measured period (R45) -/

/-- A count is held, has not run over, and is above 0: the index measures a period. -/
def PeriodHeld (s : State) : Prop :=
  s.drum.indexHeld = true ∧ s.aux.indexOver = false ∧ 0 < s.drum.indexTime

theorem measuredPeriod_eq_some_iff : measuredPeriod s = some p ↔ PeriodHeld s ∧ p = s.drum.indexTime := by
  rw [measuredPeriod, Option.ite_none_right_eq_some, Option.some_inj, eq_comm (b := p)]
  simp only [PeriodHeld, Bool.and_eq_true, Bool.not_eq_true', decide_eq_true_eq, and_assoc]

theorem measuredPeriod_of_held (h : PeriodHeld s) : measuredPeriod s = some s.drum.indexTime :=
  measuredPeriod_eq_some_iff.2 ⟨h, rfl⟩

theorem measuredPeriod_of_not_held (h : ¬ PeriodHeld s) : measuredPeriod s = none :=
  Option.eq_none_iff_forall_ne_some.2 fun _ hp => h (measuredPeriod_eq_some_iff.1 hp).1

/-- The state with an index counted, and the period field as given. -/
def indexCounted (p : Option Nat) (s : State) : State := { s with
  drum := { s.drum with period := p, indexTime := 0, indexHeld := true }
  aux := { s.aux with indexOver := false } }

theorem countIndex_of_held (h : PeriodHeld s) : countIndex s = indexCounted (some s.drum.indexTime) s := by
  rw [countIndex, measuredPeriod_of_held h]
  rfl

theorem countIndex_of_not_held (h : ¬ PeriodHeld s) : countIndex s = indexCounted s.drum.period s := by
  rw [countIndex, measuredPeriod_of_not_held h]
  rfl

/-! ### The drum controller's step, by its state -/

theorem drumIndex_of_stopped (h : s.drum.state = .stopped) : drumIndex s = drumBraking (countIndex s) := by
  simp only [drumIndex, h]

theorem drumIndex_of_braking (h : s.drum.state = .braking) : drumIndex s =
    (countIndex s).setDrum { (countIndex s).drum with brakingTime := some 0 } := by
  simp only [drumIndex, h]

theorem drumIndex_of_fault (h : s.drum.state = .fault) : drumIndex s = countIndex s := by
  simp only [drumIndex, h]

/-- With no period measured the states that correct the drum count the index alone. -/
theorem drumIndex_of_unmeasured (h : measuredPeriod s = none) (hs : s.drum.state ∉ [.stopped, .braking]) :
    drumIndex s = countIndex s := by
  cases hd : s.drum.state with
  | stopped => simp [hd] at hs
  | braking => simp [hd] at hs
  | fault => exact drumIndex_of_fault hd
  | _ => simp only [drumIndex, hd, h]

theorem drumIndex_of_spinup (h : s.drum.state = .spinup) (hp : measuredPeriod s = some p)
    (hr : s.drum.target = some r) : drumIndex s = spinupIndex r p (countIndex s) := by
  simp only [drumIndex, h, hp, hr]

/-- The state with the index counted and the error of the revolution corrected (R49). -/
def indexCorrected (p : Nat) (r : Rpm) (s : State) : State :=
  (countIndex s).setDrum (corrected s.settings (periodError p r) (countIndex s).drum)

theorem drumIndex_of_locking (h : s.drum.state = .locking) (hp : measuredPeriod s = some p)
    (hr : s.drum.target = some r) :
    drumIndex s = lockingIndex r (periodError p r) (indexCorrected p r s) := by
  simp only [drumIndex, h, hp, hr]
  rfl

theorem drumIndex_of_locked (h : s.drum.state = .locked) (hp : measuredPeriod s = some p)
    (hr : s.drum.target = some r) :
    drumIndex s = lockedIndex r (periodError p r) (indexCorrected p r s) := by
  simp only [drumIndex, h, hp, hr]
  rfl

theorem drumIndex_of_slip (h : s.drum.state = .slip) (hp : measuredPeriod s = some p)
    (hr : s.drum.target = some r) :
    drumIndex s = slipIndex r (periodError p r) (indexCorrected p r s) := by
  simp only [drumIndex, h, hp, hr]
  rfl

/-! ### In and out of tolerance (R50, R52) -/

theorem lockingIndex_eq (r : Rpm) (e : Int) (t : State) : lockingIndex r e t =
    if tolerance t.settings.lockClass r < e.natAbs then t.setDrum { t.drum with lockCount := 0 }
    else if t.drum.lockCount = 7 then
      reportLocked r (t.setDrum { t.drum with lockCount := 8, state := .locked })
    else t.setDrum { t.drum with lockCount := t.drum.lockCount + 1 } := by
  unfold lockingIndex
  by_cases ht : e.natAbs ≤ tolerance t.settings.lockClass r
  · rw [if_pos ht, if_neg (Nat.not_lt.2 ht)]
    dsimp only
    by_cases h7 : t.drum.lockCount = 7
    · rw [if_pos (by simp [h7]), if_pos h7, h7]
      rfl
    · rw [if_neg (by simpa using h7), if_neg h7]
  · rw [if_neg ht, if_pos (Nat.lt_of_not_le ht)]

/-- A revolution in SLIP counted, good or bad, and noted at the line unit. -/
def slipCounted (good : Nat) (t : State) : State :=
  (lineSlipRev (t.setDrum { t.drum with slipRevs := t.drum.slipRevs + 1 })).setDrum
    { t.drum with slipRevs := t.drum.slipRevs + 1, goodCount := good }

theorem slipIndex_eq (r : Rpm) (e : Int) (t : State) :
    let good := if e.natAbs ≤ tolerance t.settings.lockClass r then t.drum.goodCount + 1 else 0
    slipIndex r e t =
      if good = 4 then reportLocked r ((slipCounted good t).setDrum
        { (slipCounted good t).drum with state := .locked })
      else if t.drum.slipRevs = 15 then lostLock (slipCounted good t)
      else slipCounted good t := by
  unfold slipIndex
  simp only [lineSlipRev_drum, State.setDrum_drum, Nat.reduceEqDiff, PictureJobs.drumLost_eq]
  rfl

/-- Settles O47: the index counted by `countIndex`, then a case per state; the two counts by `lockingIndex_eq`
and `slipIndex_eq`. -/
theorem anIndexMeasuresCorrectsAndTestsTheDrum : Obligations.AnIndexMeasuresCorrectsAndTestsTheDrum := by
  refine ⟨⟨rfl, rfl, rfl, rfl⟩, fun s => ?_⟩
  intro held counted set
  refine ⟨fun t ht hn => ?_, fun hn hs => ?_, fun r h hr => ?_⟩
  · obtain rfl : t = countIndex s := by
      by_cases h : held
      · rw [ht h, countIndex_of_held h]
        rfl
      · rw [hn h, countIndex_of_not_held h]
        rfl
    exact ⟨drumIndex_of_stopped, drumIndex_of_braking, drumIndex_of_fault⟩
  · rw [drumIndex_of_unmeasured (measuredPeriod_of_not_held hn) hs, countIndex_of_not_held hn]
    rfl
  have hp := measuredPeriod_of_held h
  have hc := countIndex_of_held h
  intro p t e tol duty d
  refine ⟨fun hs => ?_, fun hs => ?_, fun hs => ?_, fun hs => ?_⟩
  · rw [drumIndex_of_spinup hs hp hr, hc]
    cases r <;> rfl
  · rw [drumIndex_of_locking hs hp hr, indexCorrected, hc, lockingIndex_eq]
    rfl
  · rw [drumIndex_of_locked hs hp hr, indexCorrected, hc]
    rfl
  · intro good k u
    rw [drumIndex_of_slip hs hp hr, indexCorrected, hc, slipIndex_eq]
    rfl

end Sys2Proof.DrumDrive

/-! What the drum's reports do at the scanner and at the line unit (R64, R87, R91, R92, R133, R137 to R139). -/

namespace Sys2Proof.DrumDrive
open Machine Laws PictureJobs

variable {s : State} {r : Rpm}

/-! ### The states that a report asks for -/

theorem beforeMark_iff (st : LineState) :
    st.beforeMark = true ↔ st ∈ [.seize, .dial, .awaitReady, .prepareWait] := by
  cases st <;> simp [LineState.beforeMark]

theorem transmitting_iff (st : LineState) :
    st.transmitting = true ↔ st ∈ [.mark, .phasing, .picture, .bridge] := by
  cases st <;> simp [LineState.transmitting]

theorem not_beforeMark_of_transmitting {st : LineState} (h : st.transmitting = true) :
    ¬ st.beforeMark = true := by
  cases st <;> simp_all [LineState.transmitting, LineState.beforeMark]

/-- The states of preparation that a LOST report returns to its start (R92). -/
def Preparing (s : State) : Prop :=
  s.scan.state ∈ [.dark, .warm, .whiteRef] ∨ (s.scan.state = .prepared ∧ s.scan.inTransmission = false)

/-! ### LOCKED and LOST at the scanner (R87, R91, R92) -/

theorem scanDrumLocked_of (hj : s.scan.jobSpeed = some r) (hs : s.drum.state = .locked)
    (ht : s.drum.target = some r) : scanDrumLocked s = true := by
  simp [scanDrumLocked, hj, Drum.lockedAt, hs, ht]

theorem scanWaitTest_of_headReady (h : s.scan.state = .waitDrum) (hh : s.scan.headReady = true)
    (hd : scanDrumLocked s = true) : scanWaitTest s =
      s.setScan { s.scan with state := .dark, lamp := false, measuring := .waiting } :=
  if_pos ⟨h, hh, hd⟩

theorem scanLocked_of_waitDrum (r : Rpm) (h : s.scan.state = .waitDrum) : scanLocked r s = scanWaitTest s :=
  if_pos h

theorem scanLocked_of_held (h : s.scan.state = .prepared) (hr : s.scan.report = .held)
    (hj : s.scan.jobSpeed = some r) : scanLocked r s = sendPrepared s := by
  rw [scanLocked, if_neg (by simp [h]), if_pos ⟨h, hr, hj⟩]

/-- A scanner that neither waits with its head ready nor holds a report takes no notice. -/
theorem scanLocked_of_neither (r : Rpm) (h : s.scan.state = .waitDrum → s.scan.headReady = false)
    (hp : s.scan.state = .prepared → s.scan.report ≠ .held) : scanLocked r s = s := by
  by_cases hw : s.scan.state = .waitDrum
  · rw [scanLocked_of_waitDrum r hw, scanWaitTest, if_neg (by simp [h hw])]
  · rw [scanLocked, if_neg hw, if_neg fun ⟨hs, hr, _⟩ => hp hs hr]

theorem scanLost_of_preparing (h : Preparing s) : scanLost s = { s with
    scan := { s.scan with
      state := .waitDrum, lamp := false, measuring := .none, tracking := .none, warmRevs := 0
      report := .none }
    line := if s.scan.report = .sent then { s.line with prepared := false } else s.line } := by
  unfold scanLost
  rw [if_pos (by simpa [Preparing, or_assoc] using h)]
  split <;> rfl

theorem scanLost_of_not_preparing (h : ¬ Preparing s) : scanLost s = s :=
  if_neg (by simpa [Preparing, or_assoc] using h)

/-! ### FAULT and LAMP at the line unit (R133, R139) -/

theorem lineFault_of_beforeMark (hk : s.line.kind = some .leg) (h : s.line.state.beforeMark = true) :
    lineFault s = callEnd (.reason .drum true) false s := by
  rw [lineFault, if_pos hk, if_pos h]

theorem lineFault_of_transmitting (hk : s.line.kind = some .leg) (h : s.line.state.transmitting = true)
    (hc : s.line.closing = none) : lineFault s = beginClosing .drumFault s := by
  rw [lineFault, if_pos hk, if_neg (not_beforeMark_of_transmitting h), if_pos ⟨h, hc⟩]

theorem lineFault_of_neither (h : s.line.kind = some .leg → ¬ s.line.state.beforeMark = true ∧
    ¬ (s.line.state.transmitting = true ∧ s.line.closing = none)) : lineFault s = s := by
  unfold lineFault
  by_cases hk : s.line.kind = some .leg
  · rw [if_pos hk, if_neg (h hk).1, if_neg (h hk).2]
  · rw [if_neg hk]

/-! ### LOST at the line unit (R138) -/

theorem bridgeEntry_eq (s : State) : bridgeEntry s =
    (lineBecomes .bridge (noteEvent .bridge (bridgeMode (scanHalt s)))).startLimit .bridgeLimit
      (1000000 * s.settings.bridgeLimit) := by
  rw [bridgeEntry, enterLine_eq, sec_eq]

/-- Settles O48: a lemma per report and state; before MARK, and in the transmission, by `beforeMark_iff` and
`transmitting_iff`. -/
theorem drumReportsMeetTheScannerAndTheLine : Obligations.DrumReportsMeetTheScannerAndTheLine := by
  intro s r
  refine ⟨rfl, rfl, rfl, PictureJobs.drumLost_eq s, fun _ => rfl, fun hw hh hj hs ht => ?_, fun hs hr hj => ?_,
    fun h => ?_, scanLost_of_preparing, fun h => ?_, fun hs hc hj => ?_, fun h => ?_, fun hs hc => ?_,
    fun h => ?_, fun hk h => ?_, fun hk h hc => ?_, fun h => ?_, fun hs hc => if_pos ⟨hs, hc⟩, fun h => ?_,
    fun hk h => ?_, fun h => ?_⟩
  · rw [scanLocked_of_waitDrum r hw, scanWaitTest_of_headReady hw hh (scanDrumLocked_of hj hs ht)]
    rfl
  · exact scanLocked_of_held hs hr hj
  · refine scanLocked_of_neither r (fun hw => ?_) fun hp => ?_
    · simpa [hw] using h
    · simpa [hp] using h
  · refine scanLost_of_not_preparing fun hp => ?_
    cases hs : s.scan.state <;> simp_all [Preparing]
  · rw [lineLocked, if_pos ⟨hs, hc, hj⟩, bridgeResume, enterLine_eq]
  · exact if_neg fun ⟨hs, hc, hj⟩ => h.elim (· hs) fun h => h.elim (· hc) (· hj)
  · rw [lineLost, if_pos ⟨by simpa using hs, hc⟩, bridgeEntry_eq]
  · exact if_neg fun ⟨hs, hc⟩ => h.elim (· (by simpa using hs)) (· hc)
  · exact lineFault_of_beforeMark hk ((beforeMark_iff _).2 h)
  · exact lineFault_of_transmitting hk ((transmitting_iff _).2 h) hc
  · refine lineFault_of_neither fun hk => ?_
    rw [beforeMark_iff, transmitting_iff]
    rcases h with h | ⟨hc, h⟩ | h
    · exact absurd hk h
    · exact ⟨fun hb => not_beforeMark_of_transmitting ((transmitting_iff _).2 h) ((beforeMark_iff _).2 hb),
        fun hn => hc hn.2⟩
    · cases hs : s.line.state <;> simp_all
  · exact if_neg fun ⟨hs, hc⟩ => h.elim (· hs) (· hc)
  · exact if_pos ⟨hk, (beforeMark_iff _).2 h⟩
  · exact if_neg fun ⟨hk, hb⟩ => h.elim (· hk) (· ((beforeMark_iff _).1 hb))

end Sys2Proof.DrumDrive

/-! The drum's timed events and its cover (R48, R53, R54, R59, R60, R62, R63). -/

namespace Sys2Proof.DrumDrive
open Machine Laws PictureJobs

variable {s t : State} {r : Rpm} {u : Nat}

theorem running_iff (st : DrumState) : st.running = true ↔ st ∈ [.spinup, .locking, .locked, .slip] := by
  cases st <;> simp [DrumState.running]

/-! ### The index timeout, the spin-up limit, stillness (R48, R53, R60) -/

theorem exec_indexTimeout {dt : Nat} (hs : (elapse dt s).drum.state.tracking = true)
    (hr : (elapse dt s).drum.target = some r) : exec (.indexTimeout dt) s = .next
      (if indexTimeout r ≤ (elapse dt s).drum.indexTime then lostLock (elapse dt s) else elapse dt s) := by
  change execIndexTimeout dt s = _
  simp only [execIndexTimeout, timed, hs, hr, Option.any_some, decide_eq_true_eq, true_and,
    PictureJobs.drumLost_eq]

/-- A FAULT for the spin-up time: the drum braked, the queue held, the report, the cause. -/
theorem drumFault_eq (c : FaultCause) (t : State) : drumFault (some c) t =
    (reportFault { { t with drum := drumRests .fault (some c) t.drum } with
      mountQueue := { t.mountQueue with hold := some .drumFault } }.causeQueue).causeFault := rfl

theorem exec_spinupLimitExpiry {dt : Nat} (hs : (elapse dt s).drum.state = .spinup)
    (hu : (elapse dt s).drum.spinupTime = some u) : exec (.spinupLimitExpiry dt) s = .next
      (if u < 20000000 then elapse dt s else drumFault (some .spinupLimit) (elapse dt s)) := by
  change execSpinupLimitExpiry dt s = _
  have due : (spinupLimit ≤ u) = ¬ u < 20000000 := by rw [Nat.not_lt]; rfl
  simp only [execSpinupLimitExpiry, timed, hs, hu, Option.any_some, decide_eq_true_eq, true_and, due, ite_not]

theorem exec_brakingStillness {dt : Nat} (hs : (elapse dt s).drum.state = .braking)
    (hu : (elapse dt s).drum.brakingTime = some u) : exec (.brakingStillness dt) s = .next
      (if u < 2000000 then elapse dt s else drumStopped (elapse dt s)) := by
  change execBrakingStillness dt s = _
  have due : (stillTime ≤ u) = ¬ u < 2000000 := by rw [Nat.not_lt]; rfl
  simp only [execBrakingStillness, timed, hs, hu, Option.any_some, decide_eq_true_eq, true_and, due, ite_not]

/-! ### The idle stop (R59) -/

theorem idleStopDue_iff (hs : t.drum.state.running = true) (hd : t.drum.demand = some .job)
    (hu : t.drum.idleTime = some u) :
    idleStopDue t = true ↔ ¬ (t.settings.drumIdle = 0 ∨ u < t.settings.drumIdle) := by
  simp [idleStopDue, hs, hd, hu]

theorem exec_idleStop {dt : Nat} (hs : (elapse dt s).drum.state.running = true)
    (hd : (elapse dt s).drum.demand = some .job) (hu : (elapse dt s).drum.idleTime = some u) :
    exec (.idleStop dt) s = .next
      (if (elapse dt s).settings.drumIdle = 0 ∨ u < (elapse dt s).settings.drumIdle then elapse dt s
       else drumBraking (elapse dt s)) := by
  change execIdleStop dt s = _
  simp only [execIdleStop, timed, idleStopDue_iff hs hd hu, ite_not]

/-! ### The cover (R62) -/

theorem exec_coverOpen {dt : Nat} (h : (elapse dt s).drum.coverOpen = false) :
    exec (.coverOpen dt) s = .next (openCover (elapse dt s)) := by
  change execCoverOpen dt s = _
  simp [execCoverOpen, timed, h]

/-- The cover opens on a drum past SPINUP: the scanner's test on its return finds the drum in BRAKING. -/
theorem openCover_of_tracking (h : t.drum.state.tracking = true) : openCover t =
    (drumBraking (reportLost (t.setDrum { t.drum with coverOpen := true })).causeDrum).causeFault := by
  rw [openCover, if_pos h, scanRetested_of_not_locked]
  simp [drumBraking, Drum.toBraking]

theorem openCover_of_spinup (h : t.drum.state = .spinup) : openCover t =
    (drumBraking (t.setDrum { t.drum with coverOpen := true })).causeFault := by
  rw [openCover, if_neg (by simp [h, DrumState.tracking]), if_pos h]

theorem openCover_of_not_running (h : t.drum.state.running = false) :
    openCover t = t.setDrum { t.drum with coverOpen := true } := by
  have still : ¬ t.drum.state.tracking = true := fun ht => by simp [tracking_running _ ht] at h
  rw [openCover, if_neg still, if_neg]
  rintro hs
  simp [hs, DrumState.running] at h

/-- Settles O49: an equation per timed event, and the opening cover by what the drum is doing. -/
theorem timedDrumEventsLoseFaultBrakeAndStop : Obligations.TimedDrumEventsLoseFaultBrakeAndStop := by
  intro dt s t set tracks
  refine ⟨fun r hs hr => ?_, fun u hs hu => ?_, fun u hs hu => ?_, fun u hs hd hu => ?_, fun hc => ?_, rfl⟩
  · exact exec_indexTimeout ((tracking_iff _).2 hs) hr
  · rw [exec_spinupLimitExpiry hs hu, drumFault_eq]
  · rw [exec_brakingStillness hs hu]
    rfl
  · rw [exec_idleStop ((running_iff _).2 hs) hd hu]
    rfl
  · rw [exec_coverOpen hc]
    refine ⟨fun hs => ?_, fun hs => ?_, fun hs => ?_⟩
    · rw [openCover_of_tracking ((tracking_iff _).2 hs)]
      rfl
    · rw [openCover_of_spinup hs]
      rfl
    · refine congrArg Host.Outcome.next (openCover_of_not_running ?_)
      rw [Bool.eq_false_iff, Ne, running_iff]
      cases hd : t.drum.state <;> simp_all

end Sys2Proof.DrumDrive

/-! An index and the positions it starts (R45, R64, R70 to R74, R113, R135). -/

namespace Sys2Proof.DrumDrive
open Machine Laws PictureJobs

variable {s t : State} {r : Rpm} {p k dt : Nat}

/-! ### The period reported (R47, R49, R64) -/

theorem reportedPeriod_eq_some_iff : reportedPeriod s = some p ↔ PeriodHeld s ∧ ∃ r, s.drum.target = some r ∧
    ((s.drum.state ∈ [.locking, .locked, .slip] ∧ p = s.drum.indexTime) ∨
      (s.drum.state = .spinup ∧ s.drum.indexTime ≤ pNom r * 11 / 10 ∧ p = pNom r)) := by
  have threshold (r : Rpm) : pNom r * 11 / 10 = spinupThreshold r := rfl
  by_cases h : PeriodHeld s
  · rw [reportedPeriod, measuredPeriod_of_held h]
    cases hr : s.drum.target with
    | none => simp
    | some r =>
      by_cases ht : s.drum.state.tracking = true
      · have hs := (tracking_iff _).1 ht
        have spins : s.drum.state ≠ .spinup := ne_of_tracking ht rfl
        simp [h, ht, hs, spins, eq_comm (b := p)]
      · have hs := mt (tracking_iff _).2 ht
        simp [h, ht, hs, threshold, eq_comm (b := p), and_assoc]
  · simp [reportedPeriod, measuredPeriod_of_not_held h, h]

/-! ### The revolution that begins at an index (R70 to R74) -/

theorem endedRevolution_eq_complete_iff (t : PosTimer) : endedRevolution t = some .complete ↔
    ∃ k, t.counter = some k ∧ k + 1 = t.positions.getD 0 := by
  simp [endedRevolution, Option.map_eq_some_iff]

theorem indexSpanEnd_eq (t : State) : indexSpanEnd t =
    if t.posTimer.source = some .encoder ∧
      (∃ k, t.posTimer.counter = some k ∧ k + 1 = t.posTimer.positions.getD 0) ∧ t.aux.spanEnded = false
    then spanEnds t else t := by
  simp only [indexSpanEnd, endedRevolution_eq_complete_iff, Bool.not_eq_true]
  rfl

/-- The last revolution takes what the counter reached, and stands where it reached nothing. -/
theorem startRevolution_indexSpanEnd (period : Option Nat) (t : State) :
    startRevolution (indexSpanEnd (holdPeriod period t)) = revolutionBegins period t := by
  have last (u : PosTimer) : (endedRevolution u).or u.lastRev =
      match u.counter with
      | none => u.lastRev
      | some k => some (if k + 1 = u.positions.getD 0 then .complete else .short k) := by
    cases hk : u.counter <;> simp [endedRevolution, hk]
  rw [startRevolution, last, indexSpanEnd_eq]
  rfl

theorem timerIndex_of_idle (period : Option Nat) (scan phase : Bool) (sample : Nat)
    (h : t.posTimer.running = false) : timerIndex period scan phase sample t = holdPeriod period t :=
  if_neg (by simp [holdPeriod, h])

theorem timerIndex_of_running (period : Option Nat) (scan phase : Bool) (sample : Nat)
    (h : t.posTimer.running = true) : timerIndex period scan phase sample t =
      let v := revolutionBegins period t
      let w := modRevolution (if scan then scanIndex v else v)
      positionBegins 0 sample
        (if phase = true ∧ w.modu.mode = .phasing then modPhasingIndex w else w) := by
  unfold timerIndex
  dsimp only
  rw [if_pos (by simpa [holdPeriod] using h), startRevolution_indexSpanEnd]
  simp only [Bool.and_eq_true, beq_iff_eq]
  rfl

/-! ### With source TIMER: positions and the span's end by the time since the index (R71) -/

theorem positionDue_iff (hr : s.posTimer.running = true) (hs : s.posTimer.source = some .timer) (k : Nat) :
    positionDue s k = true ↔ k + 1 < s.posTimer.positions.getD 0 ∧
      (k + 1) * s.posTimer.interval.getD 1 ≤ s.aux.sinceIndex := by
  simp [positionDue, hr, hs]

theorem spanEndDue_iff (hr : s.posTimer.running = true) (hs : s.posTimer.source = some .timer)
    (hk : s.posTimer.counter = some k) : spanEndDue s = true ↔
      k + 1 = s.posTimer.positions.getD 0 ∧ s.aux.spanEnded = false ∧
        s.posTimer.positions.getD 0 * s.posTimer.interval.getD 1 ≤ s.aux.sinceIndex := by
  simp only [spanEndDue, hr, hs, Bool.and_eq_true, Bool.not_eq_true', beq_iff_eq, decide_eq_true_eq,
    endedRevolution_eq_complete_iff, hk, Option.some.injEq, exists_eq_left', true_and, and_assoc]
  exact and_left_comm

theorem positionDue_of_encoder (hs : t.posTimer.source = some .encoder) (k : Nat) : positionDue t k = false := by
  simp [positionDue, hs]

theorem spanEndDue_of_encoder (hs : t.posTimer.source = some .encoder) : spanEndDue t = false := by
  simp [spanEndDue, hs]

theorem exec_positionStart (sample : Nat) (hk : (elapse dt s).posTimer.counter = some k) :
    exec (.positionStart dt sample) s = .next
      (if positionDue (elapse dt s) k then positionBegins (k + 1) sample (elapse dt s) else elapse dt s) := by
  change execPositionStart dt sample s = _
  simp only [execPositionStart, timed, hk]
  rfl

theorem exec_spanEnd (dt : Nat) (s : State) : exec (.spanEnd dt) s = .next
    (if spanEndDue (elapse dt s) then spanEnds (elapse dt s) else elapse dt s) := rfl

theorem positionStart_of_timer (sample : Nat) (hr : (elapse dt s).posTimer.running = true)
    (hs : (elapse dt s).posTimer.source = some .timer) (hk : (elapse dt s).posTimer.counter = some k) :
    exec (.positionStart dt sample) s = .next
      (if k + 1 < (elapse dt s).posTimer.positions.getD 0 ∧
          (k + 1) * (elapse dt s).posTimer.interval.getD 1 ≤ (elapse dt s).aux.sinceIndex then
        positionBegins (k + 1) sample (elapse dt s) else elapse dt s) := by
  simp only [exec_positionStart sample hk, positionDue_iff hr hs]

theorem spanEnd_of_timer (hr : (elapse dt s).posTimer.running = true)
    (hs : (elapse dt s).posTimer.source = some .timer) (hk : (elapse dt s).posTimer.counter = some k) :
    exec (.spanEnd dt) s = .next
      (if k + 1 = (elapse dt s).posTimer.positions.getD 0 ∧ (elapse dt s).aux.spanEnded = false ∧
          (elapse dt s).posTimer.positions.getD 0 * (elapse dt s).posTimer.interval.getD 1 ≤
            (elapse dt s).aux.sinceIndex then
        spanEnds (elapse dt s) else elapse dt s) := by
  simp only [exec_spanEnd, spanEndDue_iff hr hs hk]

theorem takePulse_of_timer (sample : Nat) (hs : t.posTimer.source = some .timer) : takePulse sample t = t :=
  if_neg (by simp [hs])

/-! ### With source ENCODER: by the pulses (R72) -/

theorem takePulse_of_encoder (sample : Nat) (hr : t.posTimer.running = true)
    (hs : t.posTimer.source = some .encoder) (hk : t.posTimer.counter = some k) : takePulse sample t =
      if k + 1 < t.posTimer.positions.getD 0 then positionBegins (k + 1) sample t
      else if t.aux.spanEnded then t else spanEnds t := by
  simp only [takePulse, if_pos (And.intro hr hs), hk]
  rfl

theorem positionStart_of_encoder (sample : Nat) (hs : (elapse dt s).posTimer.source = some .encoder)
    (hk : (elapse dt s).posTimer.counter = some k) :
    exec (.positionStart dt sample) s = .next (elapse dt s) := by
  rw [exec_positionStart sample hk, positionDue_of_encoder hs]
  rfl

theorem spanEnd_of_encoder (hs : (elapse dt s).posTimer.source = some .encoder) :
    exec (.spanEnd dt) s = .next (elapse dt s) := by
  rw [exec_spanEnd, spanEndDue_of_encoder hs]
  rfl

/-! ### A timer in IDLE, or before its first index -/

/-- No position is running. -/
def NoPosition (t : State) : Prop := t.posTimer.running = false ∨ t.posTimer.counter = none

theorem positionDue_of_noPosition (h : NoPosition t) (hk : t.posTimer.counter = some k) :
    positionDue t k = false := by
  have hr : t.posTimer.running = false := h.resolve_right (by simp [hk])
  simp [positionDue, hr]

theorem spanEndDue_of_noPosition (h : NoPosition t) : spanEndDue t = false := by
  rcases h with hr | hk
  · simp [spanEndDue, hr]
  · simp [spanEndDue, endedRevolution, hk]

theorem positionStart_of_noPosition (sample : Nat) (h : NoPosition (elapse dt s)) :
    exec (.positionStart dt sample) s = .next (elapse dt s) := by
  cases hk : (elapse dt s).posTimer.counter with
  | none =>
    change execPositionStart dt sample s = _
    simp only [execPositionStart, timed, hk]
  | some k =>
    rw [exec_positionStart sample hk, positionDue_of_noPosition h hk]
    rfl

theorem spanEnd_of_noPosition (h : NoPosition (elapse dt s)) :
    exec (.spanEnd dt) s = .next (elapse dt s) := by
  rw [exec_spanEnd, spanEndDue_of_noPosition h]
  rfl

theorem takePulse_of_noPosition (sample : Nat) (h : NoPosition t) : takePulse sample t = t := by
  unfold takePulse
  rcases h with hr | hk
  · rw [if_neg (by simp [hr])]
  · simp [hk]

/-- Settles O50: the index by `timerIndex_of_idle` and `timerIndex_of_running`, the positions by their source. -/
theorem anIndexAndItsPositionsReachTheBlocks : Obligations.AnIndexAndItsPositionsReachTheBlocks := by
  refine ⟨fun dt sample s => ?_, fun s p => reportedPeriod_eq_some_iff, fun dt sample k s => ?_,
    fun dt sample s h => ?_⟩
  · intro t period taken
    have timer (scan : Bool) (u : State) :
        timerIndex period scan (t.modu.mode == .phasing) sample u = taken scan u := by
      cases hr : u.posTimer.running with
      | false =>
        rw [timerIndex_of_idle _ _ _ _ hr]
        exact (if_pos hr).symm
      | true =>
        rw [timerIndex_of_running _ _ _ _ hr]
        simp only [taken, hr, beq_iff_eq, Bool.true_eq_false, if_false]
    constructor
    · rw [← timer]
      rfl
    · rw [← timer]
      rfl
  · intro t n i hr hk
    exact ⟨fun hs => ⟨positionStart_of_timer sample hr hs hk, spanEnd_of_timer hr hs hk,
        congrArg Host.Outcome.next (takePulse_of_timer sample hs)⟩,
      fun hs => ⟨congrArg Host.Outcome.next (takePulse_of_encoder sample hr hs hk),
        positionStart_of_encoder sample hs hk, spanEnd_of_encoder hs⟩⟩
  · exact ⟨positionStart_of_noPosition sample h, spanEnd_of_noPosition h,
      congrArg Host.Outcome.next (takePulse_of_noPosition sample h)⟩

end Sys2Proof.DrumDrive

/-! The head's steps, its homing and its positioning requests (R77 to R80). -/

namespace Sys2Proof.HeadDrive
open Machine Laws

variable {s : State} {p : Nat}

theorem homeReached_eq_headHomed (s : State) : homeReached s = headHomed s := by
  rw [homeReached_eq, headHomed]
  cases h : s.head.target with
  | none => rfl
  | some p => cases p <;> rfl

/-! ### The commands of the head (R77 to R80) -/

section Commands
variable {dt : Nat} {home : Bool}

theorem exec_headStep_of_homing (due : 2500 ≤ (elapse dt s).aux.headTime)
    (hm : (elapse dt s).head.motion = .homing) (left : (elapse dt s).aux.homingSteps < 4100) :
    exec (.headStep dt home) s = .next (homingStep home (elapse dt s)) := by
  change execHeadStep dt home s = _
  simp only [execHeadStep, timed, if_neg (Nat.not_lt.2 due : ¬ _ < stepTime), hm]
  exact congrArg Host.Outcome.next (if_pos left)

theorem exec_headStep_of_moving (due : 2500 ≤ (elapse dt s).aux.headTime)
    (hm : (elapse dt s).head.motion = .moving) :
    exec (.headStep dt home) s = .next (movingStep home (elapse dt s)) := by
  change execHeadStep dt home s = _
  simp only [execHeadStep, timed, if_neg (Nat.not_lt.2 due : ¬ _ < stepTime), hm]

theorem exec_headStep_of_not_due
    (h : (elapse dt s).aux.headTime < 2500 ∨ (elapse dt s).head.motion = .idle ∨
      (elapse dt s).head.motion = .step ∨
      ((elapse dt s).head.motion = .homing ∧ 4100 ≤ (elapse dt s).aux.homingSteps)) :
    exec (.headStep dt home) s = .next (senseHome home (elapse dt s)) := by
  change execHeadStep dt home s = _
  simp only [execHeadStep, timed]
  by_cases early : (elapse dt s).aux.headTime < stepTime
  · rw [if_pos early]
  · rw [if_neg early]
    rcases h.resolve_left early with hm | hm | ⟨hm, spent⟩
    · simp only [hm]
    · simp only [hm]
    · simp only [hm, if_neg (Nat.not_lt.2 spent : ¬ _ < homingLimit)]

theorem exec_scanStepEnd_of_due (due : 2500 ≤ (elapse dt s).aux.headTime)
    (hm : (elapse dt s).head.motion = .step) :
    exec (.scanStepEnd dt home) s = .next (endScanStep home (elapse dt s)) :=
  congrArg Host.Outcome.next (if_pos ⟨hm, due⟩)

theorem exec_scanStepEnd_of_not_due
    (h : (elapse dt s).aux.headTime < 2500 ∨ (elapse dt s).head.motion ≠ .step) :
    exec (.scanStepEnd dt home) s = .next (senseHome home (elapse dt s)) :=
  congrArg Host.Outcome.next (if_neg fun ⟨hm, due⟩ => h.elim (Nat.not_lt.2 due) (· hm))

theorem exec_homingFailure_of_spent (hm : (elapse dt s).head.motion = .homing)
    (spent : 4100 ≤ (elapse dt s).aux.homingSteps) :
    exec (.homingFailure dt) s = .next (failHoming (elapse dt s)) :=
  congrArg Host.Outcome.next (if_pos ⟨hm, spent⟩)

theorem exec_homingFailure_of_not_spent
    (h : (elapse dt s).head.motion ≠ .homing ∨ (elapse dt s).aux.homingSteps < 4100) :
    exec (.homingFailure dt) s = .next (elapse dt s) :=
  congrArg Host.Outcome.next (if_neg fun ⟨hm, spent⟩ => h.elim (· hm) (Nat.not_lt.2 spent))

end Commands

/-! ### What a step does, once due -/

theorem homingStep_eq (home : Bool) (s : State) : homingStep home s =
    let back := stepsHead false (senseHome home s)
    let stepped := { back with aux := { back.aux with homingSteps := s.aux.homingSteps + 1 } }
    if home then headHomed stepped else stepped := by
  rw [homingStep, homeReached_eq_headHomed]
  rfl

theorem movingStep_eq (home : Bool) (s : State) : movingStep home s =
    let fwd := stepsHead true (senseHome home s)
    let moved := { fwd with head := { fwd.head with line := s.head.line + 1 } }
    if s.head.target = some (s.head.line + 1) then
      scanPositioned (s.head.line + 1) { moved with head := { moved.head with motion := .idle, target := none } }
    else moved := rfl

theorem endScanStep_of_owed (home : Bool) (h : 0 < s.head.owed) : endScanStep home s =
    stepsHead true { senseHome home s with head := { s.head with owed := s.head.owed - 1 } } :=
  if_pos h

/-! ### Positioning requests by the motion (R78) -/

/-- The target stored. -/
def aimedHead (p : Nat) (s : State) : State := { s with head := { s.head with target := some p } }

theorem aimedHead_eq (p : Nat) (s : State) : s.setHead { s.head with target := some p } = aimedHead p s := rfl

theorem positioningRequest_of_idle (h : s.head.motion = .idle) :
    positioningRequest p s = positionIdle p (aimedHead p s) := by
  rw [positioningRequest, aimedHead_eq]
  simp only [h]

theorem positioningRequest_of_moving (h : s.head.motion = .moving) : positioningRequest p s =
    if p = s.head.line then headPositioned (aimedHead p s)
    else if p < s.head.line then enterHoming (aimedHead p s) else aimedHead p s := by
  rw [positioningRequest, aimedHead_eq]
  simp only [h]
  rcases Nat.lt_trichotomy p s.head.line with below | rfl | above
  · simp only [if_pos below, if_neg below.ne]
  · simp only [if_neg (lt_irrefl _), if_true]
  · simp only [if_neg above.not_gt, if_neg above.ne']

theorem positioningRequest_of_busy (h : s.head.motion = .homing ∨ s.head.motion = .step) :
    positioningRequest p s = aimedHead p s := by
  rcases h with hm | hm
  · rw [positioningRequest, aimedHead_eq]
    simp only [hm]
  · rw [positioningRequest, aimedHead_eq]
    simp only [hm]

theorem positionIdle_eq (p : Nat) (s : State) : positionIdle p s =
    if s.head.valid = true ∧ s.head.line = p then headPositioned s
    else if s.head.valid = true ∧ s.head.line < p then headMoving s
    else enterHoming s := by
  unfold positionIdle
  cases hv : s.head.valid with
  | false => simp
  | true =>
    rcases Nat.lt_trichotomy s.head.line p with below | rfl | above
    · simp [below, below.le, below.ne, below.ne']
    · simp
    · simp [above.not_ge, above.not_gt, above.ne']

theorem enterHoming_eq (s : State) : enterHoming s =
    let begun := { s with
      head := { s.head with motion := .homing, valid := false, lastHoming := s.head.homingBegun }
      aux := { s.aux with headTime := 0, homingSteps := 0 } }
    if s.pins.home then headHomed begun else begun := by
  rw [enterHoming, homeReached_eq_headHomed]
  rfl

/-! ### The end of the last scan step, and a request that waited for it (R78, R80) -/

/-- The head at rest after its last scan step: HD_HOME sensed, IDLE. -/
def restedHead (home : Bool) (s : State) : State :=
  { senseHome home s with head := { s.head with motion := .idle } }

theorem restedHead_eq (home : Bool) (s : State) :
    (senseHome home s).setHead { (senseHome home s).head with motion := .idle } = restedHead home s := rfl

/-- The target stored already, a request that waited is taken as one made in IDLE. -/
theorem positioningRequest_restedHead (home : Bool) (ht : s.head.target = some p) :
    positioningRequest p (restedHead home s) = positionIdle p (restedHead home s) := by
  rw [positioningRequest_of_idle rfl, aimedHead, show some p = (restedHead home s).head.target from ht.symm]

theorem endScanStep_of_no_target (home : Bool) (ho : ¬ 0 < s.head.owed) (ht : s.head.target = none) :
    endScanStep home s = restedHead home s := by
  have none_stored : (restedHead home s).head.target = none := ht
  simp only [endScanStep, restedHead_eq, if_neg (show ¬ 0 < (senseHome home s).head.owed from ho), none_stored]

theorem endScanStep_of_target (home : Bool) (ho : ¬ 0 < s.head.owed) (ht : s.head.target = some p) :
    endScanStep home s = positioningRequest p (restedHead home s) := by
  have stored : (restedHead home s).head.target = some p := ht
  rw [positioningRequest_restedHead home ht]
  simp only [endScanStep, restedHead_eq, if_neg (show ¬ 0 < (senseHome home s).head.owed from ho), stored]

/-! ### A scan step (R80) -/

theorem scanStep_of_idle (h : s.head.motion = .idle) : scanStep s =
    stepsHead true { s with head := { s.head with line := s.head.line + 1, motion := .step } } := by
  unfold scanStep
  simp only [h]
  rfl

theorem scanStep_of_step (h : s.head.motion = .step) : scanStep s =
    { s with head := { s.head with line := s.head.line + 1, owed := s.head.owed + 1 } } := by
  unfold scanStep
  simp only [h]
  rfl

/-- Settles O51: each command by whether its step is due, each request and each scan step by the motion. -/
theorem theHeadHomesMovesAndSteps : Obligations.TheHeadHomesMovesAndSteps := by
  refine ⟨fun dt home s => ⟨fun due => ⟨fun hm left => ?_, fun hm => ?_, fun hm => ?_⟩,
      exec_homingFailure_of_spent, exec_headStep_of_not_due, exec_scanStepEnd_of_not_due,
      exec_homingFailure_of_not_spent⟩,
    fun s p => ⟨fun hm => ?_, fun hm => ?_, positioningRequest_of_busy⟩,
    fun s => ⟨scanStep_of_idle, scanStep_of_step⟩⟩
  · rw [exec_headStep_of_homing due hm left, homingStep_eq]
    rfl
  · rw [exec_headStep_of_moving due hm, movingStep_eq]
    rfl
  · rw [exec_scanStepEnd_of_due due hm]
    refine congrArg Host.Outcome.next ?_
    split
    next ho => exact endScanStep_of_owed home ho
    next ho =>
      dsimp only
      split
      next p ht => exact endScanStep_of_target home ho ht
      next ht => exact endScanStep_of_no_target home ho ht
  · rw [positioningRequest_of_idle hm, positionIdle_eq, enterHoming_eq]
    rfl
  · rw [positioningRequest_of_moving hm, enterHoming_eq]
    rfl

end Sys2Proof.HeadDrive

/-! Closings and aborts (R98, R106, R116, R140, R146). -/

namespace Sys2Proof.ScanConversion
open Machine Laws DrumDrive

variable {s : State}

/-! ### The line being filled is given up (R98, R102, R106) -/

theorem slotGivenUp_of_neither (h : ¬ (s.scan.state = .prepared ∨ s.scan.state = .capturing)) :
    slotGivenUp s = s.ring := by
  unfold slotGivenUp
  split
  next => exact if_neg h
  next => rfl

theorem abandonFilling_eq (h : s.scan.state = .prepared ∨ s.scan.state = .capturing) :
    abandonFilling s = { s with ring := slotGivenUp s, scan := { s.scan with filling := none } } := by
  unfold abandonFilling slotGivenUp
  cases hf : s.scan.filling with
  | none => simp only [← hf]
  | some f =>
    simp only [if_pos h]
    rfl

theorem scanHalt_eq (s : State) : scanHalt s = { s with
    ring := slotGivenUp s
    scan := if s.scan.state = .prepared ∨ s.scan.state = .capturing then
        { s.scan with state := .halted, tracking := .none, filling := none }
      else s.scan } := by
  unfold scanHalt
  by_cases h : s.scan.state = .prepared ∨ s.scan.state = .capturing
  · simp only [if_pos h, abandonFilling_eq h]
    rfl
  · simp only [if_neg h, slotGivenUp_of_neither h]

/-! ### The stop tone, and the line being sent goes back (R106, R116, R118) -/

theorem slotHeld_eq_unsent : slotHeld = Slot.unsent := by
  funext x
  cases x <;> rfl

theorem unsend_eq (s : State) : unsend s = { s with
    ring := s.ring.map slotHeld, modu := { s.modu with sendingSlot := none } } := by
  rw [slotHeld_eq_unsent, ← unsend_ring]
  rfl

theorem stopMode_eq (s : State) : stopMode s = { s with
    ring := s.ring.map slotHeld
    markGen := { s.markGen with step := .idle, symbols := [], completed := 0, left := 0 }
    modu := { s.modu with
      mode := .stop, freq := some s.settings.stopHz
      increment := (s.settings.stopHz * 65536 + 9600) / 19200, sendingSlot := none } } := by
  rw [stopMode, unsend_eq]
  rfl

/-! ### Closing and abort (R140, R146) -/

theorem beginClosing_eq (c : Closing) (s : State) : beginClosing c s = { s with
    line := { s.line with
      closing := some c
      timer := some { limit := .stopTime, left := 1000000 * s.settings.stopTime } }
    modu := { s.modu with
      mode := .stop, freq := some s.settings.stopHz
      increment := (s.settings.stopHz * 65536 + 9600) / 19200, sendingSlot := none }
    markGen := { s.markGen with step := .idle, symbols := [], completed := 0, left := 0 }
    ring := (slotGivenUp s).map slotHeld
    scan := if s.scan.state = .prepared ∨ s.scan.state = .capturing then
        { s.scan with state := .halted, tracking := .none, filling := none }
      else s.scan } := by
  rw [beginClosing, stopMode_eq, scanHalt_eq, sec_eq]
  rfl

theorem abortCall_of_beforeMark (h : s.line.state.beforeMark = true) :
    abortCall s = callEnd .cancelled false s := if_pos h

theorem abortCall_of_transmitting (h : s.line.state.transmitting = true) (hc : s.line.closing = none) :
    abortCall s = beginClosing .abort s := by
  rw [abortCall, if_neg (not_beforeMark_of_transmitting h), if_pos ⟨h, hc⟩]

theorem abortCall_of_neither (hb : ¬ s.line.state.beforeMark = true)
    (ht : ¬ (s.line.state.transmitting = true ∧ s.line.closing = none)) : abortCall s = s := by
  rw [abortCall, if_neg hb, if_neg ht]

/-- Settles O44: a closing by what the halt and the stop tone write, an abort by the kind of the line state. -/
theorem closingsAndAbortsByTheLineState : Obligations.ClosingsAndAbortsByTheLineState := by
  refine ⟨fun s c => ?_, fun s => ⟨fun h => ?_, fun h hc => ?_, fun h => ?_⟩⟩
  · rw [beginClosing_eq]
    exact ⟨rfl, rfl, rfl, rfl, rfl, rfl⟩
  · exact abortCall_of_beforeMark ((beforeMark_iff _).2 h)
  · exact abortCall_of_transmitting ((transmitting_iff _).2 h) hc
  · rcases h with h | ⟨h, hc⟩
    · refine abortCall_of_neither ?_ fun ⟨ht, _⟩ => ?_
      · rw [beforeMark_iff]
        revert h
        cases s.line.state <;> decide
      · rw [transmitting_iff] at ht
        revert h ht
        cases s.line.state <;> decide
    · exact abortCall_of_neither (not_beforeMark_of_transmitting ((transmitting_iff _).2 h)) fun hn => hc hn.2

end Sys2Proof.ScanConversion

/-! The scanner's reports, its measurements and its lines (R85, R87 to R90, R93, R94, R97 to R102). -/

namespace Sys2Proof.ScanConversion
open Machine Laws DrumDrive

variable {s : State} {k r n sum m : Nat}

/-! ### The reports of the line unit and the head (R87, R97, R98, R102) -/

theorem scanHalt_of_fills (h : s.scan.state = .prepared ∨ s.scan.state = .capturing) : scanHalt s = { s with
    ring := slotGivenUp s
    scan := { s.scan with state := .halted, tracking := .none, filling := none } } := by
  rw [scanHalt_eq, if_pos h]

theorem scanFinished_of_capturing (h : s.scan.state = .capturing) : scanFinished s = { s with
    ring := slotGivenUp s
    scan := { Scanner.reset with
      dark := s.scan.dark, white := s.scan.white, lastWhite := s.scan.lastWhite } } := by
  rw [scanFinished, if_pos h, scanIdle, abandonFilling_eq (.inr h)]
  rfl

theorem scanDrumLocked_iff (s : State) : scanDrumLocked s = true ↔
    s.drum.state = .locked ∧ s.drum.target ≠ none ∧ s.drum.target = s.scan.jobSpeed := by
  unfold scanDrumLocked
  cases hj : s.scan.jobSpeed with
  | none => simp
  | some v =>
    simp only [Drum.lockedAt, Bool.and_eq_true, beq_iff_eq]
    exact and_congr_right fun _ => ⟨fun h => ⟨by simp [h], h⟩, And.right⟩

theorem scanWaitTest_of_not (h : s.scan.state ≠ .waitDrum ∨ s.scan.headReady = false ∨
    s.drum.state ≠ .locked ∨ s.drum.target ≠ s.scan.jobSpeed) : scanWaitTest s = s := by
  refine if_neg fun ⟨hw, hh, hd⟩ => ?_
  obtain ⟨hl, -, ht⟩ := (scanDrumLocked_iff s).1 hd
  rcases h with h | h | h | h
  · exact h hw
  · simp [h] at hh
  · exact h hl
  · exact h ht

/-! ### The parts of a revolution (R67) -/

theorem inClamp_iff : inClamp n k = true ↔ n / 8 / 4 ≤ k ∧ k < 3 * (n / 8) / 4 := by
  rw [inClamp, Bool.and_eq_true, decide_eq_true_eq, decide_eq_true_eq]
  rfl

theorem inSpan_iff : inSpan n k = true ↔ n / 8 ≤ k ∧ k < n + n / 8 := by
  rw [inSpan, Bool.and_eq_true, decide_eq_true_eq, decide_eq_true_eq]
  rfl

/-! ### A sample, by the scanner's state (R85, R88) -/

theorem scanSample_of_unused (h : s.scan.state ∈ [.idle, .waitDrum, .warm, .halted]) : scanSample k r s = s := by
  unfold scanSample
  cases hs : s.scan.state <;> simp [hs] at h ⊢

theorem scanSample_of_dark (hn : s.scan.jobS = some n) (hs : s.scan.state = .dark)
    (hm : s.scan.measuring = .running sum m) : scanSample k r s =
      if n / 8 ≤ k ∧ k < n + n / 8 then
        { s with scan := { s.scan with measuring := .running (sum + r) (m + 1) } }
      else s := by
  simp only [scanSample, hn, hs, hm, Option.getD_some, inSpan_iff]
  rfl

theorem scanSample_of_whiteRef (hn : s.scan.jobS = some n) (hs : s.scan.state = .whiteRef)
    (hb : n / 8 / 4 ≤ k ∧ k < 3 * (n / 8) / 4) : scanSample k r s = whiteSample n k r s := by
  simp only [scanSample, hn, hs, Option.getD_some, if_pos (inClamp_iff.2 hb)]

theorem scanSample_of_tracked (hn : s.scan.jobS = some n)
    (hs : s.scan.state = .prepared ∨ s.scan.state = .capturing)
    (hb : n / 8 / 4 ≤ k ∧ k < 3 * (n / 8) / 4) : scanSample k r s = trackSample n k r s := by
  rcases hs with hs | hs
  · simp only [scanSample, hn, hs, Option.getD_some, if_pos (inClamp_iff.2 hb)]
  · simp only [scanSample, hn, hs, Option.getD_some, if_pos (inClamp_iff.2 hb)]

theorem scanSample_of_capturing (hn : s.scan.jobS = some n) (hs : s.scan.state = .capturing)
    (hb : ¬ (n / 8 / 4 ≤ k ∧ k < 3 * (n / 8) / 4)) : scanSample k r s =
      if n / 8 ≤ k ∧ k < n + n / 8 then writeLevel n r (if k = n / 8 then captureBegin s else s) else s := by
  simp only [scanSample, hn, hs, Option.getD_some, if_neg (mt inClamp_iff.1 hb), inSpan_iff]
  rfl

/-! ### The white reference (R90, R91) -/

theorem whiteSample_of_running (hm : s.scan.measuring = .running sum m) : whiteSample n k r s =
    let t := { s with scan := { s.scan with measuring := .running (sum + r) (m + 1) } }
    if k = 3 * (n / 8) / 4 - 1 then whiteDone ((sum + r) / (n / 16)) t else t := by
  simp only [whiteSample, hm]
  rfl

theorem enterPrepared_eq (s : State) : enterPrepared s =
    let ready := { s.scan with state := .prepared, lamp := true, measuring := .none, tracking := .waiting }
    if s.drum.state = .locked ∧ s.drum.target ≠ none ∧ s.drum.target = s.scan.jobSpeed then
      linePrepared { s with scan := { ready with report := .sent } }
    else { s with scan := { ready with report := .held } } := by
  simp only [enterPrepared, scanDrumLocked_iff]
  rfl

theorem whiteDone_of_good {w : Nat} (h : s.scan.dark + s.settings.lampMin ≤ w) : whiteDone w s =
    enterPrepared { s with scan := { s.scan with lastWhite := some w, measuring := .none, white := w } } :=
  if_pos (decide_eq_true h)

theorem whiteDone_of_low {w : Nat} (h : w < s.scan.dark + s.settings.lampMin) : whiteDone w s =
    lampFailure { s with scan := { s.scan with lastWhite := some w, measuring := .none } } :=
  if_neg (by simpa [whiteGood] using h)

/-! ### White tracking (R93, R94) -/

theorem noteEvent_scan (x : NoteKind) (s : State) : (noteEvent x s).scan = s.scan := by
  unfold noteEvent modActive State.modLeg
  split
  next => split <;> rfl
  next => rfl

theorem trackSample_of_running (hm : s.scan.tracking = .running sum m) : trackSample n k r s =
    let t := { s with scan := { s.scan with tracking := .running (sum + r) (m + 1) } }
    if k = 3 * (n / 8) / 4 - 1 then trackDone ((sum + r) / (n / 16)) t else t := by
  simp only [trackSample, hm]
  rfl

theorem trackDone_of_good {w : Nat} (h : s.scan.dark + s.settings.lampMin ≤ w) : trackDone w s =
    { s with scan := { s.scan with
      lastWhite := some w
      white := ((s.scan.white : Int) + Int.tdiv ((w : Int) - s.scan.white) 8).toNat
      lampLow := false } } :=
  if_pos (decide_eq_true h)

theorem trackDone_of_low {w : Nat} (h : w < s.scan.dark + s.settings.lampMin) : trackDone w s =
    lampHold { s with scan := { s.scan with lastWhite := some w } } :=
  if_neg (by simpa [whiteGood] using h)

theorem lampHold_eq (s : State) : lampHold s =
    let low := noteEvent .lamp s
    if s.scan.lampLow then low
    else { low with scan := { s.scan with lampLow := true } }.causeFault := by
  rw [← noteEvent_scan .lamp s]
  simp only [lampHold, noteEvent_scan]
  rfl

/-! ### A line begun (R99, R105) -/

theorem lowestFree_eq_none {ring : Vector Slot 4} (h : ∀ i : Nat, ring[i]? ≠ some Slot.free) :
    lowestFree ring = none := by
  simp only [lowestFree, List.find?_eq_none, beq_iff_eq]
  exact fun i _ => h i

theorem captureBegin_of_free {i : Nat} (hf : s.scan.filling = none) (hv : s.head.valid = true)
    (hl : s.head.line < s.scan.jobT.getD 0) (hi : lowestFree s.ring = some i) : captureBegin s = { s with
      ring := s.ring.setIfInBounds i (.filling s.head.line [])
      scan := { s.scan with filling := some { slot := i, line := s.head.line, written := 0 } } } := by
  rw [captureBegin, if_pos ⟨hf, hv, hl⟩, hi]
  rfl

theorem captureBegin_of_barred (h : s.scan.filling ≠ none ∨ s.head.valid = false ∨
    s.scan.jobT.getD 0 ≤ s.head.line ∨ ∀ i : Nat, s.ring[i]? ≠ some Slot.free) : captureBegin s = s := by
  unfold captureBegin
  split
  next may =>
    obtain ⟨hf, hv, hl⟩ := may
    have none_free : lowestFree s.ring = none := by
      refine lowestFree_eq_none (((h.resolve_left (· hf)).resolve_left ?_).resolve_left hl.not_ge)
      simp [hv]
    simp only [none_free]
  next => rfl

/-! ### Levels written, and the line complete (R100, R101) -/

theorem fillingLevels_eq {f : Filling} {line : Nat} {ls : List Nat}
    (h : s.ring[f.slot]? = some (.filling line ls)) : fillingLevels s f = ls := by
  simp [fillingLevels, h, Slot.filled]

/-- A scan step does not look at the scanner's record (R80). -/
theorem scanStep_setScan (c : Scanner) (s : State) : (scanStep s).setScan c = scanStep (s.setScan c) := by
  unfold scanStep
  cases hm : s.head.motion <;> simp only [State.setScan_head, hm] <;> rfl

theorem scanStep_scan (s : State) : (scanStep s).scan = s.scan := by rw [scanStep_keeps]

theorem captureDone_eq (f : Filling) (levels : List Nat) (s : State) : captureDone f levels s =
    scanStep { s with
      ring := s.ring.setIfInBounds f.slot (.full f.line levels)
      scan := { s.scan with filling := none } } := by
  simp only [captureDone, scanStep_setScan, scanStep_scan]
  rfl

theorem writeLevel_of_none (h : s.scan.filling = none) : writeLevel n r s = s := by
  simp only [writeLevel, h]

theorem writeLevel_of_filling {f : Filling} {line : Nat} {ls : List Nat} (hf : s.scan.filling = some f)
    (hr : s.ring[f.slot]? = some (.filling line ls)) : writeLevel n r s =
      let levels := ls ++ [levelOf s.curve s.scan.dark s.scan.white r]
      if f.written + 1 < n then { s with
        ring := s.ring.setIfInBounds f.slot (.filling f.line levels)
        scan := { s.scan with filling := some { f with written := f.written + 1 } } }
      else scanStep { s with
        ring := s.ring.setIfInBounds f.slot (.full f.line levels)
        scan := { s.scan with filling := none } } := by
  simp only [writeLevel, hf, fillingLevels_eq hr, captureDone_eq]
  by_cases h : f.written + 1 < n
  · rw [if_neg h.not_ge, if_pos h]
    rfl
  · rw [if_pos (Nat.le_of_not_lt h), if_neg h]

/-- The first level of a line, written at once when the line is begun. -/
theorem writeLevel_captureBegin {i : Nat} (h1 : 1 < n) (hf : s.scan.filling = none)
    (hv : s.head.valid = true) (hl : s.head.line < s.scan.jobT.getD 0) (hi : s.ring[i]? = some Slot.free)
    (hj : ∀ j : Nat, j < i → s.ring[j]? ≠ some Slot.free) : writeLevel n r (captureBegin s) = { s with
      ring := s.ring.setIfInBounds i (.filling s.head.line [levelOf s.curve s.scan.dark s.scan.white r])
      scan := { s.scan with filling := some { slot := i, line := s.head.line, written := 1 } } } := by
  have hi4 : i < 4 := (Vector.getElem?_eq_some_iff.1 hi).1
  rw [captureBegin_of_free hf hv hl (lowestFree_eq hi hj),
    writeLevel_of_filling rfl (Vector.getElem?_setIfInBounds_self_of_lt hi4)]
  simp only [Nat.zero_add, if_pos h1, Vector.setIfInBounds_setIfInBounds, List.nil_append]

/-! ### The span end and the index (R88, R89, R101) -/

theorem darkEnd_of_running (hm : s.scan.measuring = .running sum m) (h0 : 0 < m) : darkEnd s =
    { s with scan := { s.scan with
      dark := min 1023 ((sum + s.pins.photocell * (s.scan.jobS.getD 0 - m)) / s.scan.jobS.getD 0)
      measuring := .none, warmRevs := 0, lamp := true, state := .warm } } := by
  simp only [darkEnd, hm, if_neg h0.ne']
  rfl

theorem scanIndex_of_dark (h : s.scan.state = .dark) : scanIndex s = darkIndex s := by
  simp only [scanIndex, h]

theorem scanIndex_of_warm (h : s.scan.state = .warm) : scanIndex s = warmIndex s := by
  simp only [scanIndex, h]

theorem darkIndex_of_running (hm : s.scan.measuring = .running sum m) : darkIndex s =
    if m = 0 then { s with scan := { s.scan with measuring := .running 0 0 } } else darkEnd s := by
  simp only [darkIndex, hm]
  rfl

theorem shortLine_of_none (h : s.scan.filling = none) : shortLine s = s := by
  simp only [shortLine, h]

theorem shortLine_of_filling {f : Filling} {line : Nat} {ls : List Nat} (hf : s.scan.filling = some f)
    (hr : s.ring[f.slot]? = some (.filling line ls)) : shortLine s = noteEvent .short (scanStep { s with
      ring := s.ring.setIfInBounds f.slot
        (.full f.line (ls ++ List.replicate (s.scan.jobS.getD 0 - ls.length) (ls.getLastD 0)))
      scan := { s.scan with filling := none } }) := by
  simp only [shortLine, hf, fillingLevels_eq hr, captureDone_eq]
  rfl

theorem scanIndex_of_capturing (h : s.scan.state = .capturing) : scanIndex s =
    { shortLine s with scan := { (shortLine s).scan with tracking := .running 0 0 } } := by
  simp only [scanIndex, h]
  rfl

/-- Settles O52: the reports by what a halt gives up and `scanDrumLocked_iff`; a sample by the scanner's state and
then by its part of the revolution; the span end and the index by the state. -/
theorem theScannerMeasuresAndCaptures : Obligations.TheScannerMeasuresAndCaptures := by
  refine ⟨fun s => ⟨fun h => ?_, fun h => ?_, rfl, rfl, rfl, fun h => if_neg h, scanFinished_of_capturing,
      fun p hw hp => if_pos ⟨hw, hp⟩, fun p h => if_neg fun ⟨hw, hp⟩ => h.elim (· hw) (· hp),
      fun hw hh hl ht hj => ?_, scanWaitTest_of_not⟩,
    fun s k r n hn => ⟨scanSample_of_unused, fun sum m hs hm => scanSample_of_dark hn hs hm,
      fun sum m hs hm hb => ⟨fun hk => ?_, fun hk hw => ?_, fun hk hw => ?_⟩,
      fun sum m hs hm hb => ⟨fun hk => ?_, fun hk hw => ?_, fun hk hw => ?_⟩,
      fun i hs hb h1 hk hf hv hl hi hj => ?_, fun hs hb hg hf h => ?_,
      fun f line ls hs hb hg hkn hf hr => ?_⟩,
    fun s => ⟨fun sum m hs hm => ⟨fun h0 => ⟨?_, ?_⟩, fun h0 => ?_⟩, fun h => if_neg h, fun hs hm => ?_,
      scanIndex_of_warm, fun hs => ?_, fun h => ?_, fun h => ?_, fun f line ls hs hf hr => ?_⟩⟩
  · exact scanHalt_of_fills (by simpa using h)
  · exact if_neg (by simpa using h)
  · exact scanWaitTest_of_headReady hw hh ((scanDrumLocked_iff s).2 ⟨hl, ht, hj⟩)
  · rw [scanSample_of_whiteRef hn hs hb, whiteSample_of_running hm]
    exact if_neg hk
  · rw [scanSample_of_whiteRef hn hs hb, whiteSample_of_running hm]
    refine (if_pos hk).trans ((whiteDone_of_good ?_).trans (enterPrepared_eq _))
    exact hw
  · rw [scanSample_of_whiteRef hn hs hb, whiteSample_of_running hm]
    refine (if_pos hk).trans (whiteDone_of_low ?_)
    exact hw
  · rw [scanSample_of_tracked hn hs hb, trackSample_of_running hm]
    exact if_neg hk
  · rw [scanSample_of_tracked hn hs hb, trackSample_of_running hm]
    refine (if_pos hk).trans (trackDone_of_good ?_)
    exact hw
  · rw [scanSample_of_tracked hn hs hb, trackSample_of_running hm]
    refine (if_pos hk).trans ((trackDone_of_low ?_).trans (lampHold_eq _))
    exact hw
  · rw [scanSample_of_capturing hn hs hb, if_pos (by omega), if_pos hk,
      writeLevel_captureBegin h1 hf hv hl hi hj]
  · rw [scanSample_of_capturing hn hs hb]
    have not_begun : (if k = n / 8 then captureBegin s else s) = s := by
      split
      next hk => exact captureBegin_of_barred (.inr (h.resolve_left (· hk)))
      next => rfl
    rw [not_begun, writeLevel_of_none hf, ite_self]
  · rw [scanSample_of_capturing hn hs hb, if_pos ⟨hg, hkn⟩,
      captureBegin_of_barred (.inl (by simp [hf])), ite_self, writeLevel_of_filling hf hr]
  · exact (if_pos hs).trans (darkEnd_of_running hm h0)
  · rw [scanIndex_of_dark hs, darkIndex_of_running hm, if_neg h0.ne', darkEnd_of_running hm h0]
  · rw [scanIndex_of_dark hs, darkIndex_of_running hm, if_pos h0]
  · simp only [scanIndex_of_dark hs, darkIndex, hm]
    rfl
  · simp only [scanIndex, hs]
    rfl
  · rcases h with hs | ⟨hs, hf⟩
    · simp only [scanIndex, hs]
      rfl
    · rw [scanIndex_of_capturing hs, shortLine_of_none hf]
  · unfold scanIndex
    cases hs : s.scan.state <;> simp [hs] at h ⊢
  · rw [scanIndex_of_capturing hs, shortLine_of_filling hf hr]

end Sys2Proof.ScanConversion

/-! The line ring and the modulator over a revolution (R105, R106, R110, R112 to R116, R135 to R137). -/

namespace Sys2Proof.LineRing
open Machine Laws ScanConversion

variable {s : State} {g i k line n : Nat} {ls : List Nat}

/-! ### The FULL slot of the lowest line number (R105) -/

theorem fullLine_eq_some_iff {x : Slot} : fullLine x = some n ↔ ∃ ls, x = .full n ls := by
  cases x <;> simp [fullLine]

/-- The line number in a slot of the ring, where the slot is FULL. -/
def fullAt (ring : Vector Slot 4) (i : Nat) : Option Nat := (ring[i]?).bind fullLine

theorem fullAt_eq_some_iff {ring : Vector Slot 4} : fullAt ring i = some n ↔
    ∃ ls, ring[i]? = some (.full n ls) := by
  simp only [fullAt, Option.bind_eq_some_iff, fullLine_eq_some_iff]
  exact ⟨fun ⟨_, hx, ls, h⟩ => ⟨ls, h ▸ hx⟩, fun ⟨ls, h⟩ => ⟨_, h, ls, rfl⟩⟩

/-- The lower of the slot found so far and the next one. -/
def lowerFull (ring : Vector Slot 4) (best : Option (Nat × Nat)) (i : Nat) : Option (Nat × Nat) :=
  match fullAt ring i, best with
  | some n, some (b, m) => if n < m then some (i, n) else some (b, m)
  | some n, none => some (i, n)
  | none, _ => best

theorem lowestFull_eq_foldl (ring : Vector Slot 4) :
    lowestFull ring = (slotIndices.foldl (lowerFull ring) none).map Prod.fst := rfl

theorem lowerFull_of_none {ring : Vector Slot 4} (h : fullAt ring i = none) (best : Option (Nat × Nat)) :
    lowerFull ring best i = best := by
  simp only [lowerFull, h]

/-- The lowest slot is taken over any slot above it. -/
theorem lowerFull_of_lowest {ring : Vector Slot 4} {best : Option (Nat × Nat)} (hi : fullAt ring i = some n)
    (hb : ∀ p, best = some p → n < p.2) : lowerFull ring best i = some (i, n) := by
  cases best with
  | none => simp only [lowerFull, hi]
  | some p => simp only [lowerFull, hi, if_pos (hb p rfl)]

/-- The lowest slot, once found, is kept. -/
theorem lowerFull_of_found {ring : Vector Slot 4} {j : Nat}
    (hj : ∀ m, fullAt ring j = some m → n ≤ m) : lowerFull ring (some (i, n)) j = some (i, n) := by
  cases h : fullAt ring j with
  | none => exact lowerFull_of_none h _
  | some m => simp only [lowerFull, h, if_neg (hj m h).not_gt]

/-- A slot above the lowest leaves what is found above the lowest. -/
theorem lt_of_lowerFull {ring : Vector Slot 4} {best : Option (Nat × Nat)} {j : Nat}
    (hj : ∀ m, fullAt ring j = some m → n < m) (hb : ∀ p, best = some p → n < p.2) :
    ∀ p, lowerFull ring best j = some p → n < p.2 := by
  cases h : fullAt ring j with
  | none => simpa only [lowerFull_of_none h] using hb
  | some m =>
    have hm : n < m := hj m h
    cases best with
    | none => simpa only [lowerFull, h, Option.some.injEq, forall_eq'] using hm
    | some q =>
      simp only [lowerFull, h]
      split
      · simpa only [Option.some.injEq, forall_eq'] using hm
      · exact hb

theorem foldl_lowerFull_of_found {ring : Vector Slot 4} {js : List Nat}
    (h : ∀ j ∈ js, ∀ m, fullAt ring j = some m → n ≤ m) :
    js.foldl (lowerFull ring) (some (i, n)) = some (i, n) := by
  induction js with
  | nil => rfl
  | cons j js ih =>
    obtain ⟨hj, hjs⟩ := List.forall_mem_cons.1 h
    rw [List.foldl_cons, lowerFull_of_found hj, ih hjs]

theorem foldl_lowerFull_of_mem {ring : Vector Slot 4} {js : List Nat} {best : Option (Nat × Nat)}
    (hi : fullAt ring i = some n) (hl : ∀ j m, fullAt ring j = some m → j ≠ i → n < m) (mem : i ∈ js)
    (hb : ∀ p, best = some p → n < p.2) : js.foldl (lowerFull ring) best = some (i, n) := by
  induction js generalizing best with
  | nil => simp at mem
  | cons j js ih =>
    rw [List.foldl_cons]
    by_cases hj : j = i
    · subst hj
      rw [lowerFull_of_lowest hi hb]
      refine foldl_lowerFull_of_found fun l _ m hm => ?_
      by_cases h : l = j
      · subst h
        exact (Option.some.inj (hi.symm.trans hm)).le
      · exact (hl l m hm h).le
    · exact ih ((List.mem_cons.1 mem).resolve_left (Ne.symm hj))
        (lt_of_lowerFull (fun m hm => hl j m hm hj) hb)

theorem lowestFull_eq {ring : Vector Slot 4} (h : ring[i]? = some (.full line ls))
    (hl : ∀ (j m : Nat) (ms : List Nat), ring[j]? = some (Slot.full m ms) → j ≠ i → line < m) :
    lowestFull ring = some i := by
  have mem : i ∈ slotIndices := List.mem_range.2 (Vector.getElem?_eq_some_iff.1 h).1
  have above : ∀ j m, fullAt ring j = some m → j ≠ i → line < m := by
    intro j m hm
    obtain ⟨ms, hj⟩ := fullAt_eq_some_iff.1 hm
    exact hl j m ms hj
  rw [lowestFull_eq_foldl, foldl_lowerFull_of_mem (fullAt_eq_some_iff.2 ⟨ls, h⟩) above mem (by simp)]
  rfl

theorem lowestFull_eq_none {ring : Vector Slot 4}
    (h : ∀ (i m : Nat) (ms : List Nat), ring[i]? ≠ some (Slot.full m ms)) : lowestFull ring = none := by
  have skipped : ∀ j, lowerFull ring none j = none := by
    refine fun j => lowerFull_of_none (Option.eq_none_iff_forall_ne_some.2 fun m hm => ?_) none
    obtain ⟨ms, hj⟩ := fullAt_eq_some_iff.1 hm
    exact h j m ms hj
  rw [lowestFull_eq_foldl, List.foldl_fixed' skipped]
  rfl

/-! ### The bridge tone (R106, R113, R116, R118) -/

theorem bridgeMode_eq (s : State) : bridgeMode s = { s with
    ring := s.ring.map slotHeld
    markGen := { s.markGen with step := .idle, symbols := [], completed := 0, left := 0 }
    modu := { s.modu with
      mode := .bridge, freq := some s.settings.bridgeHz
      increment := (s.settings.bridgeHz * 65536 + 9600) / 19200, sendingSlot := none, lead := false
      phasingCount := 0, phasingTarget := none } } := by
  rw [bridgeMode, unsend_eq]
  rfl

/-! ### Tones (R110, R112) -/

theorem modTone_eq (f : Nat) (s : State) : modTone f s = sounds f s := rfl

theorem spanFreq_of_none (e : Nat) (h : s.modu.sendingSlot = none) : spanFreq s e = s.settings.whiteHz := by
  simp only [spanFreq, sendingLevel, h, Option.bind_none]

theorem spanFreq_of_sending {e l : Nat} (hs : s.modu.sendingSlot = some i)
    (hr : s.ring[i]? = some (.sending line ls)) (hl : ls[e]? = some l) :
    spanFreq s e = levelFreq s.settings.blackHz s.settings.whiteHz l := by
  simp only [spanFreq, sendingLevel, hs, Option.bind_some, hr, hl]

/-! ### The decision at a span start (R114) -/

theorem spanDecision_of_lead (h : s.modu.lead = true) : spanDecision s = s := if_pos (.inl h)

theorem spanDecision_of_full (hd : s.modu.lead = false)
    (hc : s.modu.linesCopy.getD 0 < s.modu.lineCount.getD 0) (hr : s.ring[i]? = some (.full line ls))
    (hl : lowestFull s.ring = some i) : spanDecision s = { s with
      ring := s.ring.setIfInBounds i (.sending line ls)
      modu := { s.modu with sendingSlot := some i } } := by
  rw [spanDecision, if_neg (by simp [hd, hc]), hl]
  simp only [hr]
  rfl

theorem spanDecision_of_fill (hd : s.modu.lead = false)
    (hc : s.modu.linesCopy.getD 0 < s.modu.lineCount.getD 0) (hl : lowestFull s.ring = none) :
    spanDecision s = noteEvent .fill s := by
  rw [spanDecision, if_neg (by simp [hd, hc]), hl]

/-- A note is written in the leg of the call, in the job table alone (R14). -/
theorem noteEvent_writes_jobs (x : NoteKind) (s : State) :
    noteEvent x s = { s with jobs := (noteEvent x s).jobs } := by
  unfold noteEvent modActive State.modLeg
  split
  next => split <;> rfl
  next => rfl

theorem noteEvent_modu (x : NoteKind) (s : State) : (noteEvent x s).modu = s.modu := by
  rw [noteEvent_writes_jobs]

theorem noteEvent_settings (x : NoteKind) (s : State) : (noteEvent x s).settings = s.settings := by
  rw [noteEvent_writes_jobs]

/-! ### Positions (R112) -/

theorem modPosition_of_phasing (hg : s.posTimer.gap = some g) (hm : s.modu.mode = .phasing) :
    modPosition k s = sounds (if k < g then s.settings.blackHz else s.settings.whiteHz) s := by
  simp only [modPosition, hm, hg, Option.getD_some, modTone_eq]

theorem modPosition_of_gap (hg : s.posTimer.gap = some g) (hm : s.modu.mode = .picture) (hk : k < g) :
    modPosition k s = sounds s.settings.blackHz s := by
  simp only [modPosition, hm, hg, Option.getD_some, if_pos hk, modTone_eq]

theorem modPosition_of_spanStart (hg : s.posTimer.gap = some g) (hm : s.modu.mode = .picture) (hk : k = g) :
    modPosition k s = sounds (spanFreq (spanDecision s) 0) (spanDecision s) := by
  simp only [modPosition, hm, hg, Option.getD_some, hk, lt_irrefl, if_false, if_true, Nat.sub_self, modTone_eq]

theorem modPosition_of_span (hg : s.posTimer.gap = some g) (hm : s.modu.mode = .picture) (hk : g < k) :
    modPosition k s = sounds (spanFreq s (k - g)) s := by
  simp only [modPosition, hm, hg, Option.getD_some, if_neg hk.not_gt, if_neg hk.ne', modTone_eq]

theorem modPosition_of_other (hm : s.modu.mode ∉ [.phasing, .picture]) : modPosition k s = s := by
  unfold modPosition
  cases h : s.modu.mode <;> simp [h] at hm ⊢

/-- The FULL slot of the lowest line number is sent, its first level sounding at once (R105, R110, R114). -/
theorem modPosition_of_full {l : Nat} (hg : s.posTimer.gap = some g) (hm : s.modu.mode = .picture) (hk : k = g)
    (hd : s.modu.lead = false) (hc : s.modu.linesCopy.getD 0 < s.modu.lineCount.getD 0)
    (hr : s.ring[i]? = some (.full line ls))
    (hl : ∀ (j m : Nat) (ms : List Nat), s.ring[j]? = some (Slot.full m ms) → j ≠ i → line < m)
    (h0 : ls[0]? = some l) : modPosition k s = sounds (levelFreq s.settings.blackHz s.settings.whiteHz l) { s with
      ring := s.ring.setIfInBounds i (.sending line ls)
      modu := { s.modu with sendingSlot := some i } } := by
  have hi : i < 4 := (Vector.getElem?_eq_some_iff.1 hr).1
  rw [modPosition_of_spanStart hg hm hk, spanDecision_of_full hd hc hr (lowestFull_eq hr hl),
    spanFreq_of_sending rfl (Vector.getElem?_setIfInBounds_self_of_lt hi) h0]

/-- With no slot FULL a fill line is sent, and noted (R114). -/
theorem modPosition_of_fill (hg : s.posTimer.gap = some g) (hm : s.modu.mode = .picture) (hk : k = g)
    (hd : s.modu.lead = false) (hs : s.modu.sendingSlot = none)
    (hc : s.modu.linesCopy.getD 0 < s.modu.lineCount.getD 0)
    (hl : ∀ (i m : Nat) (ms : List Nat), s.ring[i]? ≠ some (Slot.full m ms)) :
    modPosition k s = sounds s.settings.whiteHz (noteEvent .fill s) := by
  rw [modPosition_of_spanStart hg hm hk, spanDecision_of_fill hd hc (lowestFull_eq_none hl),
    spanFreq_of_none 0 ((noteEvent_modu .fill s).symm ▸ hs), noteEvent_settings]

/-! ### The span end, the revolution start and the end of a send (R112, R114, R115) -/

theorem endSend_of_none (h : s.modu.sendingSlot = none) : endSend s = s := by
  simp only [endSend, h]

theorem endSend_of_sending (h : s.modu.sendingSlot = some i) : endSend s =
    let n := s.modu.linesCopy.getD 0 + 1
    let t := lineSentEvent { s with
      ring := s.ring.setIfInBounds i .free
      modu := { s.modu with sendingSlot := none, linesCopy := some n } }
    if s.modu.lineCount = some n then linePictureComplete t else t := by
  simp only [endSend, h, eq_comm (a := some _)]
  rfl

theorem modSpanEnd_of_phasing (h : s.modu.mode = .phasing) :
    modSpanEnd s = sounds s.settings.blackHz s := by
  simp only [modSpanEnd, h, modTone_eq]

theorem modSpanEnd_of_picture (h : s.modu.mode = .picture) : modSpanEnd s =
    endSend (sounds s.settings.blackHz { s with modu := { s.modu with lead := false } }) := by
  unfold modSpanEnd
  split
  next hp => simp [h] at hp
  next => rfl
  next other => exact absurd h other

theorem modSpanEnd_of_other (hm : s.modu.mode ∉ [.phasing, .picture]) : modSpanEnd s = s := by
  unfold modSpanEnd
  cases h : s.modu.mode <;> simp [h] at hm ⊢

/-! ### The line unit's part (R135 to R137) -/

theorem linePhasingComplete_of_phasing (hs : s.line.state = .phasing) (hc : s.line.closing = none) :
    linePhasingComplete s =
      let t := lineBecomes .picture s
      scanPicture { t with line := { t.line with pictureReached := true } } := by
  rw [linePhasingComplete, if_pos ⟨hs, hc⟩, enterLine_eq]
  rfl

theorem linePictureComplete_of_picture (hs : s.line.state = .picture) (hc : s.line.closing = none) :
    linePictureComplete s = (scanFinished (stopMode (lineBecomes .stop s))).startLimit .stopTime
      (1000000 * s.settings.stopTime) := by
  rw [linePictureComplete, if_pos ⟨hs, hc⟩, enterLine_eq, sec_eq]

theorem lineDrumLocked_iff (s : State) : lineDrumLocked s = true ↔
    s.drum.state = .locked ∧ s.drum.target ≠ none ∧ s.drum.target = s.line.jobSpeed := by
  unfold lineDrumLocked
  cases hj : s.line.jobSpeed with
  | none => simp
  | some v =>
    simp only [Drum.lockedAt, Bool.and_eq_true, beq_iff_eq]
    exact and_congr_right fun _ => ⟨fun h => ⟨by simp [h], h⟩, And.right⟩

theorem lineBecomes_settings (st : LineState) (s : State) : (lineBecomes st s).settings = s.settings := by
  rw [← enterLine_eq]
  exact (enterLine_kept st (Kept.refl s)).settings

theorem phasingMode_lineBecomes (target : Nat) (s : State) : phasingMode target (lineBecomes .phasing s) =
    let t := lineBecomes .phasing s
    { t with modu := { t.modu with
      mode := .phasing, freq := some s.settings.blackHz
      increment := (s.settings.blackHz * 65536 + 9600) / 19200, phasingCount := 0
      phasingTarget := some target } } := by
  rw [phasingMode, lineBecomes_settings]
  rfl

theorem lineIndex_of_blackHold (hs : s.line.state = .mark) (hc : s.line.closing = none)
    (hm : s.modu.mode = .blackHold) (hd : lineDrumLocked s = true) : lineIndex s =
      phasingMode (if s.line.pictureReached then s.settings.resumeRevs else s.settings.phasingRevs)
        (lineBecomes .phasing s) := by
  rw [lineIndex, if_pos ⟨hs, hc, hm, hd⟩, enterLine_eq]

theorem lineIndex_of_other (h : s.line.state ≠ .mark ∨ s.line.closing ≠ none ∨ s.modu.mode ≠ .blackHold ∨
    s.drum.state ≠ .locked ∨ s.drum.target = none ∨ s.drum.target ≠ s.line.jobSpeed) : lineIndex s = s := by
  refine if_neg fun ⟨hs, hc, hm, hd⟩ => ?_
  obtain ⟨hl, ht, hj⟩ := (lineDrumLocked_iff s).1 hd
  rcases h with h | h | h | h | h | h
  exacts [h hs, h hc, h hm, h hl, ht h, h hj]

/-- Settles O53: a position by the modulator's mode and its part of the revolution, with `lowestFull_eq` for the
slot sent; the reports by the mode and by the line state. -/
theorem theModulatorFollowsTheRevolution : Obligations.TheModulatorFollowsTheRevolution := by
  refine ⟨fun s => ⟨bridgeMode_eq s, stopMode_eq s⟩,
    fun s k g hg => ⟨modPosition_of_phasing hg, modPosition_of_gap hg, modPosition_of_other,
      fun i line ls l hm hk hs hr hl => ?_, fun hm hk hs => ?_, fun hm hk hd hs => ?_,
      fun i line ls l hm hk hd hc hr hl h0 => modPosition_of_full hg hm hk hd hc hr hl h0,
      fun hm hk hd hs hc hl => modPosition_of_fill hg hm hk hd hs hc hl⟩,
    fun s => ⟨modSpanEnd_of_phasing, fun hm => ⟨modSpanEnd_of_picture hm, if_pos hm⟩, modSpanEnd_of_other,
      fun hm => if_neg hm, endSend_of_none, fun i hi => endSend_of_sending hi⟩,
    fun s => rfl,
    fun s => ⟨linePhasingComplete_of_phasing, fun h => if_neg fun ⟨hs, hc⟩ => h.elim (· hs) (· hc),
      linePictureComplete_of_picture, fun h => if_neg fun ⟨hs, hc⟩ => h.elim (· hs) (· hc),
      lineIndex_of_other, fun hs hc hm hl ht hj => ?_⟩⟩
  · rw [modPosition_of_span hg hm hk, spanFreq_of_sending hs hr hl]
  · rw [modPosition_of_span hg hm hk, spanFreq_of_none _ hs]
  · rw [modPosition_of_spanStart hg hm hk, spanDecision_of_lead hd, spanFreq_of_none 0 hs]
  · rw [lineIndex_of_blackHold hs hc hm ((lineDrumLocked_iff s).2 ⟨hl, ht, hj⟩), phasingMode_lineBecomes]

end Sys2Proof.LineRing

/-! The mark and the updates of the line DAC (R109, R117, R118). -/

namespace Sys2Proof.LineRing
open Machine Laws

variable {s t : State} {dt : Nat} {k : KeySym}

/-! ### The sine table (R109) -/

theorem sineTable_first_quarter : sineTable.take 65 =
    [128, 131, 134, 137, 140, 144, 147, 150, 153, 156, 159, 162, 165, 168, 171, 174, 177, 179, 182, 185, 188, 191,
    193, 196, 199, 201, 204, 206, 209, 211, 213, 216, 218, 220, 222, 224, 226, 228, 230, 232, 234, 235, 237, 239,
    240, 241, 243, 244, 245, 246, 248, 249, 250, 250, 251, 252, 253, 253, 254, 254, 254, 255, 255, 255, 255] := rfl

theorem sineTable_length : sineTable.length = 256 := by
  rw [sineTable, List.length_append, List.length_append, List.length_append]
  rfl

theorem sineTable_second_quarter : ∀ k, k ≤ 64 → sineTable.getD (128 - k) 0 = sineTable.getD k 0 := by decide

theorem sineTable_third_quarter : ∀ k, k < 64 → sineTable.getD (128 + k) 0 + sineTable.getD k 0 = 256 := by decide

theorem sineTable_fourth_quarter :
    ∀ k, k < 64 → sineTable.getD (128 + (64 + k)) 0 + sineTable.getD (64 + k) 0 = 256 := by decide

theorem sineTable_second_half {k : Nat} (h : k < 128) : sineTable.getD (128 + k) 0 + sineTable.getD k 0 = 256 := by
  rcases Nat.lt_or_ge k 64 with hk | hk
  · exact sineTable_third_quarter k hk
  · obtain ⟨j, rfl⟩ := Nat.exists_eq_add_of_le hk
    exact sineTable_fourth_quarter j (by omega)

/-! ### A mark and its symbols (R117, R118) -/

theorem startPair_eq (k : KeySym) (s : State) : startPair k s = pairSounds k s := rfl

theorem markTone_of_symbol (h : s.markGen.symbols[s.markGen.completed]? = some k) : markTone s =
    let u := pairSounds k s
    { u with markGen := { u.markGen with step := .tone, left := 1000 * s.settings.toneOn } } := by
  simp only [markTone, h, startPair_eq, msec_eq]
  rfl

theorem startMark_eq (s : State) : startMark s =
    let t := pairSounds .star s
    { t with markGen := { t.markGen with
      symbols := markSymbols s.settings.stationCode (s.modu.linesCopy.getD 0)
      completed := 0, step := .tone, left := 1000 * s.settings.toneOn } } := by
  rw [startMark, markTone_of_symbol (k := .star) rfl]
  rfl

theorem markSilence_eq (t : State) : markSilence t = { t with
    modu := t.modu.silence
    markGen := { t.markGen with step := .silence, left := 1000 * t.settings.toneOff } } := by
  rw [← msec_eq]
  rfl

theorem markNext_of_symbol (h : t.markGen.symbols[t.markGen.completed + 1]? = some k) : markNext t =
    let u := pairSounds k t
    { u with markGen := { u.markGen with
      completed := t.markGen.completed + 1, step := .tone, left := 1000 * t.settings.toneOn } } := by
  have more : t.markGen.completed + 1 < t.markGen.symbols.length := (List.getElem?_eq_some_iff.1 h).1
  refine (if_pos more).trans ?_
  rw [markTone_of_symbol (k := k) h]
  rfl

theorem markNext_of_last (h : t.markGen.symbols.length ≤ t.markGen.completed + 1) : markNext t = { t with
    markGen := { t.markGen with step := .idle, symbols := [], completed := 0, left := 0 }
    modu := { t.modu with
      mode := .blackHold, freq := some t.settings.blackHz
      increment := (t.settings.blackHz * 65536 + 9600) / 19200 } } :=
  if_neg h.not_gt

/-! ### MARK_STEP_END (R118) -/

theorem exec_markStepEnd (dt : Nat) (s : State) : exec (.markStepEnd dt) s = execMarkStepEnd dt s := rfl

theorem exec_markStepEnd_of_not (h : (elapse dt s).markGen.left ≠ 0 ∨ (elapse dt s).markGen.step = .idle) :
    exec (.markStepEnd dt) s = .next (elapse dt s) := by
  rw [exec_markStepEnd]
  by_cases hl : (elapse dt s).markGen.left = 0
  · simp only [execMarkStepEnd, timed, hl, h.resolve_left (· hl), ne_eq, not_true, if_false]
  · simp only [execMarkStepEnd, timed, if_pos hl]

theorem exec_markStepEnd_of_tone (hl : (elapse dt s).markGen.left = 0) (hs : (elapse dt s).markGen.step = .tone) :
    exec (.markStepEnd dt) s = .next (markSilence (elapse dt s)) := by
  simp only [exec_markStepEnd, execMarkStepEnd, timed, hl, hs, ne_eq, not_true, if_false]

theorem exec_markStepEnd_of_silence (hl : (elapse dt s).markGen.left = 0)
    (hs : (elapse dt s).markGen.step = .silence) :
    exec (.markStepEnd dt) s = .next (markNext (elapse dt s)) := by
  simp only [exec_markStepEnd, execMarkStepEnd, timed, hl, hs, ne_eq, not_true, if_false]

/-! ### PHASE_UPDATE (R109, R117) -/

theorem exec_phaseUpdate (dt : Nat) (s : State) : exec (.phaseUpdate dt) s = .next (
    if 0 < (elapse dt s).aux.tonesDue then
      updateDac ((elapse dt s).setAux { (elapse dt s).aux with tonesDue := (elapse dt s).aux.tonesDue - 1 })
    else elapse dt s) := rfl

theorem updateDac_of_silent (h : s.modu.mode = .silent) : updateDac s = s := by
  simp only [updateDac, h]

theorem updateDac_of_pair (h : s.modu.mode = .pair) : updateDac s =
    let row := advance s.markGen.rowAcc s.markGen.rowInc
    let col := advance s.markGen.colAcc s.markGen.colInc
    { s with
      markGen := { s.markGen with rowAcc := row, colAcc := col }
      modu := { s.modu with dac := (sineOf row + sineOf col) / 2 } } := by
  simp only [updateDac, h]
  rfl

theorem updateDac_of_tone (h : s.modu.mode ∉ [.silent, .pair]) : updateDac s =
    let acc := advance s.modu.acc s.modu.increment
    { s with modu := { s.modu with acc := acc, dac := sineOf acc } } := by
  unfold updateDac
  split
  next hm => simp [hm] at h
  next hm => simp [hm] at h
  next => rfl

/-- Settles O56: the table entry by entry, the mark by its step and the symbols left, an update by the mode. -/
theorem theMarkIsSentAndTheDacUpdated : Obligations.TheMarkIsSentAndTheDacUpdated := by
  refine ⟨⟨sineTable_first_quarter, sineTable_length, sineTable_second_quarter,
      fun _ => sineTable_second_half⟩, startMark_eq,
    fun dt s => ⟨exec_markStepEnd_of_not, fun hl hs => ?_, fun k hl hs hk => ?_, fun hl hs hn => ?_⟩,
    fun dt s => ⟨fun h0 => ?_, fun h0 => ⟨fun hm => ?_, fun hm => ?_, fun hm => ?_⟩⟩⟩
  · rw [exec_markStepEnd_of_tone hl hs, markSilence_eq]
  · rw [exec_markStepEnd_of_silence hl hs, markNext_of_symbol hk]
  · rw [exec_markStepEnd_of_silence hl hs, markNext_of_last hn]
  · rw [exec_phaseUpdate, if_neg h0.not_gt]
  · rw [exec_phaseUpdate, if_pos h0, updateDac_of_silent (by exact hm)]
    rfl
  · rw [exec_phaseUpdate, if_pos h0, updateDac_of_pair (by exact hm)]
    rfl
  · rw [exec_phaseUpdate, if_pos h0, updateDac_of_tone (by exact hm)]
    rfl

end Sys2Proof.LineRing

/-! What a command does between the passing of its time, or the taking of its request, and its end; and from
it the ATTN lines and the line's outputs, kept by every step (R122, R181). -/

namespace Sys2Proof.Calls
open Machine Laws Directory
open PictureJobs (hookClosed_eq_false_iff machineReset_eq lineReset_of_open lineReset_of_closed)

/-! ### What surrounds a command's own work -/

/-- A command does nothing, does its own work once its time has passed, or has its block serve the request
between its taking and its reply; `R` is what that work does to the state (R173, R174). -/
inductive Ran (R : State → State → Prop) (s : State) : State → Prop where
  | idle : Ran R s s
  | timed (dt : Nat) {t : State} (h : R (elapse dt s) t) : Ran R s t
  | served (lk : Link) (r : Reply) {t : State} (h : R (takeRequest lk s) t) : Ran R s (placeReply lk r t)

section
variable {R S : State → State → Prop} {s t : State} {dt : Nat} {lk : Link} {b : Byte} {c : Code}
  {serve : Serve} {f : State → State}

theorem Ran.mono (h : Ran R s t) (hRS : ∀ {u v}, R u v → S u v) : Ran S s t := by
  cases h with
  | idle => exact .idle
  | timed dt h => exact .timed dt (hRS h)
  | served lk r h => exact .served lk r (hRS h)

theorem ran_of_timed (hf : ∀ u, R u (f u)) (h : timed dt f s = .next t) : Ran R s t := by
  obtain rfl := Host.Outcome.next.inj h
  exact .timed dt (hf _)

/-- A request's block is asked only once the link's checks have let the frame pass (R174). -/
theorem ran_of_request (hR : ∀ u, R u u) (hs : ∀ args u, R u (serve args u).2)
    (h : request c lk b serve s = .next t) : Ran R s t := by
  unfold request at h
  split at h
  next f _ =>
    split at h
    · obtain rfl := Host.Outcome.next.inj h
      unfold answer
      dsimp only
      split
      · exact .served lk _ (hR _)
      · exact .served lk _ (hs _ _)
    · obtain rfl := Host.Outcome.next.inj h
      exact .idle
  · obtain rfl := Host.Outcome.next.inj h
    exact .idle

theorem ran_of_served (hs : ∀ args u, Kept u (serve args u).2) (h : request c lk b serve s = .next t) :
    Ran Kept s t := ran_of_request Kept.refl hs h

theorem ran_of_unknownRequest (h : exec (.unknownRequest lk b) s = .next t) : Ran Kept s t := by
  change execUnknownRequest lk b s = .next t at h
  unfold execUnknownRequest at h
  (repeat' split at h) <;> obtain rfl := Host.Outcome.next.inj h
  · exact .served lk _ (Kept.refl _)
  · exact .idle
  · exact .idle

/-! ### The commands of the blocks -/

/-- The commands that write what the blocks' operations leave alone: the links' bytes, the directory, the store,
the clock, attention and modes, and the resets (R27, R172, R179, R182 to R184, R188, R193 to R195). -/
def writesStill : Instr → Bool
  | .selectStart _ _ _ | .selectRelease _ _ _ | .replyRead _ _ | .byteClock _ _ _ => true
  | .writeRoute _ _ | .eraseRoute _ _ | .writeSetting _ _ | .writeCurve _ _ => true
  | .setClock _ _ | .clockSecond _ | .readAttn _ _ | .setAttn _ _ | .setModes _ _ => true
  | .machineReset _ _ | .powerOnReset _ _ _ _ _ => true
  | _ => false

/-- Every other command works by the blocks' shared operations, of which `Kept` says what they keep. -/
theorem exec_ran_kept {i : Instr} (hi : writesStill i = false) (h : exec i s = .next t) : Ran Kept s t := by
  cases i with
  | unknownRequest lk b => exact ran_of_unknownRequest h
  | openJob lk b => exact ran_of_served (serveOpenJob_kept lk) h
  | addLeg lk b => exact ran_of_served (serveAddLeg_kept lk) h
  | commitJob lk b => exact ran_of_served (serveCommitJob_kept lk) h
  | cancelJob lk b => exact ran_of_served (serveCancelJob_kept lk) h
  | clearJob lk b => exact ran_of_served (serveClearJob_kept lk) h
  | setPriority lk b => exact ran_of_served serveSetPriority_kept h
  | mount lk b => exact ran_of_served serveMount_kept h
  | unmount lk b => exact ran_of_served serveUnmount_kept h
  | skipLeg lk b => exact ran_of_served serveSkipLeg_kept h
  | talk lk b => exact ran_of_served serveTalk_kept h
  | endTalk lk b => exact ran_of_served serveEndTalk_kept h
  | drumRun lk b => exact ran_of_served serveDrumRun_kept h
  | drumStop lk b => exact ran_of_served serveDrumStop_kept h
  | holdQueue lk b => exact ran_of_served (fun _ u => holdQueue_kept .operator (Kept.refl u)) h
  | releaseQueue lk b => exact ran_of_served (fun _ u => releaseHold_kept (Kept.refl u)) h
  | collectSlip lk b => exact ran_of_served serveCollectSlip_kept h
  | reprintSlip lk b => exact ran_of_served serveReprintSlip_kept h
  | setCollection lk b => exact ran_of_served serveSetCollection_kept h
  | readJob lk b => exact ran_of_served serveReadJob_kept h
  | readLeg lk b => exact ran_of_served serveReadLeg_kept h
  | readRoute lk b => exact ran_of_served serveReadRoute_kept h
  | readSetting lk b => exact ran_of_served serveReadSetting_kept h
  | readQueue lk b | readLine lk b | readDrum lk b | readSlipState lk b | readCurve lk b | readClock lk b
  | identify lk b => exact ran_of_served (fun _ u => Kept.refl u) h
  | spanEnd dt | spinupLimitExpiry dt | brakingStillness dt | idleStop dt | coverOpen dt | homingFailure dt
  | scanStepEnd dt home | phaseUpdate dt | toneOnEnd dt | toneOffEnd dt | breakEnd dt | interdigitEnd dt
  | pauseEnd dt | flashEnd dt | seizeWindowEnd dt loop | readyEvent dt freq held | answerTimeoutExpiry dt
  | prepareLimitExpiry dt | bridgeLimitExpiry dt | stopTimeExpiry dt | answerbackWindowExpiry dt
  | answerbackDeadline dt | loopLost dt | guardTimeExpiry dt | paperOutClears dt | busyLowInFault dt =>
    -- An event that is due is a shared operation; one that is not brings at most a pin's level (log 3, 23).
    obtain rfl := Host.Outcome.next.inj h
    refine .timed dt ?_
    generalize elapse dt s = u
    dsimp only
    split <;> simp
  | positionStart dt sample | headStep dt home | markStepEnd dt | makeEnd dt
  | symbolDetected dt rowHz colHz held gap | printCharacter dt paperOut busy =>
    obtain rfl := Host.Outcome.next.inj h
    refine .timed dt ?_
    generalize elapse dt s = u
    dsimp only
    (repeat' split) <;> simp
  | index dt sample drumFirst =>
    obtain rfl := Host.Outcome.next.inj h
    exact .timed dt (takeIndex_kept sample drumFirst (Kept.refl _))
  | encoderPulse dt sample =>
    obtain rfl := Host.Outcome.next.inj h
    exact .timed dt (takePulse_kept sample (Kept.refl _))
  | indexTimeout dt =>
    refine ran_of_timed (fun u => ?_) (show execIndexTimeout dt s = .next t from h)
    split
    next hd => exact drumLost_kept (Kept.refl u) (tracking_running _ hd.1)
    next => exact Kept.refl u
  | coverClose dt =>
    obtain rfl := Host.Outcome.next.inj h
    exact .timed dt (setDrum_kept _ (Kept.refl _) fun _ k => k)
  | busyTimeout dt =>
    refine ran_of_timed (fun u => ?_) (show execBusyTimeout dt s = .next t from h)
    split
    · exact causePrinter_kept (setSlips_kept _ (setPins_kept _ (Kept.refl u)))
    · exact Kept.refl u
  | lampFrame dt paperOut =>
    refine ran_of_timed (fun u => ?_) (show execLampFrame dt paperOut s = .next t from h)
    split
    · exact setPins_kept _ (setAux_kept _ (setPins_kept _ (Kept.refl u)))
    · exact Kept.refl u
  | loopSenseChange dt present =>
    obtain rfl := Host.Outcome.next.inj h
    exact .timed dt (changeSense_kept present (Kept.refl _))
  | _ => cases hi

end

/-! ### The ATTN lines and the line's outputs (R122, R181) -/

/-- Both ATTN lines stay right, and the line's outputs do. -/
structure OutputsKept (s t : State) : Prop where
  attn : AttnApplied s → AttnApplied t
  line : LineOutputs s → LineOutputs t

/-- What those relations speak of. -/
def outputs (s : State) : Attn × Attn × LineRec := (s.deskAttn, s.panelAttn, s.line)

section
variable {s t u : State} {lk : Link} {b : Byte}

theorem outputsKept_of_kept (h : Kept s t) : OutputsKept s t := ⟨h.attn, h.line⟩

theorem OutputsKept.refl (s : State) : OutputsKept s s := ⟨id, id⟩

theorem OutputsKept.trans (h : OutputsKept s t) (g : OutputsKept t u) : OutputsKept s u :=
  ⟨g.attn ∘ h.attn, g.line ∘ h.line⟩

theorem outputsKept_of_outputs (h : outputs t = outputs s) : OutputsKept s t := by
  simp only [outputs, Prod.mk.injEq] at h
  obtain ⟨desk, panel, line⟩ := h
  exact ⟨by unfold AttnApplied; rw [desk, panel]; exact id, by unfold LineOutputs; rw [line]; exact id⟩

theorem setLink_outputsKept (lk : Link) (r : LinkRec) (s : State) : OutputsKept s (s.setLink lk r) :=
  outputsKept_of_outputs (by cases lk <;> rfl)

/-- Passing time runs the state timer and the loop monitor alone of the line's record (R121, R127). -/
theorem elapse_outputsKept (dt : Nat) (s : State) : OutputsKept s (elapse dt s) := by
  constructor
  · unfold AttnApplied
    rw [DrumDrive.elapse_frame]
    exact id
  · unfold LineOutputs
    rw [DrumDrive.elapse_line]
    exact id

theorem takeRequest_outputsKept (lk : Link) (s : State) : OutputsKept s (takeRequest lk s) :=
  setLink_outputsKept lk _ s

theorem placeReply_outputsKept (lk : Link) (r : Reply) (s : State) : OutputsKept s (placeReply lk r s) :=
  setLink_outputsKept lk _ s

/-- Neither passing time nor a link's record touches the outputs. -/
theorem Ran.outputsKept (h : Ran OutputsKept s t) : OutputsKept s t := by
  cases h with
  | idle => exact .refl s
  | timed dt h => exact (elapse_outputsKept dt s).trans h
  | served lk r h =>
    exact (takeRequest_outputsKept lk s).trans (h.trans (placeReply_outputsKept lk r _))

theorem timed_outputsKept {dt : Nat} {f : State → State} (hf : ∀ u, OutputsKept u (f u))
    (h : timed dt f s = .next t) : OutputsKept s t := (ran_of_timed hf h).outputsKept

theorem request_outputsKept {c : Code} {serve : Serve} (hs : ∀ args u, OutputsKept u (serve args u).2)
    (h : request c lk b serve s = .next t) : OutputsKept s t := (ran_of_request .refl hs h).outputsKept

/-! ### The commands beside the blocks: links, directory, store, clock, attention, modes and resets -/

/-- Only the link's own record is written. -/
def WritesLink (lk : Link) (s t : State) : Prop := ∃ r, t = s.setLink lk r

theorem WritesLink.outputsKept (h : WritesLink lk s t) : OutputsKept s t := by
  obtain ⟨r, rfl⟩ := h
  exact setLink_outputsKept lk r s

theorem WritesLink.same (lk : Link) (s : State) : WritesLink lk s s := ⟨s.link lk, by cases lk <;> rfl⟩

theorem WritesLink.set (lk : Link) (r : LinkRec) (s : State) : WritesLink lk s (s.setLink lk r) := ⟨r, rfl⟩

theorem beginSelect_writesLink (lk : Link) (b : Byte) (s : State) : WritesLink lk s (beginSelect lk b s) := by
  unfold beginSelect
  dsimp only
  split
  · exact .same lk s
  · split <;> exact .set lk _ s

theorem endSelect_writesLink (lk : Link) (part : Bool) (s : State) : WritesLink lk s (endSelect lk part s) := by
  unfold endSelect
  dsimp only
  split
  · exact .same lk s
  · split <;> exact .set lk _ s

theorem readReply_writesLink (lk : Link) (s : State) : WritesLink lk s (readReply lk s) := by
  unfold readReply
  dsimp only
  split
  · split
    · exact .set lk _ s
    · exact .same lk s
  · exact .same lk s

theorem sendByte_writesLink (lk : Link) (s : State) : WritesLink lk s (sendByte lk s) := by
  unfold sendByte
  dsimp only
  split
  · exact .set lk _ s
  · exact .set lk _ s
  · split
    · exact .set lk _ s
    · exact .same lk s

theorem receiveByte_writesLink (lk : Link) (r : ReqBuf) (b : Byte) (s : State) :
    WritesLink lk s (receiveByte lk r b s) := by
  unfold receiveByte
  split
  · exact .same lk s
  · exact .set lk _ s

theorem clockByte_writesLink (lk : Link) (b : Byte) (s : State) : WritesLink lk s (clockByte lk b s) := by
  unfold clockByte
  split
  · exact .same lk s
  · exact sendByte_writesLink lk s
  · split
    · exact receiveByte_writesLink lk _ b s
    · exact sendByte_writesLink lk s

/-- A field beside the outputs is written, and then the blocks' operations run. -/
theorem outputsKept_of_kept_outputs (k : Kept t u) (h : outputs t = outputs s) : OutputsKept s u :=
  (outputsKept_of_outputs h).trans (outputsKept_of_kept k)

theorem serveWriteRoute_outputsKept (args : List Byte) (u : State) :
    OutputsKept u (serveWriteRoute args u).2 := by
  obtain ⟨x, hx⟩ := serveWriteRoute_writes args u
  exact outputsKept_of_outputs (by rw [hx]; rfl)

theorem serveEraseRoute_outputsKept (args : List Byte) (u : State) :
    OutputsKept u (serveEraseRoute args u).2 := by
  obtain ⟨x, hx⟩ := serveEraseRoute_writes args u
  exact outputsKept_of_outputs (by rw [hx]; rfl)

theorem serveWriteSetting_outputsKept (args : List Byte) (u : State) :
    OutputsKept u (serveWriteSetting args u).2 := by
  obtain ⟨x, d, hx⟩ := serveWriteSetting_writes args u
  exact outputsKept_of_outputs (by rw [hx]; rfl)

theorem serveWriteCurve_outputsKept (args : List Byte) (u : State) :
    OutputsKept u (serveWriteCurve args u).2 := by
  obtain ⟨x, hx⟩ := serveWriteCurve_writes args u
  exact outputsKept_of_outputs (by rw [hx]; rfl)

theorem serveSetClock_outputsKept (args : List Byte) (u : State) : OutputsKept u (serveSetClock args u).2 := by
  unfold serveSetClock
  split
  · split
    · exact .refl u
    · exact outputsKept_of_kept_outputs (compareRetries_kept (Kept.refl _)) rfl
  · exact .refl u

theorem clockTick_outputs (s : State) : outputs (clockTick s) = outputs s := by
  unfold clockTick; split <;> rfl

theorem serveSetModes_outputsKept (args : List Byte) (u : State) : OutputsKept u (serveSetModes args u).2 := by
  unfold serveSetModes
  split
  · split
    next x y _ _ =>
      change OutputsKept u (changeModes x y u)
      unfold changeModes
      split
      · exact outputsKept_of_outputs rfl
      · exact outputsKept_of_kept_outputs (clearLegEnd_kept (Kept.refl _)) rfl
    · exact .refl u
  · exact .refl u

/-- A link's attention whose ATTN has been applied is written (R181). -/
theorem setAttn_outputsKept {a : Attn} (lk : Link) (s : State) (ha : attnRight a) :
    OutputsKept s (s.setAttn lk a) := by
  cases lk with
  | desk => exact ⟨fun ⟨_, panel⟩ => ⟨ha, panel⟩, id⟩
  | panel => exact ⟨fun ⟨desk, _⟩ => ⟨desk, ha⟩, id⟩

theorem refresh_right (a : Attn) : attnRight a.refresh := rfl

theorem cleared_right (a : Attn) : attnRight a.cleared := refresh_right _

theorem readAttention_outputsKept (lk : Link) (u : State) : OutputsKept u (readAttention lk u) := by
  have cleared := setAttn_outputsKept lk u (cleared_right (u.attn lk))
  cases lk with
  | desk => exact cleared
  | panel => exact cleared.trans (outputsKept_of_kept (clearLegEnd_kept (Kept.refl _)))

theorem serveSetAttn_outputsKept (lk : Link) (args : List Byte) (u : State) :
    OutputsKept u (serveSetAttn lk args u).2 := by
  unfold serveSetAttn
  split
  · split
    · exact .refl u
    · split
      · exact .refl u
      · exact setAttn_outputsKept lk u (refresh_right _)
  · exact .refl u

/-- The line at machine reset is in IDLE or GUARD, its hook open, its relay off and its detector off (R151). -/
theorem lineReset_right (s : State) : lineRight (lineReset s).line := by
  cases hook : s.line.state.hookClosed with
  | false =>
    rw [lineReset_of_open hook]
    rcases (hookClosed_eq_false_iff _).1 hook with h | h
    · rw [h]; exact ⟨rfl, rfl, rfl⟩
    · rw [h]; exact ⟨rfl, rfl, rfl⟩
  | true =>
    rw [lineReset_of_closed hook]
    exact ⟨rfl, rfl, rfl⟩

theorem machineReset_outputsKept (u : State) : OutputsKept u (machineReset u) := by
  rw [machineReset_eq]
  exact ⟨fun _ => ⟨cleared_right _, cleared_right _⟩, fun _ => lineReset_right u⟩

theorem powerOnReset_outputsKept {coverOpen home loop paperOut busy : Bool}
    (h : exec (.powerOnReset coverOpen home loop paperOut busy) s = .next t) : OutputsKept s t := by
  obtain rfl := Host.Outcome.next.inj h
  exact ⟨fun _ => ⟨rfl, rfl⟩, fun _ => ⟨rfl, rfl, rfl⟩⟩

/-! ### Every command and every step -/

theorem exec_outputsKept {i : Instr} (h : exec i s = .next t) : OutputsKept s t := by
  by_cases hi : writesStill i = false
  · exact ((exec_ran_kept hi h).mono outputsKept_of_kept).outputsKept
  · cases i with
    | selectStart dt lk b => exact timed_outputsKept (fun u => (beginSelect_writesLink lk b u).outputsKept) h
    | selectRelease dt lk part =>
      exact timed_outputsKept (fun u => (endSelect_writesLink lk part u).outputsKept) h
    | replyRead dt lk => exact timed_outputsKept (fun u => (readReply_writesLink lk u).outputsKept) h
    | byteClock dt lk b => exact timed_outputsKept (fun u => (clockByte_writesLink lk b u).outputsKept) h
    | writeRoute lk b => exact request_outputsKept serveWriteRoute_outputsKept h
    | eraseRoute lk b => exact request_outputsKept serveEraseRoute_outputsKept h
    | writeSetting lk b => exact request_outputsKept serveWriteSetting_outputsKept h
    | writeCurve lk b => exact request_outputsKept serveWriteCurve_outputsKept h
    | setClock lk b => exact request_outputsKept serveSetClock_outputsKept h
    | readAttn lk b => exact request_outputsKept (fun _ u => readAttention_outputsKept lk u) h
    | setAttn lk b => exact request_outputsKept (serveSetAttn_outputsKept lk) h
    | setModes lk b => exact request_outputsKept serveSetModes_outputsKept h
    | machineReset lk b => exact request_outputsKept (fun _ u => machineReset_outputsKept u) h
    | powerOnReset v w x y z => exact powerOnReset_outputsKept h
    | clockSecond dt =>
      refine timed_outputsKept (fun u => ?_) (show execClockSecond dt s = .next t from h)
      split
      · exact outputsKept_of_kept_outputs (compareRetries_kept (Kept.refl _)) (clockTick_outputs u)
      · exact .refl u
    | _ => exact absurd rfl hi

/-- A step lets one µs pass, or runs the front command on the rest of the queue. -/
theorem step_outputsKept (h : step s = .next t) : OutputsKept s t := by
  unfold step at h
  split at h
  · obtain rfl := Host.Outcome.next.inj h
    exact elapse_outputsKept 16 s
  next c rest _ =>
    have rest_kept : OutputsKept s (s.setPending rest) := outputsKept_of_outputs rfl
    exact rest_kept.trans (exec_outputsKept h)

end

/-- Settles O9, by `step_outputsKept`. -/
theorem stepsKeepAttnAndTheLineOutputs : Obligations.StepsKeepAttnAndTheLineOutputs := fun _ _ h =>
  ⟨(step_outputsKept h).attn, (step_outputsKept h).line⟩

end Sys2Proof.Calls

/-! TALK and END_TALK by the line state, and the events of a call up to its transmission (R35, R125 to R134,
R145, R147 to R149). -/

namespace Sys2Proof.Calls
open Machine Laws Directory

section
variable {s : State} {lk : Link} {b : Byte} {args : List Byte} {copy : Option DialBuf}

/-! ### The route of a TALK (R35) -/

theorem exec_talk_of_taken (h : Taken codeTalk lk b args s) : exec (.talk lk b) s =
    .next (placeReply lk (serveTalk args (takeRequest lk s)).1 (serveTalk args (takeRequest lk s)).2) :=
  request_of_taken serveTalk h

theorem talkRoute_of_error {r : Result} (hne : args ≠ []) (hr : parseRoute args = .error r) :
    talkRoute args s = .error r := by
  simp only [talkRoute, if_neg hne, hr]

theorem talkRoute_of_emptyEntry {i : Nat} (hne : args ≠ []) (hi : parseRoute args = .ok (.directory i))
    (he : s.routes[i]? = some none) : talkRoute args s = .error .routeBad := by
  simp [talkRoute, hne, hi, snapshot, he]

theorem ne_nil_of_parseRoute {rt : Route} (h : parseRoute args = .ok rt) : args ≠ [] := by
  rintro rfl
  cases h

/-- A route that TALK can copy is copied. -/
theorem talkRoute_of_copies (h : talkCopies s args copy) : talkRoute args s = .ok copy := by
  rcases h with ⟨hnil, rfl⟩ | ⟨i, x, hp, hx, rfl⟩ | ⟨d, hp, rfl⟩
  · exact if_pos hnil
  · simp [talkRoute, ne_nil_of_parseRoute hp, hp, snapshot, hx]
  · simp [talkRoute, ne_nil_of_parseRoute hp, hp, snapshot]

theorem serveTalk_of_error {r : Result} (h : talkRoute args s = .error r) : serveTalk args s = refuse r s := by
  simp only [serveTalk, h]

theorem serveTalk_of_copies (h : talkCopies s args copy) : serveTalk args s = takeTalk copy s := by
  simp only [serveTalk, talkRoute_of_copies h]

/-! ### TALK by the line state (R147) -/

/-- In IDLE the request is granted at once: the prompt finds it pending (R123). -/
theorem takeTalk_of_idle (copy : Option DialBuf) (h : s.line.state = .idle) :
    takeTalk copy s = accept (talkSeizes copy s) := by
  have granted : prompt (s.setLine { s.line with pendingTalk := some { route := copy } }) =
      talkSeizes copy (s.setLine { s.line with pendingTalk := some { route := copy } }) :=
    PictureJobs.prompt_of_talk h rfl
  have asked : takeTalk copy s = accept (prompt (s.setLine { s.line with
      pendingTalk := some { route := copy } })) := by simp only [takeTalk, h]
  rw [asked, granted]
  rfl

theorem takeTalk_of_guard (copy : Option DialBuf) (h : s.line.state = .guard) (hp : s.line.pendingTalk = none) :
    takeTalk copy s = accept (s.setLine { s.line with pendingTalk := some { route := copy } }) := by
  simp only [takeTalk, h, hp, Option.isSome_none, Bool.false_eq_true, if_false]

theorem takeTalk_of_after (h : s.line.state = .stop ∨ s.line.state = .answerback)
    (ha : s.line.talkAfter = false) :
    takeTalk none s = accept (s.setLine { s.line with talkAfter := true }) := by
  rcases h with h | h <;> simp [takeTalk, h, ha]

theorem takeTalk_of_busy (h : (s.line.state = .guard ∧ s.line.pendingTalk ≠ none) ∨
    ((s.line.state = .stop ∨ s.line.state = .answerback) ∧ (copy ≠ none ∨ s.line.talkAfter = true)) ∨
    s.line.state ∉ [.idle, .guard, .stop, .answerback]) : takeTalk copy s = refuse .lineBusy s := by
  rcases h with ⟨h, hp⟩ | ⟨h, ha⟩ | h
  · simp [takeTalk, h, Option.isSome_iff_ne_none.2 hp]
  · rw [← Option.isSome_iff_ne_none] at ha
    rcases h with h | h <;> simp [takeTalk, h, ha]
  · unfold takeTalk
    split
    iterate 4 next hs => simp [hs] at h
    next => rfl

/-- Settles O38: the route by `talkRoute`, the rest by the line state. -/
theorem talkIsGrantedHeldOrRefusedByTheLineState : Obligations.TalkIsGrantedHeldOrRefusedByTheLineState := by
  intro lk b args s ht
  rw [exec_talk_of_taken ht]
  refine ⟨fun r hne hr => ?_, fun i hne hi he => ?_, fun copy hc => ?_⟩
  · rw [serveTalk_of_error (talkRoute_of_error hne hr)]
    rfl
  · rw [serveTalk_of_error (talkRoute_of_emptyEntry hne hi (by simpa using he))]
    rfl
  · have copied : talkCopies (takeRequest lk s) args copy := by simpa [talkCopies] using hc
    have line := takeRequest_line lk s
    rw [serveTalk_of_copies copied, ← line]
    refine ⟨fun h => ?_, fun h hp => ?_, fun h hcopy ha => ?_, fun h => ?_⟩
    · rw [takeTalk_of_idle copy h]
      rfl
    · rw [takeTalk_of_guard copy h hp]
      rfl
    · rw [hcopy, takeTalk_of_after h ha]
      rfl
    · rw [takeTalk_of_busy h]
      rfl

/-! ### END_TALK by the line state (R149) -/

theorem serveEndTalk_of_talk (args : List Byte) (h : s.line.state = .talk ∨
    ((s.line.state = .seize ∨ s.line.state = .dial) ∧ s.line.kind = some .talk)) :
    serveEndTalk args s = accept (talkReleased .endTalk s) := by
  rw [← talkRelease_eq]
  rcases h with h | ⟨h | h, hk⟩
  · simp only [serveEndTalk, h]
  · simp only [serveEndTalk, h, hk, if_true]
  · simp only [serveEndTalk, h, hk, if_true]

theorem serveEndTalk_of_guard (args : List Byte) (h : s.line.state = .guard) (hp : s.line.pendingTalk ≠ none) :
    serveEndTalk args s = accept (s.setLine { s.line with pendingTalk := none }) := by
  simp only [serveEndTalk, h, Option.isSome_iff_ne_none.2 hp, if_true]

theorem serveEndTalk_of_after (args : List Byte) (h : s.line.state = .stop ∨ s.line.state = .answerback)
    (ha : s.line.talkAfter = true) :
    serveEndTalk args s = accept (s.setLine { s.line with talkAfter := false }) := by
  rcases h with h | h <;> simp only [serveEndTalk, h, ha, if_true]

theorem serveEndTalk_of_none (args : List Byte)
    (h : ((s.line.state = .seize ∨ s.line.state = .dial) ∧ s.line.kind ≠ some .talk) ∨
      (s.line.state = .guard ∧ s.line.pendingTalk = none) ∨
      ((s.line.state = .stop ∨ s.line.state = .answerback) ∧ s.line.talkAfter = false) ∨
      s.line.state ∉ [.talk, .seize, .dial, .guard, .stop, .answerback]) :
    serveEndTalk args s = refuse .wrongState s := by
  rcases h with ⟨h, hk⟩ | ⟨h, hp⟩ | ⟨h, ha⟩ | h
  · rcases h with h | h <;> simp only [serveEndTalk, h, if_neg hk]
  · simp [serveEndTalk, h, hp]
  · rcases h with h | h <;> simp [serveEndTalk, h, ha]
  · unfold serveEndTalk
    split
    iterate 6 next hs => simp [hs] at h
    next => rfl

/-- Settles O39. -/
theorem endTalkReleasesWithdrawsOrIsRefused : Obligations.EndTalkReleasesWithdrawsOrIsRefused := by
  intro lk b s ht
  have served : exec (.endTalk lk b) s = _ := request_of_taken serveEndTalk ht
  rw [served, ← takeRequest_line lk s]
  refine ⟨fun h => ?_, fun h hp => ?_, fun h ha => ?_, fun h => ?_⟩
  · rw [serveEndTalk_of_talk [] h]
    rfl
  · rw [serveEndTalk_of_guard [] h hp]
    rfl
  · rw [serveEndTalk_of_after [] h ha]
    rfl
  · rw [serveEndTalk_of_none [] h]
    rfl

end

/-! ### The seize window (R125, R148) -/

section
variable {s t : State} {dt : Nat}

theorem enterDial_eq (s : State) :
    enterDial s = dialNext { lineBecomes .dial s with dialer := { s.dialer with position := 0 } } := by
  have dialer : (enterLine .dial s).dialer = s.dialer := by unfold enterLine; split <;> rfl
  rw [enterDial, dialer, enterLine_eq]
  rfl

/-- The state that has read the loop at the end of the window. -/
def loopRead (loop : Bool) (s : State) : State := { s with pins := { s.pins with loop := loop } }

theorem endSeize_of_talk (loop : Bool) (h : s.line.kind = some .talk) : endSeize loop s =
    if loop = false then talkReleased .noLoop (loopRead loop s)
    else if s.dialBuf ≠ none then enterDial (loopRead loop s) else enterTalk (loopRead loop s) := by
  simp only [endSeize, h, ← talkRelease_eq]
  cases loop with
  | false => rfl
  | true => cases s.dialBuf <;> rfl

theorem endSeize_of_leg (loop : Bool) (h : s.line.kind ≠ some .talk) : endSeize loop s =
    if loop then enterDial (loopRead loop s) else callEnd (.reason .lineDead false) false (loopRead loop s) := by
  unfold endSeize
  dsimp only
  split
  next hk => exact absurd hk h
  next => rfl

/-! ### The join (R130 to R134) -/

theorem transmissionBegin_eq (s : State) : transmissionBegin s =
    startMark (lineBecomes .mark (scanTransmission { s with
      modu := { s.modu with linesCopy := some (activeLinesSent s), lineCount := s.line.jobT } })) := by
  rw [transmissionBegin, enterLine_eq]
  rfl

theorem takeReady_eq (s : State) : takeReady s =
    if s.line.prepared then transmissionBegin s
    else (lineBecomes .prepareWait s).startLimit .prepareLimit (1000000 * s.settings.prepareLimit) := by
  rw [takeReady, enterLine_eq, sec_eq]

/-- The detector waits in READY and has heard two seconds of a tone within 25 Hz of READY_HZ (R128). -/
def ReadyHeard (freq held : Nat) (t : State) : Prop :=
  t.line.detector = .ready ∧ freq ≤ t.aux.readyHz + 25 ∧ t.aux.readyHz ≤ freq + 25 ∧
    2000000 ≤ held ∧ 2000000 ≤ t.aux.detTime

theorem exec_readyEvent (dt freq held : Nat) (s : State) : exec (.readyEvent dt freq held) s = .next (
    if (elapse dt s).line.detector = .ready ∧ readyTone freq (elapse dt s).aux.readyHz ∧
      readyHold ≤ min held (elapse dt s).aux.detTime then takeReady (elapse dt s) else elapse dt s) := rfl

theorem readyHeard_iff {freq held : Nat} : ReadyHeard freq held t ↔
    t.line.detector = .ready ∧ readyTone freq t.aux.readyHz = true ∧ readyHold ≤ min held t.aux.detTime := by
  have hold : readyHold = 2000000 := rfl
  simp only [ReadyHeard, readyTone, hold, Bool.and_eq_true, decide_eq_true_eq, Nat.le_min, and_assoc]

theorem exec_readyEvent_of_heard {freq held : Nat} (h : ReadyHeard freq held (elapse dt s)) :
    exec (.readyEvent dt freq held) s = .next (takeReady (elapse dt s)) :=
  (exec_readyEvent dt freq held s).trans (congrArg _ (if_pos (readyHeard_iff.1 h)))

theorem exec_readyEvent_of_not_heard {freq held : Nat} (h : ¬ ReadyHeard freq held (elapse dt s)) :
    exec (.readyEvent dt freq held) s = .next (elapse dt s) :=
  (exec_readyEvent dt freq held s).trans (congrArg _ (if_neg (mt readyHeard_iff.2 h)))

theorem linePrepared_of_before (hk : s.line.kind = some .leg) (h : s.line.state ∈ [.seize, .dial, .awaitReady]) :
    linePrepared s = { s with line := { s.line with prepared := true } } := by
  rw [linePrepared, if_pos hk]
  simp only [List.mem_cons, List.not_mem_nil, or_false] at h
  rcases h with h | h | h <;> (simp only [h]; rfl)

theorem linePrepared_of_waiting (hk : s.line.kind = some .leg) (h : s.line.state = .prepareWait) :
    linePrepared s = transmissionBegin s := by
  rw [linePrepared, if_pos hk]
  simp only [h]

theorem linePrepared_of_other
    (h : s.line.kind ≠ some .leg ∨ s.line.state ∉ [.seize, .dial, .awaitReady, .prepareWait]) :
    linePrepared s = s := by
  unfold linePrepared
  split
  next hk =>
    have hn := h.resolve_left (not_not.2 hk)
    split
    iterate 4 next hs => simp [hs] at hn
    next => rfl
  next => rfl

theorem activeLinesSent_eq {j l : Nat} {g : Leg} (ha : s.line.active = some (j, l)) (hg : s.leg? j l = some g) :
    activeLinesSent s = g.linesSent := by
  simp only [activeLinesSent, ha, hg, Option.map_some, Option.getD_some]

/-! ### The limits up to the transmission (R125, R130, R132, R145) -/

theorem exec_seizeWindowEnd (dt : Nat) (loop : Bool) (s : State) : exec (.seizeWindowEnd dt loop) s =
    timed dt (fun t => if t.limitDue .seizeWindow then endSeize loop t else t) s := rfl

theorem exec_answerTimeoutExpiry (dt : Nat) (s : State) : exec (.answerTimeoutExpiry dt) s =
    timed dt (fun t => if t.limitDue .answerTimeout then
      callEnd (.reason .noAnswer false) false t else t) s := rfl

theorem exec_prepareLimitExpiry (dt : Nat) (s : State) : exec (.prepareLimitExpiry dt) s =
    timed dt (fun t => if t.limitDue .prepareLimit then
      callEnd (.reason .notReady false) false t else t) s := rfl

theorem exec_guardTimeExpiry (dt : Nat) (s : State) : exec (.guardTimeExpiry dt) s =
    timed dt (fun t => if t.limitDue .guardTime then prompt (lineBecomes .idle t) else t) s := by
  simp only [← enterLine_eq]
  rfl

/-- Settles O43: the window by the call's kind, the ready event by `ReadyHeard`, the report by the line state,
the limits by `timed_of_limit`. -/
theorem callEventsUpToTheTransmission : Obligations.CallEventsUpToTheTransmission := by
  refine ⟨fun dt loop s hw => ?_, fun dt freq held s => ?_, fun dt freq held s => ?_, fun s => ?_,
    fun dt s => ?_, fun dt s hn => ?_⟩
  · intro t u dial speech
    rw [exec_seizeWindowEnd, timed_of_limit (endSeize loop) hw]
    by_cases hk : (elapse dt s).line.kind = some .talk
    · rw [endSeize_of_talk loop hk, enterDial_eq, enterTalk_eq, if_pos hk]
      rfl
    · rw [endSeize_of_leg loop hk, enterDial_eq, if_neg hk]
      rfl
  · intro t hd hlow hhigh hheld htime
    rw [exec_readyEvent_of_heard ⟨hd, hlow, hhigh, hheld, htime⟩, takeReady_eq, transmissionBegin_eq]
  · intro t hn
    refine exec_readyEvent_of_not_heard fun ⟨hd, hlow, hhigh, hheld, htime⟩ => ?_
    rcases hn with h | h | h | h | h
    · exact h hd
    · exact absurd hlow (Nat.not_le.2 h)
    · exact absurd hhigh (Nat.not_le.2 h)
    · exact absurd hheld (Nat.not_le.2 h)
    · exact absurd htime (Nat.not_le.2 h)
  · refine ⟨linePrepared_of_before, fun hk h => ?_, linePrepared_of_other, rfl,
      fun j l g => activeLinesSent_eq⟩
    rw [linePrepared_of_waiting hk h, transmissionBegin_eq]
  · intro t
    refine ⟨fun h => ?_, fun h => ?_, fun h => ?_, fun present => rfl⟩
    · rw [exec_answerTimeoutExpiry, timed_of_limit _ h]
    · rw [exec_prepareLimitExpiry, timed_of_limit _ h]
    · rw [exec_guardTimeExpiry, timed_of_limit (fun t => prompt (lineBecomes .idle t)) h]
  · refine ⟨fun loop => ?_, ?_, ?_, ?_⟩
    · rw [exec_seizeWindowEnd, timed_of_not_limit (endSeize loop) (hn _)]
    · rw [exec_answerTimeoutExpiry, timed_of_not_limit _ (hn _)]
    · rw [exec_prepareLimitExpiry, timed_of_not_limit _ (hn _)]
    · rw [exec_guardTimeExpiry, timed_of_not_limit (fun t => prompt (lineBecomes .idle t)) (hn _)]

end

end Sys2Proof.Calls

/-! The slip queue and the owed list: what creating, owing and removing a slip make of them (R152 to R158). -/

namespace Sys2Proof.ReceiptSlips
open Machine Laws PictureJobs

variable {s t : State} {j l n : Nat}

/-! ### What the standing relations of R152 to R156 speak of -/

/-- The job table, the slip queue, the owed list and the next slip number, of which R152 to R156 speak. -/
def slipTable (s : State) : Vector (Option Job) 16 × List SlipRec × List (Nat × Nat) × Nat :=
  (s.jobs, s.slips.queue, s.slips.owed, s.slips.nextNumber)

theorem slipTable_eq_iff : slipTable s = slipTable t ↔ s.jobs = t.jobs ∧ s.slips.queue = t.slips.queue ∧
    s.slips.owed = t.slips.owed ∧ s.slips.nextNumber = t.slips.nextNumber := by
  simp only [slipTable, Prod.mk.injEq]

theorem leg?_of_jobs (h : t.jobs = s.jobs) (j l : Nat) : t.leg? j l = s.leg? j l := by
  simp only [State.leg?, State.job?, h]

theorem slipQueueRight_of_slipTable (h : slipTable t = slipTable s) (k : SlipQueueRight s) :
    SlipQueueRight t := by
  obtain ⟨jobs, queue, owed, next⟩ := slipTable_eq_iff.1 h
  unfold SlipQueueRight at k ⊢
  simpa only [queue, owed, next, leg?_of_jobs jobs] using k

/-- The slip queue and the owed list are right in every state with this part. Stated over that part alone, so
that simp drops every operation that leaves it as it is. -/
structure SlipsRight (p : Vector (Option Job) 16 × List SlipRec × List (Nat × Nat) × Nat) : Prop where
  right : ∀ s, slipTable s = p → SlipQueueRight s

theorem slipsRight_iff : SlipsRight (slipTable s) ↔ SlipQueueRight s :=
  ⟨fun h => h.right s rfl, fun h => ⟨fun _ e => slipQueueRight_of_slipTable e h⟩⟩

/-! ### Reading a leg after a write of the job table -/

theorem leg?_setJob (s : State) (e : Option Job) (h : j < 16) (i k : Nat) :
    (s.setJob j e).leg? i k = if i = j then e.bind fun x => x.legs[k]? else s.leg? i k := by
  simp only [State.leg?, job_setJob _ _ _ _ h]
  split <;> rfl

theorem leg?_modLeg_eq (s : State) (j l : Nat) (f : Leg → Leg) (i k : Nat) :
    (s.modLeg j l f).leg? i k = if i = j ∧ k = l then (s.leg? i k).map f else s.leg? i k := by
  unfold State.modLeg
  split
  next x hx =>
    rw [leg?_setJob s _ (job_lt hx)]
    by_cases hi : i = j
    · subst hi
      simp only [if_true, Option.bind_some, List.getElem?_modify, true_and, State.leg?, hx, eq_comm (a := l)]
      split
      · rfl
      · exact Option.map_id'
    · simp [hi]
  next hx =>
    by_cases hi : i = j
    · subst hi
      simp [State.leg?, hx]
    · simp [hi]

/-- Every leg that has ended stays as it is, its slip owed flag included. -/
def EndedStay (s t : State) : Prop :=
  ∀ (j l : Nat) (g : Leg), s.leg? j l = some g → g.state.terminal = true → t.leg? j l = some g

/-- An owed leg has ended (R154), so that a write that leaves the ended legs leaves what is owed. -/
theorem slipQueueRight_of_endedStay (hl : EndedStay s t) (hu : t.slips = s.slips) (h : SlipQueueRight s) :
    SlipQueueRight t := by
  obtain ⟨room, full, nodup, owed, next⟩ := h
  unfold SlipQueueRight
  rw [hu]
  refine ⟨room, full, nodup, fun j l hm => ?_, next⟩
  obtain ⟨g, hg, flag, ended⟩ := owed j l hm
  exact ⟨g, hl j l g hg ended, flag, ended⟩

/-! ### A slip created (R153, R155) -/

@[simp] theorem modLeg_slips (s : State) (j l : Nat) (f : Leg → Leg) : (s.modLeg j l f).slips = s.slips := by
  unfold State.modLeg; split <;> rfl

@[simp] theorem causeSlip_slips (s : State) (o : Link) : (s.causeSlip o).slips = s.slips := by cases o <;> rfl

@[simp] theorem causeSlip_jobs (s : State) (o : Link) : (s.causeSlip o).jobs = s.jobs := by cases o <;> rfl

@[simp] theorem printerLook_slipTable (s : State) : slipTable (printerLook s) = slipTable s := by
  unfold printerLook; (repeat' split) <;> rfl

/-- The leg's record goes to the back of the queue and takes the next number (R155). -/
theorem createSlip_of_leg {g : Leg} (hg : s.leg? j l = some g) : ∃ x, (createSlip j l s).jobs = s.jobs ∧
    (createSlip j l s).slips.queue = s.slips.queue ++ [slipOf s j l x g] ∧
    (createSlip j l s).slips.owed = s.slips.owed ∧
    (createSlip j l s).slips.nextNumber = nextSlipNumber s.slips.nextNumber := by
  obtain ⟨x, hx, -⟩ := Option.bind_eq_some_iff.1 hg
  simp only [createSlip, hx, hg]
  generalize hu : State.causeSlip _ x.owner = u
  obtain ⟨jobs, queue, owed, next⟩ := slipTable_eq_iff.1 (printerLook_slipTable u)
  rw [jobs, queue, owed, next, ← hu, causeSlip_jobs, causeSlip_slips]
  exact ⟨x, rfl, rfl, rfl, rfl⟩

/-- Whether or not the leg is there, the owed list and the collection mode stay. -/
theorem createSlip_keeps (j l : Nat) (s : State) : (createSlip j l s).slips.owed = s.slips.owed ∧
    (createSlip j l s).slips.collection = s.slips.collection := by
  unfold createSlip
  split
  next x g _ _ =>
    generalize hu : State.causeSlip _ x.owner = u
    obtain ⟨-, -, owed, -, collection⟩ := printerLook_keeps u
    rw [owed, collection, ← hu, causeSlip_slips]
    exact ⟨rfl, rfl⟩
  next => exact ⟨rfl, rfl⟩

theorem nextSlipNumber_within (h : within 1 9999 n) : within 1 9999 (nextSlipNumber n) := by
  unfold within nextSlipNumber at *
  split <;> omega

/-- The numbers run from 1 to 9999 and begin again (R155). -/
theorem nextSlipNumber_eq (h : within 1 9999 n) : nextSlipNumber n = n % 9999 + 1 := by
  unfold within at h
  unfold nextSlipNumber
  split <;> omega

/-! ### A leg handed over (R154) -/

/-- A leg that has ended and is not owed gets its record, or is owed once the queue is full. -/
theorem handOver_right {g : Leg} (hg : s.leg? j l = some g) (ended : g.state.terminal = true)
    (hn : (j, l) ∉ s.slips.owed) (h : SlipQueueRight s) : SlipQueueRight (handOver j l s) := by
  obtain ⟨room, full, nodup, owed, next⟩ := h
  unfold handOver slipRoom
  split
  next hr =>
    have none_owed : s.slips.owed = [] := by
      by_contra ho
      have := full ho
      omega
    obtain ⟨x, -, queue, owed', next'⟩ := createSlip_of_leg hg
    unfold SlipQueueRight
    rw [queue, owed', next', none_owed]
    refine ⟨?_, fun hne => absurd rfl hne, List.nodup_nil, fun i k hm => absurd hm List.not_mem_nil,
      nextSlipNumber_within next⟩
    rw [List.length_append, List.length_singleton]
    exact hr
  next hr =>
    unfold SlipQueueRight
    rw [modLeg_slips]
    refine ⟨room, fun _ => by simp only [State.setSlips_slips]; omega, ?_, fun i k hm => ?_, next⟩
    · exact List.nodup_append.2 ⟨nodup, List.nodup_singleton _,
        fun a ha b hb hab => hn (List.mem_singleton.1 hb ▸ hab ▸ ha)⟩
    · rw [leg?_modLeg_eq, show (s.setSlips { s.slips with owed := s.slips.owed ++ [(j, l)] }).leg? i k =
        s.leg? i k from rfl]
      by_cases hik : i = j ∧ k = l
      · obtain ⟨rfl, rfl⟩ := hik
        exact ⟨{ g with slipOwed := true }, by simp [hg], rfl, ended⟩
      · rw [if_neg hik]
        refine owed i k ((List.mem_append.1 hm).resolve_right fun hs => hik ?_)
        simpa using hs

/-! ### A record removed, and the oldest owed slip (R157, R158) -/

theorem removeSlip_of_nil (n : Nat) (h : s.slips.owed = []) : removeSlip n s =
    s.setSlips { s.slips with queue := s.slips.queue.eraseP fun (r : SlipRec) => r.number == n } := by
  simp only [removeSlip, createOwed, State.setSlips_slips, h]

theorem removeSlip_collection (n : Nat) (s : State) :
    (removeSlip n s).slips.collection = s.slips.collection := by
  unfold removeSlip createOwed
  split
  · rfl
  · rw [modLeg_slips, (createSlip_keeps _ _ _).2]
    rfl

/-- A removal takes the oldest leg off the owed list (R158). -/
theorem removeSlip_owed (n : Nat) (s : State) : (removeSlip n s).slips.owed = s.slips.owed.tail := by
  cases h : s.slips.owed with
  | nil => rw [removeSlip_of_nil n h]; exact h
  | cons p rest =>
    simp only [removeSlip, createOwed, State.setSlips_slips, h, modLeg_slips, (createSlip_keeps _ _ _).1,
      List.tail_cons]

/-- A removal with a slip owed: the oldest owed leg's record follows, and its flag is cleared (R158). -/
theorem removeSlip_of_cons {g : Leg} {rest : List (Nat × Nat)} (n : Nat) (h : s.slips.owed = (j, l) :: rest)
    (hg : s.leg? j l = some g) : ∃ r : SlipRec,
      r.number = s.slips.nextNumber ∧ (r.job, r.leg) = (j, l) ∧ r.printed = false ∧
      r.collected = false ∧ (removeSlip n s).slips.queue =
        (s.slips.queue.eraseP fun (r : SlipRec) => r.number == n) ++ [r] ∧
      (removeSlip n s).slips.nextNumber = nextSlipNumber s.slips.nextNumber ∧
      ∀ i k, (removeSlip n s).leg? i k =
        if i = j ∧ k = l then some { g with slipOwed := false } else s.leg? i k := by
  generalize hu : s.setSlips { s.slips with
    queue := s.slips.queue.eraseP fun (r : SlipRec) => r.number == n, owed := rest } = u
  have hremove : removeSlip n s = (createSlip j l u).modLeg j l fun g => { g with slipOwed := false } := by
    simp only [removeSlip, createOwed, State.setSlips_slips, h, ← hu]
    rfl
  have hgu : u.leg? j l = some g := by rw [← hu]; exact hg
  obtain ⟨x, jobs, queue, -, next⟩ := createSlip_of_leg hgu
  refine ⟨slipOf u j l x g, by rw [← hu]; rfl, rfl, rfl, rfl, ?_, ?_, fun i k => ?_⟩
  · rw [hremove, modLeg_slips, queue, ← hu]
    rfl
  · rw [hremove, modLeg_slips, next, ← hu]
    rfl
  · rw [hremove, leg?_modLeg_eq, leg?_of_jobs jobs]
    split
    next hik =>
      obtain ⟨rfl, rfl⟩ := hik
      rw [hgu]
      rfl
    next => rw [← hu]; rfl

/-- The removal of a record of the queue makes room for exactly the one owed slip created after it. -/
theorem removeSlip_right (hn : ∃ r ∈ s.slips.queue, r.number = n) (h : SlipQueueRight s) :
    SlipQueueRight (removeSlip n s) := by
  obtain ⟨room, full, nodup, owed, next⟩ := h
  obtain ⟨r, hr, hrn⟩ := hn
  have erased : (s.slips.queue.eraseP fun (r : SlipRec) => r.number == n).length = s.slips.queue.length - 1 :=
    List.length_eraseP_of_mem hr (by simp [hrn])
  have hpos := List.length_pos_of_mem hr
  cases ho : s.slips.owed with
  | nil =>
    rw [removeSlip_of_nil n ho]
    refine ⟨?_, fun hne => absurd ho hne, nodup, owed, next⟩
    simp only [State.setSlips_slips, erased]
    omega
  | cons p rest =>
    obtain ⟨j, l⟩ := p
    obtain ⟨g, hg, -⟩ := owed j l (by simp [ho])
    obtain ⟨r', -, -, -, -, queue', next', legs⟩ := removeSlip_of_cons n ho hg
    have full := full (by simp [ho])
    rw [ho] at nodup
    obtain ⟨hjl, nodup'⟩ := List.nodup_cons.1 nodup
    unfold SlipQueueRight
    rw [removeSlip_owed, queue', next', ho, List.length_append, erased, List.length_singleton]
    refine ⟨by omega, fun _ => by omega, nodup', fun i k hm => ?_, nextSlipNumber_within next⟩
    rw [legs, if_neg]
    · exact owed i k (by rw [ho]; exact List.mem_cons_of_mem _ hm)
    · rintro ⟨rfl, rfl⟩
      exact hjl hm

/-! ### Records by their numbers -/

theorem number_ne_of_nodup {older newer : List SlipRec} {r : SlipRec}
    (h : ((older ++ r :: newer).map fun (o : SlipRec) => o.number).Nodup) :
    ∀ o ∈ older ++ newer, o.number ≠ r.number := by
  intro o ho heq
  rw [List.map_append, List.map_cons, List.nodup_middle] at h
  refine (List.nodup_cons.1 h).1 ?_
  rw [← List.map_append, ← heq]
  exact List.mem_map_of_mem ho

/-- The record of a number, where none before it has that number. -/
theorem find?_number {older newer : List SlipRec} {r : SlipRec} (h : ∀ o ∈ older, o.number ≠ r.number) :
    (older ++ r :: newer).find? (fun o => o.number == r.number) = some r :=
  List.find?_eq_some_iff_append.2 ⟨by simp, older, newer, rfl, fun o ho => by simpa using h o ho⟩

theorem eraseP_number {older newer : List SlipRec} {r : SlipRec} (h : ∀ o ∈ older, o.number ≠ r.number) :
    (older ++ r :: newer).eraseP (fun o => o.number == r.number) = older ++ newer := by
  rw [List.eraseP_append_right _ fun o ho => by simpa using h o ho]
  simp

/-- Only the record of the number is changed, where no other has it. -/
theorem map_number {older newer : List SlipRec} {r : SlipRec} (f : SlipRec → SlipRec)
    (h : ∀ o ∈ older ++ newer, o.number ≠ r.number) :
    (older ++ r :: newer).map (fun o => if o.number == r.number then f o else o) =
      older ++ f r :: newer := by
  have same : ∀ q : List SlipRec, (∀ o ∈ q, o.number ≠ r.number) →
      q.map (fun o => if o.number == r.number then f o else o) = q := fun q hq =>
    (List.map_congr_left fun o ho => by simp [hq o ho]).trans (List.map_id _)
  rw [List.map_append, List.map_cons, same older fun o ho => h o (by simp [ho]),
    same newer fun o ho => h o (by simp [ho])]
  simp

/-- What the removal test finds at a record of its own number (R157). -/
theorem removalTest_eq {older newer : List SlipRec} {r : SlipRec} (hq : s.slips.queue = older ++ r :: newer)
    (h : ∀ o ∈ older, o.number ≠ r.number) : removalTest r.number s =
      if removable s.slips.collection r then
        createOwed { s with slips := { s.slips with queue := older ++ newer } }
      else s := by
  simp only [removalTest, hq, find?_number h, removeSlip, eraseP_number h]
  rfl

end Sys2Proof.ReceiptSlips

/-! The end of a slip, and COLLECT_SLIP, REPRINT_SLIP and SET_COLLECTION (R155, R157, R158, R161, R164 to
R166). -/

namespace Sys2Proof.ReceiptSlips
open Machine Laws PictureJobs

variable {s t : State} {lk : Link} {b v : Byte}

/-! ### The end of a slip (R157, R158, R161) -/

/-- The record printed is marked and copied, and the removal test made on it (R161). -/
theorem slipEnd_of_record {p : Printing} {older newer : List SlipRec} {r : SlipRec}
    (hp : p.item = .record r.number) (hq : s.slips.queue = older ++ r :: newer)
    (hn : ∀ o ∈ older ++ newer, o.number ≠ r.number) : slipEnd p s =
      let t := removalTest r.number { s with slips := { s.slips with
        queue := older ++ { r with printed := true } :: newer
        copy := some { r with printed := true } } }
      printerLook (t.setSlips { t.slips with printer := .idle, printing := none }) := by
  have before : ∀ o ∈ older, o.number ≠ ({ r with printed := true } : SlipRec).number :=
    fun o ho => hn o (by simp [ho])
  have copied := find?_number (newer := newer) before
  dsimp only at copied
  simp only [slipEnd, hp, modSlip, hq, map_number _ hn, State.setSlips_slips, copied, Option.some_or]
  rfl

/-- Settles O58: the record by `slipEnd_of_record` and `removalTest_eq`, the rest by the model's equations. -/
theorem aPrintedSlipIsMarkedCopiedAndRemoved : Obligations.APrintedSlipIsMarkedCopiedAndRemoved := by
  intro s p
  refine ⟨fun hp => ?_, fun older r newer hp hq hn => ?_, fun ho => ?_, fun j l rest ho => ?_⟩
  · simp only [slipEnd, hp]
    rfl
  · have unlike := number_ne_of_nodup (hq ▸ hn)
    rw [slipEnd_of_record hp hq unlike]
    have tested := removalTest_eq (r := { r with printed := true })
      (s := { s with slips := { s.slips with
        queue := older ++ { r with printed := true } :: newer
        copy := some { r with printed := true } } }) rfl fun o ho => unlike o (by simp [ho])
    dsimp only at tested ⊢
    rw [tested]
    have removed : removable s.slips.collection { r with printed := true } = true ↔
        r.collected = true ∨ s.slips.collection = false := by simp [removable]
    simp only [removed]
    rfl
  · simp only [createOwed, ho]
  · simp only [createOwed, ho]
    rfl

/-! ### COLLECT_SLIP and REPRINT_SLIP (R164, R165) -/

/-- The record that the desk takes is tested for removal as collected (R165). -/
theorem collect_eq {older newer : List SlipRec} {r : SlipRec} (hq : s.slips.queue = older ++ r :: newer)
    (hn : ∀ o ∈ older ++ newer, o.number ≠ r.number) : collect r s =
      if r.printed then createOwed { s with slips := { s.slips with queue := older ++ newer } }
      else { s with slips := { s.slips with queue := older ++ { r with collected := true } :: newer } } := by
  have tested := removalTest_eq (r := { r with collected := true })
    (s := { s with slips := { s.slips with
      queue := older ++ { r with collected := true } :: newer } }) rfl fun o ho => hn o (by simp [ho])
  have removed : removable s.slips.collection { r with collected := true } = r.printed := by simp [removable]
  simp only [removed] at tested
  simp only [collect, modSlip, hq, map_number _ hn]
  exact tested

theorem serveCollectSlip_of_collected (h : ∀ r ∈ s.slips.queue, r.collected = true) :
    serveCollectSlip [] s = ({ result := .nothing, data := .empty }, s) := by
  have none_left : (s.slips.queue.find? fun (r : SlipRec) => !r.collected) = none :=
    List.find?_eq_none.2 fun r hr => by simp [h r hr]
  simp only [serveCollectSlip, none_left]
  rfl

theorem serveCollectSlip_of_oldest {older newer : List SlipRec} {r : SlipRec}
    (hq : s.slips.queue = older ++ r :: newer) (ho : ∀ o ∈ older, o.collected = true)
    (hr : r.collected = false) : serveCollectSlip [] s =
      ({ result := .ok, data := .slip { r with collected := true } }, collect r s) := by
  have oldest : (s.slips.queue.find? fun (r : SlipRec) => !r.collected) = some r :=
    List.find?_eq_some_iff_append.2 ⟨by simp [hr], older, newer, hq, fun o h => by simp [ho o h]⟩
  simp only [serveCollectSlip, oldest]
  rfl

theorem serveReprintSlip_eq (s : State) : serveReprintSlip [] s =
    if s.slips.copy = none then ({ result := .nothing, data := .empty }, s)
    else ({ result := .ok, data := .empty },
      if s.slips.reprint then s else printerLook { s with slips := { s.slips with reprint := true } }) := by
  unfold serveReprintSlip
  cases s.slips.copy with
  | none => rfl
  | some r =>
    cases s.slips.reprint with
    | false => rfl
    | true => rfl

/-! ### SET_COLLECTION (R157, R158, R166) -/

theorem serveSetCollection_of_bad (h : 1 < v.toNat) :
    serveSetCollection [v] s = ({ result := .badArgument, data := .empty }, s) := by
  have bad : flagOf? v = none := by
    unfold flagOf?
    rw [if_neg (by rintro rfl; simp at h), if_neg (by rintro rfl; simp at h)]
  simp only [serveSetCollection, bad]
  rfl

theorem serveSetCollection_on (s : State) : serveSetCollection [1] s =
    ({ result := .ok, data := .empty }, { s with slips := { s.slips with collection := true } }) := by
  have on : flagOf? 1 = some true := rfl
  simp only [serveSetCollection, on, if_true]
  split
  next h =>
    have same : { s.slips with collection := true } = s.slips := by rw [h]
    rw [same]
    rfl
  next => rfl

theorem serveSetCollection_off (s : State) : serveSetCollection [0] s =
    ({ result := .ok, data := .empty }, if s.slips.collection then collectionOff s else s) := by
  have off : flagOf? 0 = some false := rfl
  simp only [serveSetCollection, off]
  cases s.slips.collection <;> rfl

/-- The next record to be removed: the oldest printed one, with no other of its number. -/
theorem oldest_printed {q rs : List SlipRec} {r : SlipRec}
    (hn : (q.map fun (o : SlipRec) => o.number).Nodup)
    (h : (q.filter fun (o : SlipRec) => o.printed) = r :: rs) :
    ∃ older newer, q = older ++ r :: newer ∧ (∀ o ∈ older ++ newer, o.number ≠ r.number) ∧
      ((older ++ newer).map fun (o : SlipRec) => o.number).Nodup ∧
      (older ++ newer).filter (fun (o : SlipRec) => o.printed) = rs ∧
      (older ++ newer).filter (fun (o : SlipRec) => !o.printed) =
        q.filter fun (o : SlipRec) => !o.printed := by
  obtain ⟨older, newer, rfl, hold, hr, hrs⟩ := List.filter_eq_cons_iff.1 h
  refine ⟨older, newer, rfl, number_ne_of_nodup hn, ?_, ?_, ?_⟩
  · exact hn.sublist (((List.sublist_cons_self r newer).append_left older).map _)
  · rw [List.filter_append, List.filter_eq_nil_iff.2 hold, hrs, List.nil_append]
  · simp [hr]

/-- With no slip owed the printed records are removed and nothing else happens (R157, R166). -/
theorem foldl_removeSlip_of_nil (ho : s.slips.owed = [])
    (hn : (s.slips.queue.map fun (o : SlipRec) => o.number).Nodup)
    {rs : List SlipRec} (h : (s.slips.queue.filter fun (o : SlipRec) => o.printed) = rs) :
    (rs.map fun (o : SlipRec) => o.number).foldl (fun t n => removeSlip n t) s =
      s.setSlips { s.slips with queue := s.slips.queue.filter fun (o : SlipRec) => !o.printed } := by
  induction rs generalizing s with
  | nil =>
    have unprinted : (s.slips.queue.filter fun (o : SlipRec) => !o.printed) = s.slips.queue :=
      List.filter_eq_self.2 fun o ho => by simpa using List.filter_eq_nil_iff.1 h o ho
    rw [unprinted]
    rfl
  | cons r rs ih =>
    obtain ⟨older, newer, hq, unlike, nodup, printed, unprinted⟩ := oldest_printed hn h
    rw [List.map_cons, List.foldl_cons, removeSlip_of_nil _ ho, hq,
      eraseP_number fun o ho => unlike o (by simp [ho])]
    rw [ih (s := s.setSlips { s.slips with queue := older ++ newer }) ho nodup printed, State.setSlips_slips,
      State.setSlips_setSlips]
    simp only [unprinted, hq]

theorem foldl_removeSlip_collection (ns : List Nat) (s : State) :
    (ns.foldl (fun t n => removeSlip n t) s).slips.collection = s.slips.collection := by
  induction ns generalizing s with
  | nil => rfl
  | cons n ns ih => rw [List.foldl_cons, ih, removeSlip_collection]

theorem foldl_removeSlip_owed (ns : List Nat) (s : State) :
    (ns.foldl (fun t n => removeSlip n t) s).slips.owed = s.slips.owed.drop ns.length := by
  induction ns generalizing s with
  | nil => rfl
  | cons n ns ih => rw [List.foldl_cons, ih, removeSlip_owed, List.drop_tail, List.length_cons]

/-- Records just made for these legs in this order, numbered on from `next` (R153, R155). -/
structure MadeFor (legs : List (Nat × Nat)) (next : Nat) (made : List SlipRec) : Prop where
  legs : (made.map fun (r : SlipRec) => (r.job, r.leg)) = legs
  fresh : ∀ (i : Nat) (r : SlipRec), made[i]? = some r →
    r.number = (next - 1 + i) % 9999 + 1 ∧ r.printed = false ∧ r.collected = false

theorem madeFor_nil (next : Nat) : MadeFor [] next [] := ⟨rfl, fun _ _ h => by simp at h⟩

/-- One record more in front, the others numbered on from the number after its own. -/
theorem MadeFor.cons {legs : List (Nat × Nat)} {next j l : Nat} {made : List SlipRec} {r : SlipRec}
    (h : MadeFor legs (nextSlipNumber next) made) (hnext : within 1 9999 next) (hnumber : r.number = next)
    (hleg : (r.job, r.leg) = (j, l)) (hprinted : r.printed = false) (hcollected : r.collected = false) :
    MadeFor ((j, l) :: legs) next (r :: made) := by
  obtain ⟨hlegs, fresh⟩ := h
  refine ⟨by rw [List.map_cons, hlegs, hleg], fun i k hk => ?_⟩
  cases i with
  | zero =>
    obtain rfl : r = k := by simpa using hk
    unfold within at hnext
    exact ⟨by omega, hprinted, hcollected⟩
  | succ i =>
    obtain ⟨number, rest⟩ := fresh i k (by simpa using hk)
    refine ⟨?_, rest⟩
    rw [number, nextSlipNumber_eq hnext]
    unfold within at hnext
    omega

/-- Each printed record is removed, oldest first, and each removal makes the oldest owed slip (R157, R158). -/
theorem foldl_removeSlip_made {q m : List SlipRec} (h : SlipQueueRight s) (hq : s.slips.queue = q ++ m)
    (hn : (q.map fun (o : SlipRec) => o.number).Nodup) {rs : List SlipRec}
    (hrs : (q.filter fun (o : SlipRec) => o.printed) = rs) :
    let u := (rs.map fun (o : SlipRec) => o.number).foldl (fun t n => removeSlip n t) s
    ∃ made, MadeFor (s.slips.owed.take rs.length) s.slips.nextNumber made ∧
      u.slips.queue = (q.filter fun (o : SlipRec) => !o.printed) ++ m ++ made ∧
      u.slips.nextNumber = (s.slips.nextNumber - 1 + made.length) % 9999 + 1 := by
  induction rs generalizing s q m with
  | nil =>
    have unprinted : (q.filter fun (o : SlipRec) => !o.printed) = q :=
      List.filter_eq_self.2 fun o ho => by simpa using List.filter_eq_nil_iff.1 hrs o ho
    obtain ⟨-, -, -, -, next⟩ := h
    refine ⟨[], madeFor_nil _, by simp [hq, unprinted], ?_⟩
    unfold within at next
    simp only [List.map_nil, List.foldl_nil, List.length_nil]
    omega
  | cons r rs ih =>
    obtain ⟨older, newer, rfl, unlike, nodup, printed, unprinted⟩ := oldest_printed hn hrs
    have held : ∃ o ∈ s.slips.queue, o.number = r.number := ⟨r, by simp [hq], rfl⟩
    have erased : (s.slips.queue.eraseP fun (o : SlipRec) => o.number == r.number) = older ++ newer ++ m := by
      rw [hq, List.append_assoc, List.cons_append, eraseP_number fun o ho => unlike o (by simp [ho]),
        List.append_assoc]
    have right := removeSlip_right held h
    rw [List.map_cons, List.foldl_cons]
    cases ho : s.slips.owed with
    | nil =>
      have removed := removeSlip_of_nil r.number ho
      rw [erased] at removed
      have queue : (removeSlip r.number s).slips.queue = older ++ newer ++ m := by rw [removed]; rfl
      have owed : (removeSlip r.number s).slips.owed = [] := by rw [removed]; exact ho
      have next : (removeSlip r.number s).slips.nextNumber = s.slips.nextNumber := by rw [removed]; rfl
      obtain ⟨made, hmade, hqueue, hnext⟩ := ih right queue nodup printed
      rw [owed, next, List.take_nil] at hmade
      rw [unprinted] at hqueue
      rw [next] at hnext
      exact ⟨made, hmade, hqueue, hnext⟩
    | cons p rest =>
      obtain ⟨j, l⟩ := p
      obtain ⟨-, -, -, legs, next⟩ := h
      obtain ⟨g, hg, -⟩ := legs j l (by simp [ho])
      obtain ⟨k, number, leg, kprinted, kcollected, queue, next', -⟩ := removeSlip_of_cons r.number ho hg
      rw [erased, List.append_assoc] at queue
      obtain ⟨made, hmade, hqueue, hnext⟩ := ih right queue nodup printed
      rw [removeSlip_owed, ho, List.tail_cons, next'] at hmade
      refine ⟨k :: made, ?_, ?_, ?_⟩
      · exact hmade.cons next number leg kprinted kcollected
      · rw [hqueue, unprinted]
        simp
      · rw [hnext, next', nextSlipNumber_eq next, List.length_cons]
        unfold within at next
        omega

/-- Turning collection OFF: what is left, and what is made for the owed legs (R157, R158, R166). -/
theorem collectionOff_made (h : SlipQueueRight s)
    (hn : (s.slips.queue.map fun (o : SlipRec) => o.number).Nodup) :
    ∃ made, MadeFor (s.slips.owed.take (s.slips.queue.countP fun (r : SlipRec) => r.printed))
        s.slips.nextNumber made ∧
      (collectionOff s).slips.queue = (s.slips.queue.filter fun (r : SlipRec) => !r.printed) ++ made ∧
      (collectionOff s).slips.nextNumber = (s.slips.nextNumber - 1 + made.length) % 9999 + 1 := by
  have off : SlipQueueRight (s.setSlips { s.slips with collection := false }) := h
  rw [List.countP_eq_length_filter]
  obtain ⟨made, hmade, queue, next⟩ := foldl_removeSlip_made off (List.append_nil _).symm hn rfl
  rw [List.append_nil] at queue
  exact ⟨made, hmade, queue, next⟩

theorem collectionOff_collection (s : State) : (collectionOff s).slips.collection = false :=
  foldl_removeSlip_collection _ _

theorem collectionOff_owed (s : State) : (collectionOff s).slips.owed =
    s.slips.owed.drop (s.slips.queue.countP fun (r : SlipRec) => r.printed) := by
  rw [collectionOff, foldl_removeSlip_owed, List.length_map, List.countP_eq_length_filter]
  rfl

theorem collectionOff_of_nil (ho : s.slips.owed = [])
    (hn : (s.slips.queue.map fun (o : SlipRec) => o.number).Nodup) : collectionOff s =
      { s with slips := { s.slips with
        collection := false, queue := s.slips.queue.filter fun (r : SlipRec) => !r.printed } } :=
  foldl_removeSlip_of_nil (s := s.setSlips { s.slips with collection := false }) ho hn rfl

/-- Settles O35: each request through its block's part, SET_COLLECTION OFF by `collectionOff_of_nil` and
`collectionOff_made`. -/
theorem slipRequestsCollectReprintAndRemove : Obligations.SlipRequestsCollectReprintAndRemove := by
  refine ⟨fun lk b s h => ?_, fun lk b s h => ?_, fun lk b v s h => ?_⟩
  · have served := request_of_taken serveCollectSlip h
    refine ⟨fun hall => ?_, fun older r newer hq ho hr hn => ?_⟩
    · rw [serveCollectSlip_of_collected (by simpa using hall)] at served
      exact served
    · have hq' : (takeRequest lk s).slips.queue = older ++ r :: newer := by simpa using hq
      rw [serveCollectSlip_of_oldest hq' ho hr, collect_eq hq' (number_ne_of_nodup (hq ▸ hn)),
        takeRequest_slips] at served
      exact served
  · have served := request_of_taken serveReprintSlip h
    rw [serveReprintSlip_eq, takeRequest_slips] at served
    refine served.trans (congrArg Host.Outcome.next ?_)
    by_cases hc : s.slips.copy = none
    · simp only [hc, if_true]
    · simp only [hc, if_false]
  · have served := request_of_taken serveSetCollection h
    refine ⟨fun hv => ?_, ?_, ?_, ?_, ?_⟩
    · rw [serveSetCollection_of_bad hv] at served
      exact served
    · rintro rfl
      rw [serveSetCollection_on, takeRequest_slips] at served
      exact served
    · rintro rfl hc
      rw [serveSetCollection_off, takeRequest_slips, if_neg (by simp [hc])] at served
      exact served
    · rintro rfl hc ho hn
      rw [serveSetCollection_off, takeRequest_slips, if_pos hc,
        collectionOff_of_nil (by simpa using ho) (by simpa using hn), takeRequest_slips] at served
      exact served
    · rintro rfl hc
      rw [serveSetCollection_off, takeRequest_slips, if_pos hc] at served
      have owed := collectionOff_owed (takeRequest lk s)
      rw [takeRequest_slips] at owed
      refine ⟨collectionOff (takeRequest lk s), served, collectionOff_collection _, owed, fun hr hn => ?_⟩
      have right : SlipQueueRight (takeRequest lk s) :=
        slipQueueRight_of_slipTable (by simp [slipTable]) hr
      obtain ⟨made, ⟨legs, fresh⟩, queue, next⟩ := collectionOff_made right (by simpa using hn)
      rw [takeRequest_slips] at legs fresh queue next
      exact ⟨made, queue, legs, fresh, next⟩

end Sys2Proof.ReceiptSlips

/-! What leaves the job table, the slip queue, the owed list and the next slip number as they are: one lemma
per operation. -/

namespace Sys2Proof.ReceiptSlips
open Machine

variable (s : State)

/-! ### The named writes -/

/-- Puts `slipTable` together again after a write of the slip unit's other fields. -/
@[simp] theorem slipTable_mk :
    (s.jobs, s.slips.queue, s.slips.owed, s.slips.nextNumber) = slipTable s := rfl
@[simp] theorem setSlips_slipTable (x : SlipUnit) :
    slipTable (s.setSlips x) = (s.jobs, x.queue, x.owed, x.nextNumber) := (rfl)
@[simp] theorem setMountQueue_slipTable (x) : slipTable (s.setMountQueue x) = slipTable s := (rfl)
@[simp] theorem setDrum_slipTable (x) : slipTable (s.setDrum x) = slipTable s := (rfl)
@[simp] theorem setPosTimer_slipTable (x) : slipTable (s.setPosTimer x) = slipTable s := (rfl)
@[simp] theorem setHead_slipTable (x) : slipTable (s.setHead x) = slipTable s := (rfl)
@[simp] theorem setScan_slipTable (x) : slipTable (s.setScan x) = slipTable s := (rfl)
@[simp] theorem setModu_slipTable (x) : slipTable (s.setModu x) = slipTable s := (rfl)
@[simp] theorem setMarkGen_slipTable (x) : slipTable (s.setMarkGen x) = slipTable s := (rfl)
@[simp] theorem setDialer_slipTable (x) : slipTable (s.setDialer x) = slipTable s := (rfl)
@[simp] theorem setDialBuf_slipTable (x) : slipTable (s.setDialBuf x) = slipTable s := (rfl)
@[simp] theorem setLine_slipTable (x) : slipTable (s.setLine x) = slipTable s := (rfl)
@[simp] theorem setPins_slipTable (x) : slipTable (s.setPins x) = slipTable s := (rfl)
@[simp] theorem setAux_slipTable (x) : slipTable (s.setAux x) = slipTable s := (rfl)
@[simp] theorem setModes_slipTable (x) : slipTable (s.setModes x) = slipTable s := (rfl)
@[simp] theorem setClock_slipTable (x) : slipTable (s.setClock x) = slipTable s := (rfl)
@[simp] theorem setCommitCounter_slipTable (x) : slipTable (s.setCommitCounter x) = slipTable s := (rfl)
@[simp] theorem setPending_slipTable (x) : slipTable (s.setPending x) = slipTable s := (rfl)

/-! ### Cause events, links, the passing of time and the printer (R160, R162, R173, R180) -/

@[simp] theorem cause_slipTable (c : Cause) (toDesk toPanel : Bool) :
    slipTable (s.cause c toDesk toPanel) = slipTable s := by unfold State.cause; (repeat' split) <;> rfl
@[simp] theorem causeJob_slipTable (owner : Link) : slipTable (s.causeJob owner) = slipTable s := by
  simp [State.causeJob]
@[simp] theorem causeQueue_slipTable : slipTable (s.causeQueue) = slipTable s := (rfl)
@[simp] theorem causeDrum_slipTable : slipTable (s.causeDrum) = slipTable s := (rfl)
@[simp] theorem causePrinter_slipTable : slipTable (s.causePrinter) = slipTable s := (rfl)
@[simp] theorem causeFault_slipTable : slipTable (s.causeFault) = slipTable s := (rfl)
@[simp] theorem setLink_slipTable (lk : Link) (r : LinkRec) : slipTable (s.setLink lk r) = slipTable s := by
  unfold State.setLink; split <;> rfl
@[simp] theorem setAttn_slipTable (lk : Link) (a : Attn) : slipTable (s.setAttn lk a) = slipTable s := by
  unfold State.setAttn; split <;> rfl
@[simp] theorem startLimit_slipTable (l : Limit) (us : Nat) : slipTable (s.startLimit l us) = slipTable s :=
  (rfl)
@[simp] theorem elapse_slipTable (dt : Nat) : slipTable (elapse dt s) = slipTable s := (rfl)
@[simp] theorem takeRequest_slipTable (lk : Link) : slipTable (takeRequest lk s) = slipTable s := by
  simp [takeRequest]
@[simp] theorem placeReply_slipTable (lk : Link) (r : Reply) : slipTable (placeReply lk r s) = slipTable s := by
  simp [placeReply]
@[simp] theorem restartSlip_slipTable : slipTable (restartSlip s) = slipTable s := by
  unfold restartSlip; split <;> rfl

/-! ### The mount queue (R7, R9) -/

@[simp] theorem setEntries_slipTable (es : List Nat) : slipTable (setEntries es s) = slipTable s := by
  unfold setEntries; split <;> rfl
@[simp] theorem joinQueue_slipTable (j : Nat) : slipTable (joinQueue j s) = slipTable s := by
  unfold joinQueue; split <;> simp
@[simp] theorem leaveQueue_slipTable (j : Nat) : slipTable (leaveQueue j s) = slipTable s := by
  simp [leaveQueue]
@[simp] theorem moveInQueue_slipTable (j : Nat) : slipTable (moveInQueue j s) = slipTable s := by
  unfold moveInQueue; split <;> simp
@[simp] theorem holdQueue_slipTable (r : HoldReason) : slipTable (holdQueue r s) = slipTable s := (rfl)

/-! ### The drum, the ring and the tones -/

@[simp] theorem startIdle_slipTable : slipTable (startIdle s) = slipTable s := by
  unfold startIdle; split <;> rfl
@[simp] theorem drumStopped_slipTable : slipTable (drumStopped s) = slipTable s := (rfl)
@[simp] theorem drumBraking_slipTable : slipTable (drumBraking s) = slipTable s := (rfl)
@[simp] theorem countIndex_slipTable : slipTable (countIndex s) = slipTable s := (rfl)
@[simp] theorem setSlot_slipTable (i : Nat) (x : Slot) : slipTable (s.setSlot i x) = slipTable s := (rfl)
@[simp] theorem emptyRing_slipTable : slipTable (emptyRing s) = slipTable s := (rfl)
@[simp] theorem modSilent_slipTable : slipTable (modSilent s) = slipTable s := (rfl)
@[simp] theorem modTone_slipTable (f : Nat) : slipTable (modTone f s) = slipTable s := (rfl)
@[simp] theorem modMode_slipTable (m : Mode) (f : Nat) : slipTable (modMode m f s) = slipTable s := (rfl)
@[simp] theorem markTone_slipTable : slipTable (markTone s) = slipTable s := by unfold markTone; split <;> rfl
@[simp] theorem startMark_slipTable : slipTable (startMark s) = slipTable s := (rfl)
@[simp] theorem stopMark_slipTable : slipTable (stopMark s) = slipTable s := (rfl)
@[simp] theorem blackHold_slipTable : slipTable (blackHold s) = slipTable s := (rfl)
@[simp] theorem bridgeMode_slipTable : slipTable (bridgeMode s) = slipTable s := (rfl)
@[simp] theorem stopMode_slipTable : slipTable (stopMode s) = slipTable s := (rfl)
@[simp] theorem phasingMode_slipTable (target : Nat) : slipTable (phasingMode target s) = slipTable s := (rfl)

/-! ### The scanner and the head -/

@[simp] theorem abandonFilling_slipTable : slipTable (abandonFilling s) = slipTable s := by
  unfold abandonFilling; split <;> rfl
@[simp] theorem scanIdle_slipTable : slipTable (scanIdle s) = slipTable s := by simp [scanIdle]
@[simp] theorem scanHalt_slipTable : slipTable (scanHalt s) = slipTable s := by
  unfold scanHalt; split <;> simp
@[simp] theorem scanResume_slipTable : slipTable (scanResume s) = slipTable s := by
  unfold scanResume; split <;> rfl
@[simp] theorem scanTransmission_slipTable : slipTable (scanTransmission s) = slipTable s := by
  unfold scanTransmission; split <;> rfl
@[simp] theorem scanPicture_slipTable : slipTable (scanPicture s) = slipTable s := by
  unfold scanPicture; split <;> rfl
@[simp] theorem scanFinished_slipTable : slipTable (scanFinished s) = slipTable s := by
  unfold scanFinished; split <;> simp
@[simp] theorem scanWaitTest_slipTable : slipTable (scanWaitTest s) = slipTable s := by
  unfold scanWaitTest; split <;> rfl
@[simp] theorem scanPositioned_slipTable (p : Nat) : slipTable (scanPositioned p s) = slipTable s := by
  unfold scanPositioned; split <;> simp
@[simp] theorem headPulse_slipTable (forward : Bool) : slipTable (headPulse forward s) = slipTable s := (rfl)
@[simp] theorem headPositioned_slipTable : slipTable (headPositioned s) = slipTable s := by
  simp [headPositioned]
@[simp] theorem headMoving_slipTable : slipTable (headMoving s) = slipTable s := (rfl)
@[simp] theorem homeReached_slipTable : slipTable (homeReached s) = slipTable s := by
  unfold homeReached; split <;> simp
@[simp] theorem enterHoming_slipTable : slipTable (enterHoming s) = slipTable s := by
  unfold enterHoming; split <;> simp
@[simp] theorem positionIdle_slipTable (p : Nat) : slipTable (positionIdle p s) = slipTable s := by
  unfold positionIdle; (repeat' split) <;> simp
@[simp] theorem positioningRequest_slipTable (p : Nat) : slipTable (positioningRequest p s) = slipTable s := by
  unfold positioningRequest; (repeat' split) <;> simp
@[simp] theorem scanStep_slipTable : slipTable (scanStep s) = slipTable s := by unfold scanStep; split <;> rfl

/-! ### The line unit and the dialer -/

@[simp] theorem enterLine_slipTable (st : LineState) : slipTable (enterLine st s) = slipTable s := by
  unfold enterLine; split <;> rfl
@[simp] theorem enterGuard_slipTable : slipTable (enterGuard s) = slipTable s := by simp [enterGuard]
@[simp] theorem dialStep_slipTable (st : DialerState) (us : Nat) : slipTable (dialStep st us s) = slipTable s :=
  (rfl)
@[simp] theorem stopDialer_slipTable : slipTable (stopDialer s) = slipTable s := (rfl)
@[simp] theorem dialBreak_slipTable (r : PulseRate) : slipTable (dialBreak r s) = slipTable s := (rfl)
@[simp] theorem beginSymbol_slipTable (d : DialSpec) (x : DialSym) :
    slipTable (beginSymbol d x s) = slipTable s := by
  unfold beginSymbol; (repeat' split) <;> rfl
@[simp] theorem enterTalk_slipTable : slipTable (enterTalk s) = slipTable s := by simp [enterTalk]
@[simp] theorem enterAwaitReady_slipTable : slipTable (enterAwaitReady s) = slipTable s := by
  simp [enterAwaitReady]
@[simp] theorem dialComplete_slipTable : slipTable (dialComplete s) = slipTable s := by
  unfold dialComplete; split <;> simp
@[simp] theorem dialNext_slipTable : slipTable (dialNext s) = slipTable s := by
  unfold dialNext; (repeat' split) <;> simp
@[simp] theorem symbolDone_slipTable : slipTable (symbolDone s) = slipTable s := by simp [symbolDone]
@[simp] theorem enterDial_slipTable : slipTable (enterDial s) = slipTable s := by simp [enterDial]
@[simp] theorem enterSeize_slipTable : slipTable (enterSeize s) = slipTable s := by simp [enterSeize]
@[simp] theorem callGone_slipTable : slipTable (callGone s) = slipTable s := by simp [callGone]
@[simp] theorem legEndReport_slipTable : slipTable (legEndReport s) = slipTable s := by
  unfold legEndReport; split <;> rfl
@[simp] theorem talkRelease_slipTable (e : TalkEnding) : slipTable (talkRelease e s) = slipTable s := by
  simp [talkRelease]
@[simp] theorem beginClosing_slipTable (c : Closing) : slipTable (beginClosing c s) = slipTable s := by
  simp [beginClosing]
@[simp] theorem bridgeResume_slipTable : slipTable (bridgeResume s) = slipTable s := by simp [bridgeResume]
@[simp] theorem transmissionBegin_slipTable : slipTable (transmissionBegin s) = slipTable s := by
  simp [transmissionBegin]
@[simp] theorem linePrepared_slipTable : slipTable (linePrepared s) = slipTable s := by
  unfold linePrepared; (repeat' split) <;> simp
@[simp] theorem lineLocked_slipTable (r : Rpm) : slipTable (lineLocked r s) = slipTable s := by
  unfold lineLocked; split <;> simp
@[simp] theorem lineIndex_slipTable : slipTable (lineIndex s) = slipTable s := by
  unfold lineIndex; split <;> simp
@[simp] theorem linePhasingComplete_slipTable : slipTable (linePhasingComplete s) = slipTable s := by
  unfold linePhasingComplete; split <;> simp
@[simp] theorem linePictureComplete_slipTable : slipTable (linePictureComplete s) = slipTable s := by
  unfold linePictureComplete; split <;> simp
@[simp] theorem enterAnswerback_slipTable : slipTable (enterAnswerback s) = slipTable s := by
  simp [enterAnswerback]

/-! ### Preparation and capture -/

@[simp] theorem beginPreparation_slipTable (samples lineCount : Nat) (speed : Rpm) (resume : Nat) :
    slipTable (beginPreparation samples lineCount speed resume s) = slipTable s := by simp [beginPreparation]
@[simp] theorem sendPrepared_slipTable : slipTable (sendPrepared s) = slipTable s := by simp [sendPrepared]
@[simp] theorem enterPrepared_slipTable : slipTable (enterPrepared s) = slipTable s := by
  unfold enterPrepared; dsimp only; (repeat' split) <;> simp
@[simp] theorem scanLost_slipTable : slipTable (scanLost s) = slipTable s := by
  unfold scanLost; (repeat' split) <;> rfl
@[simp] theorem scanRetested_slipTable (t : State) : slipTable (scanRetested s t) = slipTable t := by
  unfold scanRetested; split <;> simp
@[simp] theorem scanLocked_slipTable (r : Rpm) : slipTable (scanLocked r s) = slipTable s := by
  unfold scanLocked; split <;> [simp; (split <;> simp)]
@[simp] theorem captureBegin_slipTable : slipTable (captureBegin s) = slipTable s := by
  unfold captureBegin; (repeat' split) <;> rfl
@[simp] theorem captureDone_slipTable (f : Filling) (levels : List Nat) :
    slipTable (captureDone f levels s) = slipTable s := by simp [captureDone]
@[simp] theorem writeLevel_slipTable (samples r : Nat) : slipTable (writeLevel samples r s) = slipTable s := by
  unfold writeLevel; (repeat' split) <;> simp
@[simp] theorem darkEnd_slipTable : slipTable (darkEnd s) = slipTable s := by
  unfold darkEnd; (repeat' split) <;> rfl
@[simp] theorem scanSpanEnd_slipTable : slipTable (scanSpanEnd s) = slipTable s := by
  unfold scanSpanEnd; split <;> simp
@[simp] theorem warmIndex_slipTable : slipTable (warmIndex s) = slipTable s := by
  unfold warmIndex; split <;> rfl
@[simp] theorem darkIndex_slipTable : slipTable (darkIndex s) = slipTable s := by
  unfold darkIndex; (repeat' split) <;> simp
@[simp] theorem modPhasingIndex_slipTable : slipTable (modPhasingIndex s) = slipTable s := by
  unfold modPhasingIndex; dsimp only; (repeat' split) <;> simp

/-! ### The position timer and the drum's index -/

@[simp] theorem loadTimer_slipTable (samples : Nat) (speed : Rpm) :
    slipTable (loadTimer samples speed s) = slipTable s := (rfl)
@[simp] theorem holdPeriod_slipTable (p : Option Nat) : slipTable (holdPeriod p s) = slipTable s := (rfl)
@[simp] theorem startRevolution_slipTable : slipTable (startRevolution s) = slipTable s := (rfl)
@[simp] theorem reportLocked_slipTable (r : Rpm) : slipTable (reportLocked r s) = slipTable s := by
  simp [reportLocked]
@[simp] theorem enterLocked_slipTable (r : Rpm) : slipTable (enterLocked r s) = slipTable s := by
  simp [enterLocked]
@[simp] theorem lockingIndex_slipTable (r : Rpm) (e : Int) : slipTable (lockingIndex r e s) = slipTable s := by
  unfold lockingIndex; dsimp only; (repeat' split) <;> simp
@[simp] theorem lockedIndex_slipTable (r : Rpm) (e : Int) : slipTable (lockedIndex r e s) = slipTable s := by
  unfold lockedIndex; split <;> rfl
@[simp] theorem spinupIndex_slipTable (r : Rpm) (p : Nat) : slipTable (spinupIndex r p s) = slipTable s := by
  unfold spinupIndex; split <;> rfl
@[simp] theorem faultEntry_slipTable (c : Option FaultCause) : slipTable (faultEntry c s) = slipTable s :=
  (rfl)
@[simp] theorem scanFault_slipTable : slipTable (scanFault s) = slipTable s := by simp [scanFault]

/-! ### What the commands do -/

@[simp] theorem grantTalk_slipTable (p : PendingTalk) : slipTable (grantTalk p s) = slipTable s := by
  simp [grantTalk]
@[simp] theorem changeSense_slipTable (present : Bool) : slipTable (changeSense present s) = slipTable s :=
  (rfl)
@[simp] theorem takeReady_slipTable : slipTable (takeReady s) = slipTable s := by
  unfold takeReady; split <;> simp
@[simp] theorem stopDrum_slipTable : slipTable (stopDrum s) = slipTable s := by
  unfold stopDrum; (repeat' split) <;> rfl
@[simp] theorem senseHome_slipTable (home : Bool) : slipTable (senseHome home s) = slipTable s := (rfl)
@[simp] theorem homingStep_slipTable (home : Bool) : slipTable (homingStep home s) = slipTable s := by
  unfold homingStep; split <;> simp
@[simp] theorem movingStep_slipTable (home : Bool) : slipTable (movingStep home s) = slipTable s := by
  unfold movingStep; dsimp only; (repeat' split) <;> simp
@[simp] theorem failHoming_slipTable : slipTable (failHoming s) = slipTable s := (rfl)
@[simp] theorem endScanStep_slipTable (home : Bool) : slipTable (endScanStep home s) = slipTable s := by
  unfold endScanStep; dsimp only; (repeat' split) <;> simp
@[simp] theorem beginSelect_slipTable (lk : Link) (b : Byte) :
    slipTable (beginSelect lk b s) = slipTable s := by
  unfold beginSelect; dsimp only; (repeat' split) <;> simp
@[simp] theorem receiveByte_slipTable (lk : Link) (r : ReqBuf) (b : Byte) :
    slipTable (receiveByte lk r b s) = slipTable s := by unfold receiveByte; split <;> simp
@[simp] theorem sendByte_slipTable (lk : Link) : slipTable (sendByte lk s) = slipTable s := by
  unfold sendByte; dsimp only; (repeat' split) <;> simp
@[simp] theorem clockByte_slipTable (lk : Link) (b : Byte) : slipTable (clockByte lk b s) = slipTable s := by
  unfold clockByte; (repeat' split) <;> simp
@[simp] theorem readReply_slipTable (lk : Link) : slipTable (readReply lk s) = slipTable s := by
  unfold readReply; dsimp only; (repeat' split) <;> simp
@[simp] theorem endSelect_slipTable (lk : Link) (part : Bool) :
    slipTable (endSelect lk part s) = slipTable s := by
  unfold endSelect; dsimp only; (repeat' split) <;> simp
@[simp] theorem setTime_slipTable (day second : Nat) : slipTable (setTime day second s) = slipTable s := (rfl)
@[simp] theorem updateDac_slipTable : slipTable (updateDac s) = slipTable s := by
  unfold updateDac; split <;> rfl
@[simp] theorem markSilence_slipTable : slipTable (markSilence s) = slipTable s := (rfl)
@[simp] theorem markNext_slipTable : slipTable (markNext s) = slipTable s := by
  unfold markNext; dsimp only; (repeat' split) <;> simp

end Sys2Proof.ReceiptSlips

/-! The operations that write the job table or the slip unit: each keeps the slip queue and the owed list right
(R152, R154 to R156). -/

namespace Sys2Proof.ReceiptSlips
open Machine Laws PictureJobs

variable {s t : State} {j l : Nat}

theorem SlipsRight.of_endedStay (hl : EndedStay s t) (hu : t.slips = s.slips)
    (h : SlipsRight (slipTable s)) : SlipsRight (slipTable t) :=
  slipsRight_iff.2 (slipQueueRight_of_endedStay hl hu (slipsRight_iff.1 h))

@[simp] theorem ite_slipsRight {c : Prop} [Decidable c] (h : SlipsRight (slipTable s))
    (k : SlipsRight (slipTable t)) : SlipsRight (slipTable (if c then s else t)) := by
  split
  · exact h
  · exact k

/-! ### Legs and jobs that go on -/

/-- A leg is changed, but not one that has ended. -/
theorem modLeg_slipsRight {f : Leg → Leg}
    (hf : ∀ g, s.leg? j l = some g → g.state.terminal = true → f g = g)
    (h : SlipsRight (slipTable s)) : SlipsRight (slipTable (s.modLeg j l f)) := by
  refine h.of_endedStay (fun i k g hg ended => ?_) (modLeg_slips s j l f)
  rw [leg?_modLeg_eq]
  split
  next hik =>
    obtain ⟨rfl, rfl⟩ := hik
    rw [hg, Option.map_some, hf g hg ended]
  next => exact hg

/-- An entry of the job table is written, its legs that have ended as they were. -/
theorem setJob_slipsRight {e : Option Job} (hj : j < 16)
    (he : ∀ x, s.job? j = some x → ∃ y, e = some y ∧
      ∀ (k : Nat) (g : Leg), x.legs[k]? = some g → g.state.terminal = true → y.legs[k]? = some g)
    (h : SlipsRight (slipTable s)) : SlipsRight (slipTable (s.setJob j e)) := by
  refine SlipsRight.of_endedStay (s := s) (fun i k g hg ended => ?_) rfl h
  rw [leg?_setJob s e hj]
  split
  next hi =>
    subst hi
    obtain ⟨x, hx, hk⟩ := Option.bind_eq_some_iff.1 hg
    obtain ⟨y, rfl, hy⟩ := he x hx
    exact hy k g hk ended
  next => exact hg

/-- A job is written, but not its legs. -/
theorem setJob_slipsRight_of_legs {x y : Job} (hx : s.job? j = some x) (hl : y.legs = x.legs)
    (h : SlipsRight (slipTable s)) : SlipsRight (slipTable (s.setJob j (some y))) := by
  refine setJob_slipsRight (job_lt hx) (fun z hz => ⟨y, rfl, fun k g hk _ => ?_⟩) h
  obtain rfl : x = z := Option.some.inj (hx.symm.trans hz)
  rwa [hl]

@[simp] theorem setJobState_slipsRight (j : Nat) (st : JobState) (h : SlipsRight (slipTable s)) :
    SlipsRight (slipTable (setJobState j st s)) := by
  unfold setJobState
  split
  next x hx =>
    rw [causeJob_slipTable]
    exact setJob_slipsRight_of_legs hx rfl h
  next => exact h

@[simp] theorem endJob_slipsRight (j : Nat) (st : JobState) (h : SlipsRight (slipTable s)) :
    SlipsRight (slipTable (endJob j st s)) := by
  unfold endJob; (repeat' split) <;> simp [h]

@[simp] theorem jobEndTest_slipsRight (j : Nat) (h : SlipsRight (slipTable s)) :
    SlipsRight (slipTable (jobEndTest j s)) := by
  unfold jobEndTest; (repeat' split) <;> simp [h]

@[simp] theorem modActive_slipsRight (f : Leg → Leg) (h : SlipsRight (slipTable s)) :
    SlipsRight (slipTable (modActive f s)) := by
  unfold modActive
  split
  · refine modLeg_slipsRight (fun g _ ended => if_neg fun ha => ?_) h
    rw [ha] at ended
    cases ended
  · exact h

@[simp] theorem noteEvent_slipsRight (k : NoteKind) (h : SlipsRight (slipTable s)) :
    SlipsRight (slipTable (noteEvent k s)) := modActive_slipsRight _ h

@[simp] theorem lineSentEvent_slipsRight (h : SlipsRight (slipTable s)) :
    SlipsRight (slipTable (lineSentEvent s)) := modActive_slipsRight _ h

/-! ### The end of a leg and of its call (R15, R16, R144) -/

/-- A leg that has not ended yet is not owed, and may be handed over (R16, R154). -/
theorem legTerminal_slipsRight {st : LegState} (hst : st.terminal = true)
    (hg : ∀ g, s.leg? j l = some g → g.state.terminal = false) (h : SlipsRight (slipTable s)) :
    SlipsRight (slipTable (legTerminal j l st s)) := by
  unfold legTerminal
  split
  next x g hx hl =>
    dsimp only
    have changed := leg?_modLeg (fun y => { y with state := st, endTime := some s.stamp, notBefore := none }) hl
    have unended : ∀ y, s.leg? j l = some y → y.state.terminal = true →
        ({ y with state := st, endTime := some s.stamp, notBefore := none } : Leg) = y := fun y hy ended => by
      rw [hg y hy] at ended
      cases ended
    have right := modLeg_slipsRight unended h
    have unowed : (j, l) ∉ s.slips.owed := fun hm => by
      obtain ⟨-, -, -, owed, -⟩ := slipsRight_iff.1 h
      obtain ⟨y, hy, -, ended⟩ := owed j l hm
      rw [hg y hy] at ended
      cases ended
    generalize hu : s.modLeg j l _ = u at changed right ⊢
    obtain ⟨jobs, -, owed, -⟩ := slipTable_eq_iff.1 (causeJob_slipTable u x.owner)
    rw [← causeJob_slipTable u x.owner] at right
    split
    · refine slipsRight_iff.2 (handOver_right ((leg?_of_jobs jobs j l).trans changed) hst ?_
        (slipsRight_iff.1 right))
      rwa [owed, ← hu, modLeg_slips]
    · exact right
  next => exact h

theorem terminal_of_active {g : Leg} (h : g.state = .active) : g.state.terminal = false := by rw [h]; rfl

@[simp] theorem cancelWaiting_slipsRight (j : Nat) (h : SlipsRight (slipTable s)) :
    SlipsRight (slipTable (cancelWaiting j s)) := by
  unfold cancelWaiting
  generalize List.range _ = ls
  induction ls generalizing s with
  | nil => exact h
  | cons l ls ih =>
    refine ih ?_
    dsimp only
    split
    next hw =>
      refine legTerminal_slipsRight rfl (fun g hg => ?_) h
      exact terminal_eq_false_of_waiting (by simpa [hg] using hw)
    next => exact h

theorem applyResult_slipsRight {x : Job} {g : Leg} (res : LegResult) (hg : s.leg? j l = some g)
    (ha : g.state = .active) (h : SlipsRight (slipTable s)) :
    SlipsRight (slipTable (applyResult j l x g res s)) := by
  have unended : ∀ y, s.leg? j l = some y → y.state.terminal = false := fun y hy =>
    Option.some.inj (hg.symm.trans hy) ▸ terminal_of_active ha
  -- A change of the leg's fields before its end leaves it ACTIVE.
  have noted : ∀ f : Leg → Leg, (f g).state = g.state → SlipsRight (slipTable (s.modLeg j l f)) ∧
      ∀ y, (s.modLeg j l f).leg? j l = some y → y.state.terminal = false := fun f hf => by
    refine ⟨modLeg_slipsRight (fun y hy ended => ?_) h, fun y hy => ?_⟩
    · rw [unended y hy] at ended
      cases ended
    · rw [leg?_modLeg f hg] at hy
      rw [← Option.some.inj hy, hf]
      exact terminal_of_active ha
  unfold applyResult
  cases res with
  | delivered o ab gb =>
    obtain ⟨right, open'⟩ := noted (fun y => { y with answerback := ab, garbled := gb }) rfl
    exact legTerminal_slipsRight (by cases o <;> rfl) open' right
  | cancelled => exact legTerminal_slipsRight rfl unended h
  | reason r mf =>
    obtain ⟨right, open'⟩ := noted (fun y => { y with lastReason := some r }) rfl
    dsimp only
    split
    · exact legTerminal_slipsRight rfl open' right
    · split
      · exact legTerminal_slipsRight rfl open' right
      · split
        · refine modLeg_slipsRight (fun y hy ended => ?_) right
          rw [open' y hy] at ended
          cases ended
        · exact legTerminal_slipsRight rfl open' right

end Sys2Proof.ReceiptSlips

/-! What ends calls and what reports to the line and the job table: the slip queue and the owed list stay right
(R152, R154 to R156). -/

namespace Sys2Proof.ReceiptSlips
open Machine Laws PictureJobs

variable {s t : State} {j l : Nat}

/-! ### The end of a call (R15, R144) and what asks for it -/

@[simp] theorem endEvent_slipsRight (j l : Nat) (res : LegResult) (h : SlipsRight (slipTable s)) :
    SlipsRight (slipTable (endEvent j l res s)) := by
  unfold endEvent
  split
  next x g hx hg =>
    split
    next ha => simp [applyResult_slipsRight res hg ha h]
    next => exact h
  next => exact h

@[simp] theorem callEnd_slipsRight (res : LegResult) (loopLoss : Bool) (h : SlipsRight (slipTable s)) :
    SlipsRight (slipTable (callEnd res loopLoss s)) := by
  unfold callEnd; dsimp only; (repeat' split) <;> simp [h]

@[simp] theorem bridgeEntry_slipsRight (h : SlipsRight (slipTable s)) :
    SlipsRight (slipTable (bridgeEntry s)) := by
  simp [bridgeEntry, h]

@[simp] theorem lineLamp_slipsRight (h : SlipsRight (slipTable s)) : SlipsRight (slipTable (lineLamp s)) := by
  unfold lineLamp; split <;> simp [h]

@[simp] theorem lineFault_slipsRight (h : SlipsRight (slipTable s)) :
    SlipsRight (slipTable (lineFault s)) := by
  unfold lineFault; (repeat' split) <;> simp [h]

@[simp] theorem lineLost_slipsRight (h : SlipsRight (slipTable s)) : SlipsRight (slipTable (lineLost s)) := by
  unfold lineLost; split <;> simp [h]

@[simp] theorem lineSlipRev_slipsRight (h : SlipsRight (slipTable s)) :
    SlipsRight (slipTable (lineSlipRev s)) := by
  unfold lineSlipRev; split <;> simp [h]

@[simp] theorem abortCall_slipsRight (h : SlipsRight (slipTable s)) :
    SlipsRight (slipTable (abortCall s)) := by
  unfold abortCall; (repeat' split) <;> simp [h]

@[simp] theorem takeSymbol_slipsRight (k : KeySym) (h : SlipsRight (slipTable s)) :
    SlipsRight (slipTable (takeSymbol k s)) := by
  unfold takeSymbol; dsimp only; (repeat' split) <;> simp [h]

@[simp] theorem endSeize_slipsRight (loop : Bool) (h : SlipsRight (slipTable s)) :
    SlipsRight (slipTable (endSeize loop s)) := by
  unfold endSeize; dsimp only; (repeat' split) <;> simp [h]

@[simp] theorem endStopTime_slipsRight (h : SlipsRight (slipTable s)) :
    SlipsRight (slipTable (endStopTime s)) := by
  unfold endStopTime; (repeat' split) <;> simp [h]

@[simp] theorem endWindow_slipsRight (h : SlipsRight (slipTable s)) :
    SlipsRight (slipTable (endWindow s)) := by
  unfold endWindow; split <;> simp [h]

@[simp] theorem loseLoop_slipsRight (h : SlipsRight (slipTable s)) : SlipsRight (slipTable (loseLoop s)) := by
  unfold loseLoop; (repeat' split) <;> simp [h]

/-! ### The scanner and the modulator report to the job table and the line -/

@[simp] theorem lampFailure_slipsRight (h : SlipsRight (slipTable s)) :
    SlipsRight (slipTable (lampFailure s)) := by
  simp [lampFailure, h]

@[simp] theorem whiteDone_slipsRight (meas : Nat) (h : SlipsRight (slipTable s)) :
    SlipsRight (slipTable (whiteDone meas s)) := by
  unfold whiteDone; dsimp only; split <;> simp [h]

@[simp] theorem lampHold_slipsRight (h : SlipsRight (slipTable s)) : SlipsRight (slipTable (lampHold s)) := by
  unfold lampHold; dsimp only; split <;> simp [h]

@[simp] theorem trackDone_slipsRight (meas : Nat) (h : SlipsRight (slipTable s)) :
    SlipsRight (slipTable (trackDone meas s)) := by
  unfold trackDone; dsimp only; split <;> simp [h]

@[simp] theorem shortLine_slipsRight (h : SlipsRight (slipTable s)) :
    SlipsRight (slipTable (shortLine s)) := by
  unfold shortLine; split <;> simp [h]

@[simp] theorem trackSample_slipsRight (samples k r : Nat) (h : SlipsRight (slipTable s)) :
    SlipsRight (slipTable (trackSample samples k r s)) := by
  unfold trackSample; dsimp only; (repeat' split) <;> simp [h]

@[simp] theorem whiteSample_slipsRight (samples k r : Nat) (h : SlipsRight (slipTable s)) :
    SlipsRight (slipTable (whiteSample samples k r s)) := by
  unfold whiteSample; dsimp only; (repeat' split) <;> simp [h]

@[simp] theorem scanSample_slipsRight (k r : Nat) (h : SlipsRight (slipTable s)) :
    SlipsRight (slipTable (scanSample k r s)) := by
  unfold scanSample; dsimp only; (repeat' split) <;> simp [h]

@[simp] theorem scanIndex_slipsRight (h : SlipsRight (slipTable s)) :
    SlipsRight (slipTable (scanIndex s)) := by
  unfold scanIndex; dsimp only; split <;> simp [h]

@[simp] theorem spanDecision_slipsRight (h : SlipsRight (slipTable s)) :
    SlipsRight (slipTable (spanDecision s)) := by
  unfold spanDecision; (repeat' split) <;> simp [h]

@[simp] theorem modPosition_slipsRight (k : Nat) (h : SlipsRight (slipTable s)) :
    SlipsRight (slipTable (modPosition k s)) := by
  unfold modPosition; dsimp only; (repeat' split) <;> simp [h]

@[simp] theorem endSend_slipsRight (h : SlipsRight (slipTable s)) : SlipsRight (slipTable (endSend s)) := by
  unfold endSend; dsimp only; (repeat' split) <;> simp [h]

@[simp] theorem modSpanEnd_slipsRight (h : SlipsRight (slipTable s)) :
    SlipsRight (slipTable (modSpanEnd s)) := by
  unfold modSpanEnd; dsimp only; split <;> simp [h]

@[simp] theorem modRevolution_slipsRight (h : SlipsRight (slipTable s)) :
    SlipsRight (slipTable (modRevolution s)) := by
  unfold modRevolution; split <;> simp [h]

@[simp] theorem beginPosition_slipsRight (k sample : Nat) (h : SlipsRight (slipTable s)) :
    SlipsRight (slipTable (beginPosition k sample s)) := by simp [beginPosition, h]

@[simp] theorem spanEndReport_slipsRight (h : SlipsRight (slipTable s)) :
    SlipsRight (slipTable (spanEndReport s)) := by simp [spanEndReport, h]

@[simp] theorem indexSpanEnd_slipsRight (h : SlipsRight (slipTable s)) :
    SlipsRight (slipTable (indexSpanEnd s)) := by
  unfold indexSpanEnd; split <;> simp [h]

@[simp] theorem timerIndex_slipsRight (period : Option Nat) (scan phase : Bool) (sample : Nat)
    (h : SlipsRight (slipTable s)) : SlipsRight (slipTable (timerIndex period scan phase sample s)) := by
  have measured : SlipsRight (slipTable (startRevolution (indexSpanEnd (holdPeriod period s)))) := by
    simp [h]
  have scanned : SlipsRight (slipTable (if scan then
      scanIndex (startRevolution (indexSpanEnd (holdPeriod period s)))
    else startRevolution (indexSpanEnd (holdPeriod period s)))) :=
    ite_slipsRight (scanIndex_slipsRight measured) measured
  have ended := modRevolution_slipsRight scanned
  unfold timerIndex
  refine ite_slipsRight (beginPosition_slipsRight _ _ (ite_slipsRight ?_ ended)) ?_
  · simpa only [modPhasingIndex_slipTable] using ended
  · simpa using h

@[simp] theorem takePulse_slipsRight (sample : Nat) (h : SlipsRight (slipTable s)) :
    SlipsRight (slipTable (takePulse sample s)) := by
  unfold takePulse; (repeat' split) <;> simp [h]

/-! ### The drum reports to the line -/

@[simp] theorem reportLost_slipsRight (h : SlipsRight (slipTable s)) :
    SlipsRight (slipTable (reportLost s)) := by
  simp [reportLost, h]

@[simp] theorem drumLost_slipsRight (h : SlipsRight (slipTable s)) : SlipsRight (slipTable (drumLost s)) := by
  simp [drumLost, h]

@[simp] theorem reportFault_slipsRight (h : SlipsRight (slipTable s)) :
    SlipsRight (slipTable (reportFault s)) := by
  simp [reportFault, h]

@[simp] theorem drumFault_slipsRight (c : Option FaultCause) (h : SlipsRight (slipTable s)) :
    SlipsRight (slipTable (drumFault c s)) := by simp [drumFault, h]

@[simp] theorem slipIndex_slipsRight (r : Rpm) (e : Int) (h : SlipsRight (slipTable s)) :
    SlipsRight (slipTable (slipIndex r e s)) := by
  unfold slipIndex; dsimp only; (repeat' split) <;> simp [h]

@[simp] theorem drumIndex_slipsRight (h : SlipsRight (slipTable s)) :
    SlipsRight (slipTable (drumIndex s)) := by
  unfold drumIndex; dsimp only; (repeat' split) <;> simp [h]

@[simp] theorem demandDrum_slipsRight (k : Demand) (r : Rpm) (h : SlipsRight (slipTable s)) :
    SlipsRight (slipTable (demandDrum k r s)) := by
  unfold demandDrum; dsimp only; (repeat' split) <;> simp [h]

@[simp] theorem giveSpeed_slipsRight (r : Rpm) (h : SlipsRight (slipTable s)) :
    SlipsRight (slipTable (giveSpeed r s)) := by
  unfold giveSpeed; split <;> simp [h]

@[simp] theorem openCover_slipsRight (h : SlipsRight (slipTable s)) :
    SlipsRight (slipTable (openCover s)) := by
  unfold openCover; dsimp only; (repeat' split) <;> simp [h]

@[simp] theorem takeIndex_slipsRight (sample : Nat) (drumFirst : Bool) (h : SlipsRight (slipTable s)) :
    SlipsRight (slipTable (takeIndex sample drumFirst s)) := by
  unfold takeIndex; dsimp only; split <;> simp [h]

/-! ### The arbiter (R12, R123, R124) -/

/-- The leg of a claim that is taken has not ended (R12). -/
theorem takeClaim_slipsRight (hc : claimTaken s j l = true) (h : SlipsRight (slipTable s)) :
    SlipsRight (slipTable (takeClaim j l s)) := by
  obtain ⟨x, g, hx, hl, -, -, -, eligible⟩ := claimTaken_iff.1 hc
  refine modLeg_slipsRight (fun y hy ended => ?_) h
  obtain rfl : g = y := Option.some.inj ((leg_of_job hx hl).symm.trans hy)
  rw [terminal_eq_false_of_legEligible eligible] at ended
  cases ended

theorem attemptEvent_slipsRight (ha : ∀ g, s.leg? j l = some g → g.state = .active)
    (h : SlipsRight (slipTable s)) : SlipsRight (slipTable (attemptEvent j l s)) := by
  refine modLeg_slipsRight (fun g hg ended => ?_) h
  rw [terminal_of_active (ha g hg)] at ended
  cases ended

theorem beginCall_slipsRight (x : Job) (g : Leg) (b : DialBuf)
    (ha : ∀ y, s.leg? j l = some y → y.state = .active) (h : SlipsRight (slipTable s)) :
    SlipsRight (slipTable (beginCall j l x g b s)) := by
  unfold beginCall
  dsimp only
  generalize hu : State.setDialBuf _ _ = u
  have attempted : SlipsRight (slipTable (attemptEvent j l u)) := by
    rw [← hu]
    exact attemptEvent_slipsRight ha h
  split <;> simp [attempted]

@[simp] theorem noRouteEnd_slipsRight (j l : Nat) (h : SlipsRight (slipTable s)) :
    SlipsRight (slipTable (noRouteEnd j l s)) := by simp [noRouteEnd, h]

@[simp] theorem arbiterLook_slipsRight (n : Nat) (h : SlipsRight (slipTable s)) :
    SlipsRight (slipTable (arbiterLook n s)) := by
  induction n generalizing s with
  | zero => exact h
  | succ n ih =>
    unfold arbiterLook
    (repeat' split) <;> try (first | exact h | simpa using h)
    next hc _ b _ =>
      exact beginCall_slipsRight _ _ b (fun y hy => leg?_takeClaim hy hc) (takeClaim_slipsRight hc h)
    next hc _ _ => exact ih (noRouteEnd_slipsRight _ _ (takeClaim_slipsRight hc h))

@[simp] theorem prompt_slipsRight (h : SlipsRight (slipTable s)) : SlipsRight (slipTable (prompt s)) :=
  arbiterLook_slipsRight 5 h

end Sys2Proof.ReceiptSlips

/-! Every command and every step: the slip queue and the owed list stay right (R152, R154 to R156). -/

namespace Sys2Proof.ReceiptSlips
open Machine Laws PictureJobs Directory Calls

variable {s t : State} {j l : Nat} {lk : Link} {b : Byte}

/-! ### The slip unit's own operations (R157, R158, R161, R165, R166) -/

@[simp] theorem modSlip_slipsRight (n : Nat) (f : SlipRec → SlipRec) (h : SlipsRight (slipTable s)) :
    SlipsRight (slipTable (modSlip n f s)) := by
  obtain ⟨room, full, nodup, owed, next⟩ := slipsRight_iff.1 h
  refine slipsRight_iff.2 ⟨?_, fun hne => ?_, nodup, owed, next⟩
  · simpa [modSlip] using room
  · simpa [modSlip] using full hne

@[simp] theorem removalTest_slipsRight (n : Nat) (h : SlipsRight (slipTable s)) :
    SlipsRight (slipTable (removalTest n s)) := by
  unfold removalTest
  split
  next r hr =>
    have held : ∃ r ∈ s.slips.queue, r.number = n :=
      ⟨r, List.mem_of_find?_eq_some hr, by simpa using List.find?_some hr⟩
    exact ite_slipsRight (slipsRight_iff.2 (removeSlip_right held (slipsRight_iff.1 h))) h
  next => exact h

@[simp] theorem slipEnd_slipsRight (p : Printing) (h : SlipsRight (slipTable s)) :
    SlipsRight (slipTable (slipEnd p s)) := by
  unfold slipEnd; dsimp only; split <;> simp [h]

@[simp] theorem strobe_slipsRight (p : Printing) (b : Byte) (h : SlipsRight (slipTable s)) :
    SlipsRight (slipTable (strobe p b s)) := by
  unfold strobe; dsimp only; (repeat' split) <;> simp [h]

@[simp] theorem printStep_slipsRight (paperOut busy : Bool) (p : Printing) (ch : Byte)
    (h : SlipsRight (slipTable s)) : SlipsRight (slipTable (printStep paperOut busy p ch s)) := by
  unfold printStep; dsimp only; (repeat' split) <;> simp [h]

@[simp] theorem collect_slipsRight (r : SlipRec) (h : SlipsRight (slipTable s)) :
    SlipsRight (slipTable (collect r s)) := by simp [collect, h]

/-- A removal takes one record of its number, so that the other numbers to be removed are still held. -/
theorem subperm_removeSlip {n : Nat} {ns : List Nat}
    (hn : (n :: ns).Subperm (s.slips.queue.map fun (r : SlipRec) => r.number)) (h : SlipQueueRight s) :
    ns.Subperm ((removeSlip n s).slips.queue.map fun (r : SlipRec) => r.number) := by
  have rest : ns.Subperm
      ((s.slips.queue.eraseP fun (r : SlipRec) => r.number == n).map fun (r : SlipRec) => r.number) := by
    have erased := hn.erase n
    rw [List.erase_cons_head, List.erase_eq_eraseP', List.eraseP_map] at erased
    exact erased
  cases ho : s.slips.owed with
  | nil => rwa [removeSlip_of_nil n ho]
  | cons p owed =>
    obtain ⟨j, l⟩ := p
    obtain ⟨-, -, -, legs, -⟩ := h
    obtain ⟨g, hg, -⟩ := legs j l (by simp [ho])
    obtain ⟨r, -, -, -, -, queue, -⟩ := removeSlip_of_cons n ho hg
    rw [queue, List.map_append]
    exact rest.trans (List.sublist_append_left _ _).subperm

theorem foldl_removeSlip_right {ns : List Nat}
    (hn : ns.Subperm (s.slips.queue.map fun (r : SlipRec) => r.number)) (h : SlipQueueRight s) :
    SlipQueueRight (ns.foldl (fun t n => removeSlip n t) s) := by
  induction ns generalizing s with
  | nil => exact h
  | cons n ns ih =>
    have held : n ∈ s.slips.queue.map fun (r : SlipRec) => r.number := hn.subset (List.mem_cons_self ..)
    exact ih (subperm_removeSlip hn h) (removeSlip_right (List.mem_map.1 held) h)

@[simp] theorem collectionOff_slipsRight (h : SlipsRight (slipTable s)) :
    SlipsRight (slipTable (collectionOff s)) := by
  have off : SlipQueueRight (s.setSlips { s.slips with collection := false }) := slipsRight_iff.1 h
  exact slipsRight_iff.2 (foldl_removeSlip_right (List.filter_sublist.map _).subperm off)

/-! ### What prompts the arbiter: the hold, the leg-end flag and the clock (R9, R17, R185, R194) -/

@[simp] theorem releaseHold_slipsRight (h : SlipsRight (slipTable s)) :
    SlipsRight (slipTable (releaseHold s)) := by
  unfold releaseHold; split <;> simp [h]

@[simp] theorem clearLegEnd_slipsRight (h : SlipsRight (slipTable s)) :
    SlipsRight (slipTable (clearLegEnd s)) := by
  unfold clearLegEnd; split <;> simp [h]

@[simp] theorem compareRetries_slipsRight (h : SlipsRight (slipTable s)) :
    SlipsRight (slipTable (compareRetries s)) := by
  unfold compareRetries; split <;> simp [h]

/-- The wrap of the clock changes legs in RETRY_WAIT alone (R17). -/
@[simp] theorem wrapJobs_slipsRight (h : SlipsRight (slipTable s)) : SlipsRight (slipTable (wrapJobs s)) := by
  refine SlipsRight.of_endedStay (s := s) (fun i k g hg ended => ?_) rfl h
  obtain ⟨x, hx, hk⟩ := Option.bind_eq_some_iff.1 hg
  have waits : g.state ≠ .retryWait := fun hw => by
    rw [hw] at ended
    cases ended
  refine leg_of_job (x := { x with legs := x.legs.map Leg.wrapped }) (by rw [job?_wrapJobs, hx]; rfl) ?_
  rw [List.getElem?_map, hk, Option.map_some, Leg.wrapped, if_neg waits]

@[simp] theorem clockTick_slipsRight (h : SlipsRight (slipTable s)) :
    SlipsRight (slipTable (clockTick s)) := by
  unfold clockTick; dsimp only; split <;> simp [h]

/-! ### The parts of the requests -/

/-- The slip queue and the owed list stay right. -/
def SlipsKept (s t : State) : Prop := SlipsRight (slipTable s) → SlipsRight (slipTable t)

theorem SlipsKept.refl (s : State) : SlipsKept s s := id

theorem onJob_slipsKept {own : Option Link} {k : Job → Reply × State}
    (hk : ∀ x, s.job? j = some x → SlipsKept s (k x).2) : SlipsKept s (onJob j own s k).2 :=
  onJob_snd (SlipsKept.refl s) hk

theorem serveOpenJob_slipsKept (lk : Link) (args : List Byte) (s : State) :
    SlipsKept s (serveOpenJob lk args s).2 := by
  intro h
  unfold serveOpenJob
  (repeat' split) <;> try exact h
  next hj =>
    obtain ⟨hlt, free⟩ := freeEntry_spec hj
    rw [acceptWith_snd, causeJob_slipTable]
    exact setJob_slipsRight hlt (fun x hx => by simp [free] at hx) h

theorem serveAddLeg_slipsKept (lk : Link) (args : List Byte) (s : State) :
    SlipsKept s (serveAddLeg lk args s).2 := by
  unfold serveAddLeg
  split
  · refine onJob_slipsKept fun x hx h => ?_
    (repeat' split) <;> try exact h
    refine setJob_slipsRight (job_lt hx) (fun y hy => ⟨_, rfl, fun k g hk _ => ?_⟩) h
    obtain rfl : x = y := Option.some.inj (hx.symm.trans hy)
    obtain ⟨hlt, -⟩ := List.getElem?_eq_some_iff.1 hk
    exact (List.getElem?_append_left hlt).trans hk
  · exact .refl s

theorem serveCommitJob_slipsKept (lk : Link) (args : List Byte) (s : State) :
    SlipsKept s (serveCommitJob lk args s).2 := by
  unfold serveCommitJob
  split
  · refine onJob_slipsKept fun x hx h => ?_
    (repeat' split) <;> try exact h
    simp [commitJob, setJob_slipsRight_of_legs hx, h]
  · exact .refl s

theorem serveCancelJob_slipsKept (lk : Link) (args : List Byte) (s : State) :
    SlipsKept s (serveCancelJob lk args s).2 := by
  unfold serveCancelJob
  split
  next j =>
    refine onJob_slipsKept fun x hx h => ?_
    (repeat' split) <;> try exact h
    · exact abortCall_slipsRight (cancelWaiting_slipsRight _ (setJob_slipsRight_of_legs hx rfl h))
    · have ended := endJob_slipsRight j.toNat .cancelled (cancelWaiting_slipsRight j.toNat h)
      exact ite_slipsRight ended (prompt_slipsRight ended)
  · exact .refl s

/-- A job with an owed slip is not cleared (R23). -/
theorem serveClearJob_slipsKept (lk : Link) (args : List Byte) (s : State) :
    SlipsKept s (serveClearJob lk args s).2 := by
  unfold serveClearJob
  split
  next j =>
    refine onJob_slipsKept fun x hx h => ?_
    split
    · exact h
    · split
      · exact h
      next unflagged =>
        obtain ⟨room, full, nodup, owed, next⟩ := slipsRight_iff.1 h
        rw [accept_snd, causeJob_slipTable]
        refine slipsRight_iff.2 ⟨room, full, nodup, fun i k hm => ?_, next⟩
        obtain ⟨g, hg, flag, ended⟩ := owed i k hm
        rw [leg?_setJob s none (job_lt hx), if_neg]
        · exact ⟨g, hg, flag, ended⟩
        · rintro rfl
          obtain ⟨y, hy, hk⟩ := Option.bind_eq_some_iff.1 hg
          obtain rfl : x = y := Option.some.inj (hx.symm.trans hy)
          exact unflagged (List.any_eq_true.2 ⟨g, List.mem_of_getElem? hk, flag⟩)
  · exact .refl s

theorem serveSetPriority_slipsKept (args : List Byte) (s : State) :
    SlipsKept s (serveSetPriority args s).2 := by
  unfold serveSetPriority
  split
  · refine onJob_slipsKept fun x hx h => ?_
    dsimp only
    (repeat' split) <;> try exact h
    · simp [setJob_slipsRight_of_legs hx, h]
    · simp [setJob_slipsRight_of_legs hx, h]
  · exact .refl s

theorem serveMount_slipsKept (args : List Byte) (s : State) : SlipsKept s (serveMount args s).2 := by
  unfold serveMount
  split
  · refine onJob_slipsKept fun x hx h => ?_
    (repeat' split) <;> try exact h
    refine prompt_slipsRight (setJobState_slipsRight _ _ ?_)
    rw [leaveQueue_slipTable]
    exact setJob_slipsRight_of_legs hx rfl h
  · exact .refl s

/-- UNMOUNT takes the resume point of the legs that have not ended (R11). -/
theorem serveUnmount_slipsKept (args : List Byte) (s : State) : SlipsKept s (serveUnmount args s).2 := by
  unfold serveUnmount
  split
  · refine onJob_slipsKept fun x hx h => ?_
    (repeat' split) <;> try exact h
    rw [accept_snd, unmountJob, joinQueue_slipTable]
    refine setJobState_slipsRight _ _
      (setJob_slipsRight (job_lt hx) (fun y hy => ⟨_, rfl, fun k g hk ended => ?_⟩) h)
    obtain rfl : x = y := Option.some.inj (hx.symm.trans hy)
    simp [hk, Leg.unmounted, ended]
  · exact .refl s

theorem serveSkipLeg_slipsKept (args : List Byte) (s : State) : SlipsKept s (serveSkipLeg args s).2 := by
  unfold serveSkipLeg
  split
  · refine onJob_slipsKept fun x hx h => ?_
    split
    · exact h
    next g hg =>
      split
      · exact h
      next hs =>
        split
        · exact h
        · have skipped := legTerminal_slipsRight (st := .skipped) rfl (fun k hk => by
            obtain rfl : g = k := Option.some.inj ((leg_of_job hx hg).symm.trans hk)
            exact Bool.eq_false_iff.2 fun ended => hs (.inr ended)) h
          exact ite_slipsRight (by simp [skipped]) skipped
  · exact .refl s

theorem serveTalk_slipsKept (args : List Byte) (s : State) : SlipsKept s (serveTalk args s).2 := by
  intro h
  unfold serveTalk takeTalk; (repeat' split) <;> simp [h]

theorem serveEndTalk_slipsKept (args : List Byte) (s : State) : SlipsKept s (serveEndTalk args s).2 := by
  intro h
  unfold serveEndTalk; (repeat' split) <;> simp [h]

theorem serveDrumRun_slipsKept (args : List Byte) (s : State) : SlipsKept s (serveDrumRun args s).2 := by
  intro h
  unfold serveDrumRun; (repeat' split) <;> simp [h]

theorem serveDrumStop_slipsKept (args : List Byte) (s : State) : SlipsKept s (serveDrumStop args s).2 := by
  intro h
  unfold serveDrumStop; (repeat' split) <;> simp [h]

theorem serveCollectSlip_slipsKept (args : List Byte) (s : State) :
    SlipsKept s (serveCollectSlip args s).2 := by
  intro h
  unfold serveCollectSlip; split <;> simp [h]

theorem serveReprintSlip_slipsKept (args : List Byte) (s : State) :
    SlipsKept s (serveReprintSlip args s).2 := by
  intro h
  unfold serveReprintSlip; (repeat' split) <;> simp [h]

theorem serveSetCollection_slipsKept (args : List Byte) (s : State) :
    SlipsKept s (serveSetCollection args s).2 := by
  intro h
  unfold serveSetCollection; (repeat' split) <;> simp [h]

theorem serveSetModes_slipsKept (args : List Byte) (s : State) : SlipsKept s (serveSetModes args s).2 := by
  intro h
  unfold serveSetModes changeModes; (repeat' split) <;> simp [h]

theorem serveSetAttn_slipsKept (lk : Link) (args : List Byte) (s : State) :
    SlipsKept s (serveSetAttn lk args s).2 := by
  intro h
  unfold serveSetAttn; (repeat' split) <;> simp [h]

theorem serveSetClock_slipsKept (args : List Byte) (s : State) : SlipsKept s (serveSetClock args s).2 := by
  intro h
  unfold serveSetClock; (repeat' split) <;> simp [h]

theorem serveWriteSetting_slipTable (args : List Byte) (s : State) :
    slipTable (serveWriteSetting args s).2 = slipTable s := by
  obtain ⟨x, d, hx⟩ := serveWriteSetting_writes args s
  rw [hx]
  rfl

theorem serveWriteRoute_slipTable (args : List Byte) (s : State) :
    slipTable (serveWriteRoute args s).2 = slipTable s := by
  obtain ⟨x, hx⟩ := serveWriteRoute_writes args s
  rw [hx]
  rfl

theorem serveEraseRoute_slipTable (args : List Byte) (s : State) :
    slipTable (serveEraseRoute args s).2 = slipTable s := by
  obtain ⟨x, hx⟩ := serveEraseRoute_writes args s
  rw [hx]
  rfl

theorem serveWriteCurve_slipTable (args : List Byte) (s : State) :
    slipTable (serveWriteCurve args s).2 = slipTable s := by
  obtain ⟨x, hx⟩ := serveWriteCurve_writes args s
  rw [hx]
  rfl

theorem serveReadJob_slipTable (args : List Byte) (s : State) :
    slipTable (serveReadJob args s).2 = slipTable s := by
  unfold serveReadJob; (repeat' split) <;> rfl

theorem serveReadLeg_slipTable (args : List Byte) (s : State) :
    slipTable (serveReadLeg args s).2 = slipTable s := by
  unfold serveReadLeg
  split
  · refine onJob_snd (P := fun t => slipTable t = slipTable s) rfl fun x _ => ?_
    split <;> rfl
  · rfl

theorem serveReadRoute_slipTable (args : List Byte) (s : State) :
    slipTable (serveReadRoute args s).2 = slipTable s := by
  unfold serveReadRoute; (repeat' split) <;> rfl

theorem serveReadSetting_slipTable (args : List Byte) (s : State) :
    slipTable (serveReadSetting args s).2 = slipTable s := by
  unfold serveReadSetting; (repeat' split) <;> rfl

/-! ### The resets (R26, R179) -/

@[simp] theorem lineReset_slipTable (s : State) : slipTable (lineReset s) = slipTable s := by
  cases h : s.line.state.hookClosed with
  | false => rw [lineReset_of_open h]; rfl
  | true => rw [lineReset_of_closed h]; rfl

/-- Machine reset empties the owed list with the job table, and keeps the records (R179). -/
theorem machineReset_slipsKept (s : State) : SlipsKept s (machineReset s) := by
  intro h
  obtain ⟨room, -, -, -, next⟩ := slipsRight_iff.1 h
  obtain ⟨-, queue, -, number⟩ := slipTable_eq_iff.1 (lineReset_slipTable s)
  rw [machineReset_eq]
  refine slipsRight_iff.2 ⟨?_, fun hne => absurd rfl hne, List.nodup_nil, fun _ _ hm => ?_, ?_⟩
  · rwa [queue]
  · exact absurd hm List.not_mem_nil
  · rwa [number]

theorem powerOnReset_slipsKept {coverOpen home loop paperOut busy : Bool}
    (h : exec (.powerOnReset coverOpen home loop paperOut busy) s = .next t) : SlipsKept s t := by
  obtain rfl := Host.Outcome.next.inj h
  obtain ⟨-, -, -, -, -, -, -, -, -, -, right, -⟩ := DrumDrive.resetHasEveryInvariant
  exact fun _ => slipsRight_iff.2 (slipQueueRight_of_slipTable rfl right)

/-! ### Every command and every step -/

theorem slipsKept_of_slipTable (h : slipTable t = slipTable s) : SlipsKept s t := fun k => h ▸ k

/-- Neither passing time nor a link's record touches the slips. -/
theorem slipsKept_of_ran (h : Ran SlipsKept s t) : SlipsKept s t := by
  intro k
  cases h with
  | idle => exact k
  | timed dt h => exact h (by simpa using k)
  | served lk r h => simpa using h (by simpa using k)

theorem request_slipsKept {c : Code} {serve : Serve} (hs : ∀ args u, SlipsKept u (serve args u).2)
    (h : request c lk b serve s = .next t) : SlipsKept s t :=
  slipsKept_of_ran (ran_of_request SlipsKept.refl hs h)

/-- A request whose block leaves the slips as they are. -/
theorem request_slipsKept_of_slipTable {c : Code} {serve : Serve}
    (hs : ∀ args u, slipTable (serve args u).2 = slipTable u) (h : request c lk b serve s = .next t) :
    SlipsKept s t := request_slipsKept (fun args u => slipsKept_of_slipTable (hs args u)) h

theorem exec_slipsKept {c : Instr} (h : exec c s = .next t) : SlipsKept s t := by
  cases c with
  | unknownRequest lk b =>
    refine slipsKept_of_slipTable ?_
    change execUnknownRequest lk b s = .next t at h
    unfold execUnknownRequest at h
    (repeat' split at h) <;> obtain rfl := Host.Outcome.next.inj h <;> simp
  | openJob lk b => exact request_slipsKept (serveOpenJob_slipsKept lk) h
  | addLeg lk b => exact request_slipsKept (serveAddLeg_slipsKept lk) h
  | commitJob lk b => exact request_slipsKept (serveCommitJob_slipsKept lk) h
  | cancelJob lk b => exact request_slipsKept (serveCancelJob_slipsKept lk) h
  | clearJob lk b => exact request_slipsKept (serveClearJob_slipsKept lk) h
  | setPriority lk b => exact request_slipsKept serveSetPriority_slipsKept h
  | mount lk b => exact request_slipsKept serveMount_slipsKept h
  | unmount lk b => exact request_slipsKept serveUnmount_slipsKept h
  | skipLeg lk b => exact request_slipsKept serveSkipLeg_slipsKept h
  | talk lk b => exact request_slipsKept serveTalk_slipsKept h
  | endTalk lk b => exact request_slipsKept serveEndTalk_slipsKept h
  | drumRun lk b => exact request_slipsKept serveDrumRun_slipsKept h
  | drumStop lk b => exact request_slipsKept serveDrumStop_slipsKept h
  | holdQueue lk b => exact request_slipsKept_of_slipTable (fun _ u => holdQueue_slipTable u .operator) h
  | releaseQueue lk b => exact request_slipsKept (fun _ _ k => releaseHold_slipsRight k) h
  | setModes lk b => exact request_slipsKept serveSetModes_slipsKept h
  | collectSlip lk b => exact request_slipsKept serveCollectSlip_slipsKept h
  | reprintSlip lk b => exact request_slipsKept serveReprintSlip_slipsKept h
  | setCollection lk b => exact request_slipsKept serveSetCollection_slipsKept h
  | setClock lk b => exact request_slipsKept serveSetClock_slipsKept h
  | setAttn lk b => exact request_slipsKept (serveSetAttn_slipsKept lk) h
  | readAttn lk b =>
    exact request_slipsKept (fun _ u k => by unfold readAttention; split <;> simp [k]) h
  | machineReset lk b => exact request_slipsKept (fun _ u => machineReset_slipsKept u) h
  | powerOnReset v w x y z => exact powerOnReset_slipsKept h
  | writeRoute lk b => exact request_slipsKept_of_slipTable serveWriteRoute_slipTable h
  | eraseRoute lk b => exact request_slipsKept_of_slipTable serveEraseRoute_slipTable h
  | writeSetting lk b => exact request_slipsKept_of_slipTable serveWriteSetting_slipTable h
  | writeCurve lk b => exact request_slipsKept_of_slipTable serveWriteCurve_slipTable h
  | readJob lk b => exact request_slipsKept_of_slipTable serveReadJob_slipTable h
  | readLeg lk b => exact request_slipsKept_of_slipTable serveReadLeg_slipTable h
  | readRoute lk b => exact request_slipsKept_of_slipTable serveReadRoute_slipTable h
  | readSetting lk b => exact request_slipsKept_of_slipTable serveReadSetting_slipTable h
  | readQueue lk b | readLine lk b | readDrum lk b | readSlipState lk b | readCurve lk b | readClock lk b
  | identify lk b => exact request_slipsKept_of_slipTable (fun _ _ => rfl) h
  | selectStart dt lk b | selectRelease dt lk part | replyRead dt lk | byteClock dt lk b
  | index dt sample drumFirst | encoderPulse dt sample | loopSenseChange dt present | coverClose dt =>
    -- What the command does is one operation, whatever the state.
    obtain rfl := Host.Outcome.next.inj h
    refine slipsKept_of_ran (.timed dt fun k => ?_)
    generalize elapse dt s = u at k ⊢
    simp [k]
  | positionStart dt sample | spanEnd dt | indexTimeout dt | spinupLimitExpiry dt | brakingStillness dt
  | idleStop dt | coverOpen dt | headStep dt home | homingFailure dt | scanStepEnd dt home | phaseUpdate dt
  | markStepEnd dt | toneOnEnd dt | toneOffEnd dt | breakEnd dt | makeEnd dt | interdigitEnd dt | pauseEnd dt
  | flashEnd dt | seizeWindowEnd dt loop | readyEvent dt freq held | answerTimeoutExpiry dt
  | prepareLimitExpiry dt | bridgeLimitExpiry dt | stopTimeExpiry dt | symbolDetected dt rowHz colHz held gap
  | answerbackWindowExpiry dt | answerbackDeadline dt | loopLost dt | guardTimeExpiry dt | clockSecond dt
  | printCharacter dt paperOut busy | paperOutClears dt | busyTimeout dt | busyLowInFault dt
  | lampFrame dt paperOut =>
    -- An event that is due is a shared operation; one that is not brings at most a pin's level (log 3, 23).
    obtain rfl := Host.Outcome.next.inj h
    refine slipsKept_of_ran (.timed dt fun k => ?_)
    generalize elapse dt s = u at k ⊢
    dsimp only
    (repeat' split) <;> simp [k]

/-- A step lets one µs pass, or runs the front command on the rest of the queue. -/
theorem step_slipsKept (h : step s = .next t) : SlipsKept s t := by
  unfold step at h
  split at h
  · obtain rfl := Host.Outcome.next.inj h
    exact slipsKept_of_slipTable (elapse_slipTable s 16)
  next c rest _ => exact fun k => exec_slipsKept h (by simpa using k)

/-- Settles O14, by `step_slipsKept`. -/
theorem stepsKeepSlipQueueAndOwedList : Obligations.StepsKeepSlipQueueAndOwedList := fun _ _ hs h =>
  slipsRight_iff.1 (step_slipsKept h (slipsRight_iff.2 hs))

end Sys2Proof.ReceiptSlips

/-! What a station sees of the part: the link records, the attention, local and attended mode; and what leaves
them as they are, one lemma per operation (R171, R180, R184). -/

namespace Sys2Proof.StationLinks
open Machine

/-- What belongs to the two stations: each link's record and attention, and the two modes of the panel. -/
structure Station where
  link : Link → LinkRec
  attn : Link → Attn
  localMode : Bool
  attended : Bool

/-- The stations' part of a state. -/
def station (s : State) : Station where
  link := s.link
  attn := s.attn
  localMode := s.modes.localMode
  attended := s.modes.attended

variable (s : State)

/-! ### The named writes -/

@[simp] theorem setPending_station (x) : station (s.setPending x) = station s := (rfl)
@[simp] theorem setJobs_station (x) : station (s.setJobs x) = station s := (rfl)
@[simp] theorem setCommitCounter_station (x) : station (s.setCommitCounter x) = station s := (rfl)
@[simp] theorem setMountQueue_station (x) : station (s.setMountQueue x) = station s := (rfl)
@[simp] theorem setRoutes_station (x) : station (s.setRoutes x) = station s := (rfl)
@[simp] theorem setDrum_station (x) : station (s.setDrum x) = station s := (rfl)
@[simp] theorem setPosTimer_station (x) : station (s.setPosTimer x) = station s := (rfl)
@[simp] theorem setHead_station (x) : station (s.setHead x) = station s := (rfl)
@[simp] theorem setScan_station (x) : station (s.setScan x) = station s := (rfl)
@[simp] theorem setRing_station (x) : station (s.setRing x) = station s := (rfl)
@[simp] theorem setModu_station (x) : station (s.setModu x) = station s := (rfl)
@[simp] theorem setMarkGen_station (x) : station (s.setMarkGen x) = station s := (rfl)
@[simp] theorem setDialer_station (x) : station (s.setDialer x) = station s := (rfl)
@[simp] theorem setDialBuf_station (x) : station (s.setDialBuf x) = station s := (rfl)
@[simp] theorem setLine_station (x) : station (s.setLine x) = station s := (rfl)
@[simp] theorem setSlips_station (x) : station (s.setSlips x) = station s := (rfl)
@[simp] theorem setSettings_station (x) : station (s.setSettings x) = station s := (rfl)
@[simp] theorem setCurve_station (x) : station (s.setCurve x) = station s := (rfl)
@[simp] theorem setClock_station (x) : station (s.setClock x) = station s := (rfl)
@[simp] theorem setPins_station (x) : station (s.setPins x) = station s := (rfl)
@[simp] theorem setAux_station (x) : station (s.setAux x) = station s := (rfl)
@[simp] theorem setModes_legEnd_station (b : Bool) :
    station (s.setModes { s.modes with legEnd := b }) = station s := (rfl)
@[simp] theorem elapse_station (dt : Nat) : station (elapse dt s) = station s := (rfl)

/-! ### Jobs, legs and slips (R13, R14, R157 to R163) -/

@[simp] theorem setJob_station (j : Nat) (x : Option Job) : station (s.setJob j x) = station s := (rfl)
@[simp] theorem modLeg_station (j l : Nat) (f : Leg → Leg) : station (s.modLeg j l f) = station s := by
  unfold State.modLeg; split <;> rfl
@[simp] theorem takeClaim_station (j l : Nat) : station (takeClaim j l s) = station s := by simp [takeClaim]
@[simp] theorem attemptEvent_station (j l : Nat) : station (attemptEvent j l s) = station s := by
  simp [attemptEvent]
@[simp] theorem modActive_station (f : Leg → Leg) : station (modActive f s) = station s := by
  unfold modActive; split <;> simp
@[simp] theorem noteEvent_station (k : NoteKind) : station (noteEvent k s) = station s := by simp [noteEvent]
@[simp] theorem lineSentEvent_station : station (lineSentEvent s) = station s := by simp [lineSentEvent]
@[simp] theorem wrapJobs_station : station (wrapJobs s) = station s := (rfl)
@[simp] theorem beginSlip_station (i : PrintItem) : station (beginSlip i s) = station s := (rfl)
@[simp] theorem printerLook_station : station (printerLook s) = station s := by
  unfold printerLook; (repeat' split) <;> rfl
@[simp] theorem modSlip_station (n : Nat) (f : SlipRec → SlipRec) : station (modSlip n f s) = station s := (rfl)
@[simp] theorem restartSlip_station : station (restartSlip s) = station s := by
  unfold restartSlip; split <;> rfl

/-! ### The drum, the ring and the tones -/

@[simp] theorem startIdle_station : station (startIdle s) = station s := by unfold startIdle; split <;> rfl
@[simp] theorem drumBraking_station : station (drumBraking s) = station s := (rfl)
@[simp] theorem countIndex_station : station (countIndex s) = station s := (rfl)
@[simp] theorem lockedIndex_station (r : Rpm) (e : Int) : station (lockedIndex r e s) = station s := by
  unfold lockedIndex; split <;> rfl
@[simp] theorem spinupIndex_station (r : Rpm) (p : Nat) : station (spinupIndex r p s) = station s := by
  unfold spinupIndex; split <;> rfl
@[simp] theorem idleCompared_station (n : Nat) : station (idleCompared n s) = station s := by
  unfold idleCompared; split <;> rfl
@[simp] theorem setSlot_station (i : Nat) (x : Slot) : station (s.setSlot i x) = station s := (rfl)
@[simp] theorem emptyRing_station : station (emptyRing s) = station s := (rfl)
@[simp] theorem modSilent_station : station (modSilent s) = station s := (rfl)
@[simp] theorem modTone_station (f : Nat) : station (modTone f s) = station s := (rfl)
@[simp] theorem modMode_station (m : Mode) (f : Nat) : station (modMode m f s) = station s := (rfl)
@[simp] theorem startPair_station (k : KeySym) : station (startPair k s) = station s := (rfl)
@[simp] theorem markTone_station : station (markTone s) = station s := by unfold markTone; split <;> rfl
@[simp] theorem startMark_station : station (startMark s) = station s := by simp [startMark]
@[simp] theorem stopMark_station : station (stopMark s) = station s := (rfl)
@[simp] theorem blackHold_station : station (blackHold s) = station s := (rfl)
@[simp] theorem bridgeMode_station : station (bridgeMode s) = station s := by
  simp [bridgeMode, unsend]
@[simp] theorem stopMode_station : station (stopMode s) = station s := by
  simp [stopMode, unsend]
@[simp] theorem phasingMode_station (target : Nat) : station (phasingMode target s) = station s := (rfl)
@[simp] theorem updateDac_station : station (updateDac s) = station s := by unfold updateDac; split <;> rfl
@[simp] theorem markSilence_station : station (markSilence s) = station s := (rfl)
@[simp] theorem markNext_station : station (markNext s) = station s := by
  unfold markNext; dsimp only; split <;> simp

/-! ### The scanner, the head and the position timer -/

@[simp] theorem abandonFilling_station : station (abandonFilling s) = station s := by
  unfold abandonFilling; split <;> rfl
@[simp] theorem scanIdle_station : station (scanIdle s) = station s := by simp [scanIdle]
@[simp] theorem scanHalt_station : station (scanHalt s) = station s := by unfold scanHalt; split <;> simp
@[simp] theorem scanResume_station : station (scanResume s) = station s := by unfold scanResume; split <;> rfl
@[simp] theorem scanTransmission_station : station (scanTransmission s) = station s := by
  unfold scanTransmission; split <;> rfl
@[simp] theorem scanPicture_station : station (scanPicture s) = station s := by
  unfold scanPicture; split <;> rfl
@[simp] theorem scanFinished_station : station (scanFinished s) = station s := by
  unfold scanFinished; split <;> simp
@[simp] theorem scanWaitTest_station : station (scanWaitTest s) = station s := by
  unfold scanWaitTest; split <;> rfl
@[simp] theorem scanPositioned_station (p : Nat) : station (scanPositioned p s) = station s := by
  unfold scanPositioned; split <;> simp
@[simp] theorem headPulse_station (forward : Bool) : station (headPulse forward s) = station s := (rfl)
@[simp] theorem headPositioned_station : station (headPositioned s) = station s := by simp [headPositioned]
@[simp] theorem headMoving_station : station (headMoving s) = station s := (rfl)
@[simp] theorem homeReached_station : station (homeReached s) = station s := by
  unfold homeReached; split <;> simp
@[simp] theorem enterHoming_station : station (enterHoming s) = station s := by
  unfold enterHoming; split <;> simp
@[simp] theorem positionIdle_station (p : Nat) : station (positionIdle p s) = station s := by
  unfold positionIdle; (repeat' split) <;> simp
@[simp] theorem positioningRequest_station (p : Nat) : station (positioningRequest p s) = station s := by
  unfold positioningRequest; (repeat' split) <;> simp
@[simp] theorem scanStep_station : station (scanStep s) = station s := by unfold scanStep; split <;> rfl
@[simp] theorem senseHome_station (home : Bool) : station (senseHome home s) = station s := (rfl)
@[simp] theorem homingStep_station (home : Bool) : station (homingStep home s) = station s := by
  unfold homingStep; split <;> simp
@[simp] theorem movingStep_station (home : Bool) : station (movingStep home s) = station s := by
  unfold movingStep; dsimp only; split <;> simp
@[simp] theorem endScanStep_station (home : Bool) : station (endScanStep home s) = station s := by
  unfold endScanStep; dsimp only; (repeat' split) <;> simp
@[simp] theorem beginPreparation_station (samples lineCount : Nat) (speed : Rpm) (resume : Nat) :
    station (beginPreparation samples lineCount speed resume s) = station s := by simp [beginPreparation]
@[simp] theorem darkDone_station (sum samples : Nat) : station (darkDone sum samples s) = station s := (rfl)
@[simp] theorem scanLost_station : station (scanLost s) = station s := by
  unfold scanLost; (repeat' split) <;> rfl
@[simp] theorem scanRetested_station (t : State) : station (scanRetested s t) = station t := by
  unfold scanRetested; split <;> simp
@[simp] theorem scanFault_station : station (scanFault s) = station s := by simp [scanFault]
@[simp] theorem captureBegin_station : station (captureBegin s) = station s := by
  unfold captureBegin; (repeat' split) <;> rfl
@[simp] theorem captureDone_station (f : Filling) (levels : List Nat) :
    station (captureDone f levels s) = station s := by simp [captureDone]
@[simp] theorem writeLevel_station (samples r : Nat) : station (writeLevel samples r s) = station s := by
  unfold writeLevel; (repeat' split) <;> simp
@[simp] theorem shortLine_station : station (shortLine s) = station s := by
  unfold shortLine; split <;> simp
@[simp] theorem darkEnd_station : station (darkEnd s) = station s := by
  unfold darkEnd; dsimp only; (repeat' split) <;> rfl
@[simp] theorem scanSpanEnd_station : station (scanSpanEnd s) = station s := by
  unfold scanSpanEnd; split <;> simp
@[simp] theorem warmIndex_station : station (warmIndex s) = station s := by unfold warmIndex; split <;> rfl
@[simp] theorem darkIndex_station : station (darkIndex s) = station s := by
  unfold darkIndex; (repeat' split) <;> simp
@[simp] theorem scanIndex_station : station (scanIndex s) = station s := by
  unfold scanIndex; split <;> simp
@[simp] theorem spanDecision_station : station (spanDecision s) = station s := by
  unfold spanDecision; (repeat' split) <;> simp
@[simp] theorem modPosition_station (k : Nat) : station (modPosition k s) = station s := by
  unfold modPosition; dsimp only; (repeat' split) <;> simp
@[simp] theorem loadTimer_station (samples : Nat) (speed : Rpm) :
    station (loadTimer samples speed s) = station s := (rfl)
@[simp] theorem holdPeriod_station (p : Option Nat) : station (holdPeriod p s) = station s := (rfl)
@[simp] theorem startRevolution_station : station (startRevolution s) = station s := (rfl)

/-! ### The line, the dialer and the clock -/

@[simp] theorem startLimit_station (l : Limit) (us : Nat) : station (s.startLimit l us) = station s := (rfl)
@[simp] theorem dialStep_station (st : DialerState) (us : Nat) : station (dialStep st us s) = station s := (rfl)
@[simp] theorem stopDialer_station : station (stopDialer s) = station s := (rfl)
@[simp] theorem dialBreak_station (r : PulseRate) : station (dialBreak r s) = station s := (rfl)
@[simp] theorem beginSymbol_station (d : DialSpec) (x : DialSym) : station (beginSymbol d x s) = station s := by
  unfold beginSymbol; (repeat' split) <;> rfl
@[simp] theorem callGone_station : station (callGone s) = station s := by simp [callGone]
@[simp] theorem legEndReport_station : station (legEndReport s) = station s := by
  unfold legEndReport; split <;> rfl
@[simp] theorem beginClosing_station (c : Closing) : station (beginClosing c s) = station s := by
  simp [beginClosing]
@[simp] theorem lineWithdrawn_station : station (lineWithdrawn s) = station s := (rfl)
@[simp] theorem lineSlipRev_station : station (lineSlipRev s) = station s := by
  unfold lineSlipRev; split <;> simp
@[simp] theorem changeSense_station (present : Bool) : station (changeSense present s) = station s := (rfl)
@[simp] theorem setTime_station (day second : Nat) : station (setTime day second s) = station s := (rfl)
@[simp] theorem clockTick_station : station (clockTick s) = station s := by unfold clockTick; split <;> rfl

end Sys2Proof.StationLinks

/-! The cause events, and the operations that send them: the latches they set stay set, and nothing else of the
stations changes (R180, R181). -/

namespace Sys2Proof.StationLinks
open Machine Laws

/-- Cause events may have come in between: a latch that was set is set still; the links, the enables, the masks,
the global masks and the modes are as they were (R171, R180, R184). -/
structure Station.Rises (x y : Station) : Prop where
  link : y.link = x.link
  settings : ∀ lk, attnCfg (y.attn lk) = attnCfg (x.attn lk)
  latches : ∀ (lk : Link) (n : Nat), (x.attn lk).latches.getLsbD n = true → (y.attn lk).latches.getLsbD n = true
  localMode : y.localMode = x.localMode
  attended : y.attended = x.attended

variable {x y z : Station} {s : State}

@[simp] theorem Station.Rises.refl (x : Station) : x.Rises x := ⟨rfl, fun _ => rfl, fun _ _ => id, rfl, rfl⟩

theorem Station.Rises.trans (h : x.Rises y) (k : y.Rises z) : x.Rises z where
  link := k.link.trans h.link
  settings lk := (k.settings lk).trans (h.settings lk)
  latches lk n hn := k.latches lk n (h.latches lk n hn)
  localMode := k.localMode.trans h.localMode
  attended := k.attended.trans h.attended

@[simp] theorem ite_rises {c : Prop} [Decidable c] {t : State} (h : x.Rises (station s))
    (k : x.Rises (station t)) : x.Rises (station (if c then s else t)) := by
  split
  · exact h
  · exact k

/-! ### The cause events (R180) -/

theorem latch_latches {a : Attn} (c : Cause) {n : Nat} (h : a.latches.getLsbD n = true) :
    (a.latch c).latches.getLsbD n = true := by
  unfold Attn.latch
  split
  · simp [Attn.refresh, h]
  · exact h

/-- Whether a cause event with these routes goes to a link (R180). -/
def routedTo (desk panel : Bool) : Link → Bool
  | .desk => desk
  | .panel => panel

/-- A cause event latches the cause on the links it is routed to. -/
theorem cause_attn (s : State) (c : Cause) (desk panel : Bool) (lk : Link) :
    (s.cause c desk panel).attn lk =
      if routedTo desk panel lk then (s.attn lk).latch c else s.attn lk := by
  cases lk <;> cases desk <;> cases panel <;> rfl

theorem cause_link (s : State) (c : Cause) (desk panel : Bool) : (s.cause c desk panel).link = s.link := by
  cases desk <;> cases panel <;> rfl

theorem cause_modes (s : State) (c : Cause) (desk panel : Bool) : (s.cause c desk panel).modes = s.modes := by
  cases desk <;> cases panel <;> rfl

@[simp] theorem cause_rises (c : Cause) (desk panel : Bool) (h : x.Rises (station s)) :
    x.Rises (station (s.cause c desk panel)) := by
  refine h.trans ⟨cause_link .., fun lk => ?_, fun lk n hn => ?_, congrArg Modes.localMode (cause_modes ..),
    congrArg Modes.attended (cause_modes ..)⟩
  · change attnCfg ((s.cause c desk panel).attn lk) = attnCfg (s.attn lk)
    rw [cause_attn]
    split
    · exact latch_cfg _ c
    · rfl
  · change ((s.cause c desk panel).attn lk).latches.getLsbD n = true
    rw [cause_attn]
    split
    · exact latch_latches c hn
    · exact hn

@[simp] theorem causeJob_rises (owner : Link) (h : x.Rises (station s)) : x.Rises (station (s.causeJob owner)) :=
  cause_rises _ _ _ h
@[simp] theorem causeQueue_rises (h : x.Rises (station s)) : x.Rises (station s.causeQueue) := cause_rises _ _ _ h
@[simp] theorem causeLine_rises (h : x.Rises (station s)) : x.Rises (station s.causeLine) := cause_rises _ _ _ h
@[simp] theorem causeDrum_rises (h : x.Rises (station s)) : x.Rises (station s.causeDrum) := cause_rises _ _ _ h
@[simp] theorem causeSlip_rises (owner : Link) (h : x.Rises (station s)) :
    x.Rises (station (s.causeSlip owner)) := cause_rises _ _ _ h
@[simp] theorem causePrinter_rises (h : x.Rises (station s)) : x.Rises (station s.causePrinter) :=
  cause_rises _ _ _ h
@[simp] theorem causeFault_rises (h : x.Rises (station s)) : x.Rises (station s.causeFault) := cause_rises _ _ _ h

/-! ### Slips (R154 to R161) -/

@[simp] theorem createSlip_rises (j l : Nat) (h : x.Rises (station s)) :
    x.Rises (station (createSlip j l s)) := by
  unfold createSlip; split <;> simp [h]

@[simp] theorem handOver_rises (j l : Nat) (h : x.Rises (station s)) :
    x.Rises (station (handOver j l s)) := by
  unfold handOver; split <;> simp [h]

@[simp] theorem createOwed_rises (h : x.Rises (station s)) : x.Rises (station (createOwed s)) := by
  unfold createOwed; split <;> simp [h]

@[simp] theorem removeSlip_rises (n : Nat) (h : x.Rises (station s)) :
    x.Rises (station (removeSlip n s)) := by
  simp [removeSlip, h]

@[simp] theorem removalTest_rises (n : Nat) (h : x.Rises (station s)) :
    x.Rises (station (removalTest n s)) := by
  unfold removalTest; (repeat' split) <;> simp [h]

@[simp] theorem slipEnd_rises (p : Printing) (h : x.Rises (station s)) : x.Rises (station (slipEnd p s)) := by
  unfold slipEnd; split <;> simp [h]

@[simp] theorem strobe_rises (p : Printing) (b : Byte) (h : x.Rises (station s)) :
    x.Rises (station (strobe p b s)) := by
  unfold strobe; dsimp only; (repeat' split) <;> simp [h]

@[simp] theorem collect_rises (r : SlipRec) (h : x.Rises (station s)) : x.Rises (station (collect r s)) := by
  simp [collect, h]

@[simp] theorem collectionOff_rises (h : x.Rises (station s)) : x.Rises (station (collectionOff s)) := by
  unfold collectionOff
  generalize List.map _ _ = ns
  have off : x.Rises (station (s.setSlips { s.slips with collection := false })) := by simp [h]
  generalize s.setSlips _ = u at off
  induction ns generalizing u with
  | nil => exact off
  | cons n ns ih => exact ih _ (removeSlip_rises n off)

@[simp] theorem printStep_rises (paperOut busy : Bool) (p : Printing) (ch : Byte) (h : x.Rises (station s)) :
    x.Rises (station (printStep paperOut busy p ch s)) := by
  unfold printStep; dsimp only; (repeat' split) <;> simp [h]

/-! ### The mount queue and the jobs (R7, R9, R16 to R20) -/

@[simp] theorem setEntries_rises (es : List Nat) (h : x.Rises (station s)) :
    x.Rises (station (setEntries es s)) := by
  unfold setEntries; dsimp only; split <;> simp [h]

@[simp] theorem joinQueue_rises (j : Nat) (h : x.Rises (station s)) : x.Rises (station (joinQueue j s)) := by
  unfold joinQueue; split <;> simp [h]

@[simp] theorem leaveQueue_rises (j : Nat) (h : x.Rises (station s)) :
    x.Rises (station (leaveQueue j s)) := by
  simp [leaveQueue, h]

@[simp] theorem moveInQueue_rises (j : Nat) (h : x.Rises (station s)) :
    x.Rises (station (moveInQueue j s)) := by
  unfold moveInQueue; split <;> simp [h]

@[simp] theorem holdQueue_rises (r : HoldReason) (h : x.Rises (station s)) :
    x.Rises (station (holdQueue r s)) := by
  simp [holdQueue, h]

@[simp] theorem setJobState_rises (j : Nat) (st : JobState) (h : x.Rises (station s)) :
    x.Rises (station (setJobState j st s)) := by
  unfold setJobState; split <;> simp [h]

@[simp] theorem endJob_rises (j : Nat) (st : JobState) (h : x.Rises (station s)) :
    x.Rises (station (endJob j st s)) := by
  unfold endJob; (repeat' split) <;> simp [h]

@[simp] theorem jobEndTest_rises (j : Nat) (h : x.Rises (station s)) :
    x.Rises (station (jobEndTest j s)) := by
  unfold jobEndTest; (repeat' split) <;> simp [h]

@[simp] theorem legTerminal_rises (j l : Nat) (st : LegState) (h : x.Rises (station s)) :
    x.Rises (station (legTerminal j l st s)) := by
  unfold legTerminal; dsimp only; (repeat' split) <;> simp [h]

@[simp] theorem applyResult_rises (j l : Nat) (y : Job) (g : Leg) (res : LegResult)
    (h : x.Rises (station s)) :
    x.Rises (station (applyResult j l y g res s)) := by
  unfold applyResult; dsimp only; (repeat' split) <;> simp [h]

@[simp] theorem endEvent_rises (j l : Nat) (res : LegResult) (h : x.Rises (station s)) :
    x.Rises (station (endEvent j l res s)) := by
  unfold endEvent; (repeat' split) <;> simp [h]

/-! ### The line and the dialer (R37, R122, R126 to R149) -/

@[simp] theorem enterLine_rises (st : LineState) (h : x.Rises (station s)) :
    x.Rises (station (enterLine st s)) := by
  unfold enterLine; dsimp only; split <;> simp [h]

@[simp] theorem enterGuard_rises (h : x.Rises (station s)) : x.Rises (station (enterGuard s)) := by
  simp [enterGuard, h]

@[simp] theorem enterTalk_rises (h : x.Rises (station s)) : x.Rises (station (enterTalk s)) := by
  simp [enterTalk, h]

@[simp] theorem enterAwaitReady_rises (h : x.Rises (station s)) : x.Rises (station (enterAwaitReady s)) := by
  simp [enterAwaitReady, h]

@[simp] theorem dialComplete_rises (h : x.Rises (station s)) : x.Rises (station (dialComplete s)) := by
  unfold dialComplete; dsimp only; split <;> simp [h]

@[simp] theorem dialNext_rises (h : x.Rises (station s)) : x.Rises (station (dialNext s)) := by
  unfold dialNext; (repeat' split) <;> simp [h]

@[simp] theorem symbolDone_rises (h : x.Rises (station s)) : x.Rises (station (symbolDone s)) := by
  simp [symbolDone, h]

@[simp] theorem enterDial_rises (h : x.Rises (station s)) : x.Rises (station (enterDial s)) := by
  simp [enterDial, h]

@[simp] theorem enterSeize_rises (h : x.Rises (station s)) : x.Rises (station (enterSeize s)) := by
  simp [enterSeize, h]

@[simp] theorem callEnd_rises (res : LegResult) (loopLoss : Bool) (h : x.Rises (station s)) :
    x.Rises (station (callEnd res loopLoss s)) := by
  unfold callEnd; dsimp only; (repeat' split) <;> simp [h]

@[simp] theorem talkRelease_rises (e : TalkEnding) (h : x.Rises (station s)) :
    x.Rises (station (talkRelease e s)) := by
  simp [talkRelease, h]

@[simp] theorem bridgeEntry_rises (h : x.Rises (station s)) : x.Rises (station (bridgeEntry s)) := by
  simp [bridgeEntry, h]

@[simp] theorem bridgeResume_rises (h : x.Rises (station s)) : x.Rises (station (bridgeResume s)) := by
  simp [bridgeResume, h]

@[simp] theorem transmissionBegin_rises (h : x.Rises (station s)) :
    x.Rises (station (transmissionBegin s)) := by
  simp [transmissionBegin, h]

@[simp] theorem linePrepared_rises (h : x.Rises (station s)) : x.Rises (station (linePrepared s)) := by
  unfold linePrepared; (repeat' split) <;> simp [h]

@[simp] theorem lineLamp_rises (h : x.Rises (station s)) : x.Rises (station (lineLamp s)) := by
  unfold lineLamp; split <;> simp [h]

@[simp] theorem lineFault_rises (h : x.Rises (station s)) : x.Rises (station (lineFault s)) := by
  unfold lineFault; (repeat' split) <;> simp [h]

@[simp] theorem lineLost_rises (h : x.Rises (station s)) : x.Rises (station (lineLost s)) := by
  unfold lineLost; split <;> simp [h]

@[simp] theorem lineLocked_rises (r : Rpm) (h : x.Rises (station s)) :
    x.Rises (station (lineLocked r s)) := by
  unfold lineLocked; split <;> simp [h]

@[simp] theorem lineIndex_rises (h : x.Rises (station s)) : x.Rises (station (lineIndex s)) := by
  unfold lineIndex; split <;> simp [h]

@[simp] theorem linePhasingComplete_rises (h : x.Rises (station s)) :
    x.Rises (station (linePhasingComplete s)) := by
  unfold linePhasingComplete; split <;> simp [h]

@[simp] theorem linePictureComplete_rises (h : x.Rises (station s)) :
    x.Rises (station (linePictureComplete s)) := by
  unfold linePictureComplete; split <;> simp [h]

@[simp] theorem enterAnswerback_rises (h : x.Rises (station s)) : x.Rises (station (enterAnswerback s)) := by
  simp [enterAnswerback, h]

@[simp] theorem abortCall_rises (h : x.Rises (station s)) : x.Rises (station (abortCall s)) := by
  unfold abortCall; (repeat' split) <;> simp [h]

@[simp] theorem takeSymbol_rises (k : KeySym) (h : x.Rises (station s)) :
    x.Rises (station (takeSymbol k s)) := by
  unfold takeSymbol; dsimp only; (repeat' split) <;> simp [h]

@[simp] theorem endSeize_rises (loop : Bool) (h : x.Rises (station s)) :
    x.Rises (station (endSeize loop s)) := by
  unfold endSeize; dsimp only; (repeat' split) <;> simp [h]

@[simp] theorem takeReady_rises (h : x.Rises (station s)) : x.Rises (station (takeReady s)) := by
  unfold takeReady; split <;> simp [h]

@[simp] theorem endStopTime_rises (h : x.Rises (station s)) : x.Rises (station (endStopTime s)) := by
  unfold endStopTime; (repeat' split) <;> simp [h]

@[simp] theorem endWindow_rises (h : x.Rises (station s)) : x.Rises (station (endWindow s)) := by
  unfold endWindow; split <;> simp [h]

@[simp] theorem loseLoop_rises (h : x.Rises (station s)) : x.Rises (station (loseLoop s)) := by
  unfold loseLoop; (repeat' split) <;> simp [h]

/-! ### The scanner and the modulator (R90 to R94, R112 to R115) -/

@[simp] theorem sendPrepared_rises (h : x.Rises (station s)) : x.Rises (station (sendPrepared s)) := by
  simp [sendPrepared, h]

@[simp] theorem enterPrepared_rises (h : x.Rises (station s)) : x.Rises (station (enterPrepared s)) := by
  unfold enterPrepared; dsimp only; split <;> simp [h]

@[simp] theorem lampFailure_rises (h : x.Rises (station s)) : x.Rises (station (lampFailure s)) := by
  exact causeFault_rises (by simp [h])

@[simp] theorem whiteDone_rises (meas : Nat) (h : x.Rises (station s)) :
    x.Rises (station (whiteDone meas s)) := by
  unfold whiteDone; dsimp only; split <;> simp [h]

@[simp] theorem scanLocked_rises (r : Rpm) (h : x.Rises (station s)) :
    x.Rises (station (scanLocked r s)) := by
  unfold scanLocked; (repeat' split) <;> simp [h]

@[simp] theorem lampHold_rises (h : x.Rises (station s)) : x.Rises (station (lampHold s)) := by
  unfold lampHold; dsimp only; split <;> simp [h]

@[simp] theorem trackDone_rises (meas : Nat) (h : x.Rises (station s)) :
    x.Rises (station (trackDone meas s)) := by
  unfold trackDone; dsimp only; split <;> simp [h]

@[simp] theorem trackSample_rises (samples k r : Nat) (h : x.Rises (station s)) :
    x.Rises (station (trackSample samples k r s)) := by
  unfold trackSample; dsimp only; (repeat' split) <;> simp [h]

@[simp] theorem whiteSample_rises (samples k r : Nat) (h : x.Rises (station s)) :
    x.Rises (station (whiteSample samples k r s)) := by
  unfold whiteSample; dsimp only; (repeat' split) <;> simp [h]

@[simp] theorem scanSample_rises (k r : Nat) (h : x.Rises (station s)) :
    x.Rises (station (scanSample k r s)) := by
  unfold scanSample; dsimp only; (repeat' split) <;> simp [h]

@[simp] theorem endSend_rises (h : x.Rises (station s)) : x.Rises (station (endSend s)) := by
  unfold endSend; dsimp only; (repeat' split) <;> simp [h]

@[simp] theorem modSpanEnd_rises (h : x.Rises (station s)) : x.Rises (station (modSpanEnd s)) := by
  unfold modSpanEnd; dsimp only; split <;> simp [h]

@[simp] theorem modRevolution_rises (h : x.Rises (station s)) : x.Rises (station (modRevolution s)) := by
  unfold modRevolution; split <;> simp [h]

@[simp] theorem modPhasingIndex_rises (h : x.Rises (station s)) : x.Rises (station (modPhasingIndex s)) := by
  unfold modPhasingIndex; dsimp only; split <;> simp [h]

/-! ### The position timer and the drum (R45 to R64, R70 to R74) -/

@[simp] theorem beginPosition_rises (k sample : Nat) (h : x.Rises (station s)) :
    x.Rises (station (beginPosition k sample s)) := by
  simp [beginPosition, h]

@[simp] theorem spanEndReport_rises (h : x.Rises (station s)) : x.Rises (station (spanEndReport s)) := by
  simp [spanEndReport, h]

@[simp] theorem indexSpanEnd_rises (h : x.Rises (station s)) : x.Rises (station (indexSpanEnd s)) := by
  unfold indexSpanEnd; split <;> simp [h]

@[simp] theorem timerIndex_rises (period : Option Nat) (scan phase : Bool) (sample : Nat)
    (h : x.Rises (station s)) :
    x.Rises (station (timerIndex period scan phase sample s)) := by
  unfold timerIndex
  dsimp only
  split
  · refine beginPosition_rises _ _ (ite_rises (modPhasingIndex_rises ?_) ?_) <;>
      exact modRevolution_rises (by simp [h])
  · simp [h]

@[simp] theorem drumStopped_rises (h : x.Rises (station s)) : x.Rises (station (drumStopped s)) := by
  simp [drumStopped, h]

@[simp] theorem reportLocked_rises (r : Rpm) (h : x.Rises (station s)) :
    x.Rises (station (reportLocked r s)) := by
  simp [reportLocked, h]

@[simp] theorem reportLost_rises (h : x.Rises (station s)) : x.Rises (station (reportLost s)) := by
  simp [reportLost, h]

@[simp] theorem reportFault_rises (h : x.Rises (station s)) : x.Rises (station (reportFault s)) := by
  simp [reportFault, h]

@[simp] theorem drumLost_rises (h : x.Rises (station s)) : x.Rises (station (drumLost s)) := by
  simp [drumLost, h]

@[simp] theorem faultEntry_rises (c : Option FaultCause) (h : x.Rises (station s)) :
    x.Rises (station (faultEntry c s)) := by
  simp [faultEntry, h]

@[simp] theorem drumFault_rises (c : Option FaultCause) (h : x.Rises (station s)) :
    x.Rises (station (drumFault c s)) := by
  exact causeFault_rises (by simp [h])

@[simp] theorem enterLocked_rises (r : Rpm) (h : x.Rises (station s)) :
    x.Rises (station (enterLocked r s)) := by
  simp [enterLocked, h]

@[simp] theorem lockingIndex_rises (r : Rpm) (e : Int) (h : x.Rises (station s)) :
    x.Rises (station (lockingIndex r e s)) := by
  unfold lockingIndex; dsimp only; (repeat' split) <;> simp [h]

@[simp] theorem slipIndex_rises (r : Rpm) (e : Int) (h : x.Rises (station s)) :
    x.Rises (station (slipIndex r e s)) := by
  unfold slipIndex; dsimp only; (repeat' split) <;> simp [h]

@[simp] theorem drumIndex_rises (h : x.Rises (station s)) : x.Rises (station (drumIndex s)) := by
  unfold drumIndex; dsimp only; (repeat' split) <;> simp [h]

@[simp] theorem demandDrum_rises (k : Demand) (r : Rpm) (h : x.Rises (station s)) :
    x.Rises (station (demandDrum k r s)) := by
  unfold demandDrum; dsimp only; (repeat' split) <;> simp [h]

@[simp] theorem giveSpeed_rises (r : Rpm) (h : x.Rises (station s)) : x.Rises (station (giveSpeed r s)) := by
  unfold giveSpeed
  split
  · exact causeFault_rises (by simp [h])
  · simp [h]

@[simp] theorem openCover_rises (h : x.Rises (station s)) : x.Rises (station (openCover s)) := by
  unfold openCover
  dsimp only
  repeat' split
  · exact causeFault_rises (by simp [h])
  · exact causeFault_rises (by simp [h])
  · simp [h]

@[simp] theorem stopDrum_rises (h : x.Rises (station s)) : x.Rises (station (stopDrum s)) := by
  unfold stopDrum; (repeat' split) <;> simp [h]

@[simp] theorem takeIndex_rises (sample : Nat) (drumFirst : Bool) (h : x.Rises (station s)) :
    x.Rises (station (takeIndex sample drumFirst s)) := by
  unfold takeIndex
  dsimp only
  split
  · exact lineIndex_rises (timerIndex_rises _ _ _ _ (drumIndex_rises h))
  · exact drumIndex_rises (lineIndex_rises (timerIndex_rises _ _ _ _ h))

@[simp] theorem takePulse_rises (sample : Nat) (h : x.Rises (station s)) :
    x.Rises (station (takePulse sample s)) := by
  unfold takePulse; (repeat' split) <;> simp [h]

@[simp] theorem failHoming_rises (h : x.Rises (station s)) : x.Rises (station (failHoming s)) := by
  simp [failHoming, h]

/-! ### The arbiter, and what prompts it (R9 to R11, R17 to R21, R123, R124, R185) -/

@[simp] theorem beginCall_rises (j l : Nat) (y : Job) (g : Leg) (b : DialBuf) (h : x.Rises (station s)) :
    x.Rises (station (beginCall j l y g b s)) := by
  unfold beginCall
  dsimp only
  split
  · exact lineFault_rises (by simp [h])
  · simp [h]

@[simp] theorem noRouteEnd_rises (j l : Nat) (h : x.Rises (station s)) :
    x.Rises (station (noRouteEnd j l s)) := by
  simp [noRouteEnd, h]

@[simp] theorem grantTalk_rises (p : PendingTalk) (h : x.Rises (station s)) :
    x.Rises (station (grantTalk p s)) := by
  simp [grantTalk, h]

theorem arbiterLook_rises (n : Nat) (h : x.Rises (station s)) : x.Rises (station (arbiterLook n s)) := by
  induction n generalizing s with
  | zero => exact h
  | succ n ih => unfold arbiterLook; (repeat' split) <;> simp [h, ih]

@[simp] theorem prompt_rises (h : x.Rises (station s)) : x.Rises (station (prompt s)) := arbiterLook_rises 5 h

@[simp] theorem commitJob_rises (j : Nat) (y : Job) (h : x.Rises (station s)) :
    x.Rises (station (commitJob j y s)) := by
  simp [commitJob, h]

@[simp] theorem cancelWaiting_rises (j : Nat) (h : x.Rises (station s)) :
    x.Rises (station (cancelWaiting j s)) := by
  unfold cancelWaiting
  generalize List.range _ = ls
  induction ls generalizing s with
  | nil => exact h
  | cons l ls ih => exact ih (by simp [h])

@[simp] theorem cancelIdle_rises (j : Nat) (y : Job) (h : x.Rises (station s)) :
    x.Rises (station (cancelIdle j y s)) := by
  unfold cancelIdle
  dsimp only
  split
  · simp [h]
  · exact prompt_rises (by simp [h])

@[simp] theorem cancelActive_rises (j : Nat) (y : Job) (h : x.Rises (station s)) :
    x.Rises (station (cancelActive j y s)) := by
  simp [cancelActive, h]

@[simp] theorem mountJob_rises (j : Nat) (y : Job) (h : x.Rises (station s)) :
    x.Rises (station (mountJob j y s)) := by
  exact prompt_rises (by simp [h])

@[simp] theorem unmountJob_rises (j : Nat) (y : Job) (h : x.Rises (station s)) :
    x.Rises (station (unmountJob j y s)) := by
  simp [unmountJob, h]

@[simp] theorem skipLeg_rises (j l : Nat) (h : x.Rises (station s)) : x.Rises (station (skipLeg j l s)) := by
  unfold skipLeg
  dsimp only
  split
  · exact prompt_rises (by simp [h])
  · simp [h]

@[simp] theorem releaseHold_rises (h : x.Rises (station s)) : x.Rises (station (releaseHold s)) := by
  unfold releaseHold; split <;> simp [h]

@[simp] theorem clearLegEnd_rises (h : x.Rises (station s)) : x.Rises (station (clearLegEnd s)) := by
  unfold clearLegEnd; split <;> simp [h]

@[simp] theorem compareRetries_rises (h : x.Rises (station s)) : x.Rises (station (compareRetries s)) := by
  unfold compareRetries; split <;> simp [h]

end Sys2Proof.StationLinks

/-! What each command does as the stations see it (R171, R173, R174, R180, R184). -/

namespace Sys2Proof.StationLinks
open Machine Laws PictureJobs Directory Calls

variable {s t u : State} {lk : Link} {b : Byte} {j : Nat}

/-! ### The parts of the requests that leave the stations to the cause events -/

theorem serveOpenJob_rises (lk : Link) (args : List Byte) (s : State) :
    (station s).Rises (station (serveOpenJob lk args s).2) := by
  unfold serveOpenJob; (repeat' split) <;> simp

theorem serveAddLeg_rises (lk : Link) (args : List Byte) (s : State) :
    (station s).Rises (station (serveAddLeg lk args s).2) := by
  unfold serveAddLeg onJob; dsimp only; (repeat' split) <;> simp

theorem serveCommitJob_rises (lk : Link) (args : List Byte) (s : State) :
    (station s).Rises (station (serveCommitJob lk args s).2) := by
  unfold serveCommitJob onJob; dsimp only; (repeat' split) <;> simp

theorem serveCancelJob_rises (lk : Link) (args : List Byte) (s : State) :
    (station s).Rises (station (serveCancelJob lk args s).2) := by
  unfold serveCancelJob onJob; dsimp only; (repeat' split) <;> simp

theorem serveClearJob_rises (lk : Link) (args : List Byte) (s : State) :
    (station s).Rises (station (serveClearJob lk args s).2) := by
  unfold serveClearJob onJob; dsimp only; (repeat' split) <;> simp

theorem serveSetPriority_rises (args : List Byte) (s : State) :
    (station s).Rises (station (serveSetPriority args s).2) := by
  unfold serveSetPriority onJob; dsimp only; (repeat' split) <;> simp

theorem serveMount_rises (args : List Byte) (s : State) :
    (station s).Rises (station (serveMount args s).2) := by
  unfold serveMount onJob; dsimp only; (repeat' split) <;> simp

theorem serveUnmount_rises (args : List Byte) (s : State) :
    (station s).Rises (station (serveUnmount args s).2) := by
  unfold serveUnmount onJob; dsimp only; (repeat' split) <;> simp

theorem serveSkipLeg_rises (args : List Byte) (s : State) :
    (station s).Rises (station (serveSkipLeg args s).2) := by
  unfold serveSkipLeg onJob; dsimp only; (repeat' split) <;> simp

theorem serveTalk_rises (args : List Byte) (s : State) : (station s).Rises (station (serveTalk args s).2) := by
  unfold serveTalk takeTalk; (repeat' split) <;> simp

theorem serveEndTalk_rises (args : List Byte) (s : State) :
    (station s).Rises (station (serveEndTalk args s).2) := by
  unfold serveEndTalk; (repeat' split) <;> simp

theorem serveDrumRun_rises (args : List Byte) (s : State) :
    (station s).Rises (station (serveDrumRun args s).2) := by
  unfold serveDrumRun; (repeat' split) <;> simp

theorem serveDrumStop_rises (args : List Byte) (s : State) :
    (station s).Rises (station (serveDrumStop args s).2) := by
  unfold serveDrumStop; split <;> simp

theorem serveCollectSlip_rises (args : List Byte) (s : State) :
    (station s).Rises (station (serveCollectSlip args s).2) := by
  unfold serveCollectSlip; split <;> simp

theorem serveReprintSlip_rises (args : List Byte) (s : State) :
    (station s).Rises (station (serveReprintSlip args s).2) := by
  unfold serveReprintSlip; (repeat' split) <;> simp

theorem serveSetCollection_rises (args : List Byte) (s : State) :
    (station s).Rises (station (serveSetCollection args s).2) := by
  unfold serveSetCollection; (repeat' split) <;> simp

theorem serveSetClock_rises (args : List Byte) (s : State) :
    (station s).Rises (station (serveSetClock args s).2) := by
  unfold serveSetClock; (repeat' split) <;> simp

theorem serveReadJob_rises (args : List Byte) (s : State) :
    (station s).Rises (station (serveReadJob args s).2) := by
  unfold serveReadJob; (repeat' split) <;> simp

theorem serveReadLeg_rises (args : List Byte) (s : State) :
    (station s).Rises (station (serveReadLeg args s).2) := by
  unfold serveReadLeg onJob; dsimp only; (repeat' split) <;> simp

theorem serveReadRoute_rises (args : List Byte) (s : State) :
    (station s).Rises (station (serveReadRoute args s).2) := by
  unfold serveReadRoute; (repeat' split) <;> simp

theorem serveReadSetting_rises (args : List Byte) (s : State) :
    (station s).Rises (station (serveReadSetting args s).2) := by
  unfold serveReadSetting; (repeat' split) <;> simp

theorem serveWriteRoute_rises (args : List Byte) (s : State) :
    (station s).Rises (station (serveWriteRoute args s).2) := by
  obtain ⟨r, hr⟩ := serveWriteRoute_writes args s
  simp [hr]

theorem serveEraseRoute_rises (args : List Byte) (s : State) :
    (station s).Rises (station (serveEraseRoute args s).2) := by
  obtain ⟨r, hr⟩ := serveEraseRoute_writes args s
  simp [hr]

theorem serveWriteCurve_rises (args : List Byte) (s : State) :
    (station s).Rises (station (serveWriteCurve args s).2) := by
  obtain ⟨c, hc⟩ := serveWriteCurve_writes args s
  simp [hc]

theorem serveWriteSetting_rises (args : List Byte) (s : State) :
    (station s).Rises (station (serveWriteSetting args s).2) := by
  obtain ⟨g, d, h⟩ := serveWriteSetting_writes args s
  simp [h]

end Sys2Proof.StationLinks

/-! What each command does as the stations see it (R171, R173, R174, R180, R184). -/

namespace Sys2Proof.StationLinks
open Machine Laws PictureJobs Directory Calls

variable {i : Instr} {x y z : Station} {s t u : State} {lk : Link} {b : Byte} {dt : Nat}

/-! ### What a command may change of the stations -/

/-- The links are as they were; the settings of a link's attention are but for SET_ATTN on it, its latches stay
set but for READ_ATTN on it and machine reset, and the modes are as they were but for SET_MODES. -/
structure KeptBy (i : Instr) (x y : Station) : Prop where
  link : y.link = x.link
  settings : ∀ lk, (∀ b, i ≠ .setAttn lk b) → attnCfg (y.attn lk) = attnCfg (x.attn lk)
  latches : ∀ (lk : Link) (n : Nat), (∀ b, i ≠ .readAttn lk b) → (∀ m b, i ≠ .machineReset m b) →
    (x.attn lk).latches.getLsbD n = true → (y.attn lk).latches.getLsbD n = true
  modes : (∀ lk b, i ≠ .setModes lk b) → y.localMode = x.localMode ∧ y.attended = x.attended

theorem Station.Rises.keptBy (i : Instr) (h : x.Rises y) : KeptBy i x y where
  link := h.link
  settings lk _ := h.settings lk
  latches lk n _ _ := h.latches lk n
  modes _ := ⟨h.localMode, h.attended⟩

theorem KeptBy.rises (h : KeptBy i x y) (k : y.Rises z) : KeptBy i x z where
  link := k.link.trans h.link
  settings lk hi := (k.settings lk).trans (h.settings lk hi)
  latches lk n hi hr hn := k.latches lk n (h.latches lk n hi hr hn)
  modes hi := ⟨k.localMode.trans (h.modes hi).1, k.attended.trans (h.modes hi).2⟩

theorem setAttn_attn (s : State) (lk m : Link) (a : Attn) :
    (s.setAttn lk a).attn m = if m = lk then a else s.attn m := by cases lk <;> cases m <;> rfl

theorem setAttn_link (s : State) (lk : Link) (a : Attn) : (s.setAttn lk a).link = s.link := by cases lk <;> rfl

theorem setAttn_modes (s : State) (lk : Link) (a : Attn) : (s.setAttn lk a).modes = s.modes := by
  cases lk <;> rfl

/-- One link's attention is written: SET_ATTN may write its settings, READ_ATTN its latches. -/
theorem setAttn_keptBy {a : Attn} (hset : (∀ b, i ≠ .setAttn lk b) → attnCfg a = attnCfg (s.attn lk))
    (hread : (∀ b, i ≠ .readAttn lk b) → a.latches = (s.attn lk).latches) :
    KeptBy i (station s) (station (s.setAttn lk a)) where
  link := setAttn_link s lk a
  settings m hi := by
    change attnCfg ((s.setAttn lk a).attn m) = attnCfg (s.attn m)
    rw [setAttn_attn]
    split
    next hm => subst hm; exact hset hi
    next => rfl
  latches m n hi _ hn := by
    change ((s.setAttn lk a).attn m).latches.getLsbD n = true
    rw [setAttn_attn]
    split
    next hm => subst hm; rw [hread hi]; exact hn
    next => exact hn
  modes _ := ⟨congrArg Modes.localMode (setAttn_modes s lk a), congrArg Modes.attended (setAttn_modes s lk a)⟩

theorem readAttention_keptBy (lk : Link) (b : Byte) (s : State) :
    KeptBy (.readAttn lk b) (station s) (station (readAttention lk s)) := by
  have cleared : KeptBy (.readAttn lk b) (station s) (station (s.setAttn lk (s.attn lk).cleared)) :=
    setAttn_keptBy (fun _ => rfl) fun hi => absurd rfl (hi b)
  cases lk with
  | desk => exact cleared
  | panel => exact cleared.rises (clearLegEnd_rises (.refl _))

theorem serveSetAttn_keptBy (lk : Link) (b : Byte) (args : List Byte) (s : State) :
    KeptBy (.setAttn lk b) (station s) (station (serveSetAttn lk args s).2) := by
  have same : KeptBy (.setAttn lk b) (station s) (station s) := (Station.Rises.refl _).keptBy _
  unfold serveSetAttn
  split
  · split
    · exact same
    · split
      · exact same
      · exact setAttn_keptBy (fun hi => absurd rfl (hi b)) fun _ => rfl
  · exact same

theorem changeModes_keptBy (lk : Link) (b : Byte) (localOn attendedOn : Bool) (s : State) :
    KeptBy (.setModes lk b) (station s) (station (changeModes localOn attendedOn s)) := by
  have written (m : Modes) : KeptBy (.setModes lk b) (station s) (station (s.setModes m)) :=
    ⟨rfl, fun _ _ => rfl, fun _ _ _ _ => id, fun hi => absurd rfl (hi lk b)⟩
  unfold changeModes
  dsimp only
  split
  · exact written _
  · exact (written _).rises (clearLegEnd_rises (.refl _))

theorem serveSetModes_keptBy (lk : Link) (b : Byte) (args : List Byte) (s : State) :
    KeptBy (.setModes lk b) (station s) (station (serveSetModes args s).2) := by
  have same : KeptBy (.setModes lk b) (station s) (station s) := (Station.Rises.refl _).keptBy _
  unfold serveSetModes
  split
  · split
    · exact changeModes_keptBy lk b _ _ s
    · exact same
  · exact same

theorem lineReset_rises (h : x.Rises (station s)) : x.Rises (station (lineReset s)) := by
  simp [lineReset, h]

/-- Machine reset clears the latches of both links, once the line is reset (R151, R187). -/
theorem machineReset_station (s : State) : station (machineReset s) =
    { station (lineReset s) with attn := fun lk => ((lineReset s).attn lk).cleared } := by
  have attn : (machineReset s).attn = fun lk => ((lineReset s).attn lk).cleared := by
    rw [machineReset_eq]; funext lk; cases lk <;> rfl
  unfold station
  rw [attn, machineReset_eq]
  rfl

theorem machineReset_keptBy (lk : Link) (b : Byte) (s : State) :
    KeptBy (.machineReset lk b) (station s) (station (machineReset s)) := by
  have line := lineReset_rises (s := s) (.refl (station s))
  rw [machineReset_station]
  exact ⟨line.link, fun m _ => line.settings m, fun _ _ _ hi => absurd rfl (hi lk b),
    fun _ => ⟨line.localMode, line.attended⟩⟩

end Sys2Proof.StationLinks

/-! The bytes of a select, and each link's record (R171 to R175). -/

namespace Sys2Proof.StationLinks
open Machine Laws PictureJobs Directory Calls

variable {i : Instr} {s t u : State} {lk : Link} {b : Byte} {l : LinkRec}

/-! ### One link's record is written -/

theorem setLink_link (s : State) (lk m : Link) (r : LinkRec) :
    (s.setLink lk r).link m = if m = lk then r else s.link m := by cases lk <;> cases m <;> rfl

@[simp] theorem setLink_link_same (s : State) (lk : Link) (r : LinkRec) : (s.setLink lk r).link lk = r := by
  cases lk <;> rfl

@[simp] theorem setLink_attn (s : State) (lk : Link) (r : LinkRec) : (s.setLink lk r).attn = s.attn := by
  cases lk <;> rfl

@[simp] theorem setLink_modes (s : State) (lk : Link) (r : LinkRec) : (s.setLink lk r).modes = s.modes := by
  cases lk <;> rfl

@[simp] theorem setLink_setLink (s : State) (lk : Link) (r q : LinkRec) :
    (s.setLink lk r).setLink lk q = s.setLink lk q := by cases lk <;> rfl

@[simp] theorem elapse_link (dt : Nat) (s : State) : (elapse dt s).link = s.link := (rfl)

@[simp] theorem elapse_attn (dt : Nat) (s : State) : (elapse dt s).attn = s.attn := (rfl)

@[simp] theorem elapse_modes (dt : Nat) (s : State) : (elapse dt s).modes = s.modes := (rfl)

theorem takeRequest_link (lk : Link) (s : State) : (takeRequest lk s).link lk =
    { s.link lk with request := none, replyState := .working, reply := none, dout := 0xFF } :=
  setLink_link_same ..

theorem takeRequest_link_of_ne {m : Link} (h : m ≠ lk) (s : State) : (takeRequest lk s).link m = s.link m :=
  (setLink_link ..).trans (if_neg h)

theorem placeReply_link (lk : Link) (p : Reply) (s : State) : (placeReply lk p s).link lk =
    { s.link lk with replyState := .ready, reply := some { reply := p, sent := 0 } } := setLink_link_same ..

theorem placeReply_link_of_ne {m : Link} (h : m ≠ lk) (p : Reply) (s : State) :
    (placeReply lk p s).link m = s.link m := (setLink_link ..).trans (if_neg h)

/-! ### A link's record, its request and its reply (R171) -/

/-- The request's half of `linkRight`. -/
def requestRight (l : LinkRec) : Prop := ∀ r, l.request = some r → l.select = .request ∧
  match r.len with
  | none => r.args = []
  | some n => r.args.length < n.toNat ∧ n.toNat ≤ 64

/-- The reply's half of `linkRight`. -/
def replyRight (l : LinkRec) : Prop :=
  match l.reply with
  | none => l.replyState = .empty
  | some p => (l.replyState = .ready ∧ p.sent = 0) ∨
      (l.replyState = .sending ∧ 0 < p.sent ∧ p.sent < p.reply.frame.length)

theorem linkRight_iff : linkRight l ↔ requestRight l ∧ replyRight l := Iff.rfl

theorem requestRight_of_none (h : l.request = none) : requestRight l := fun r hr => by simp [h] at hr

theorem request_eq_none (h : requestRight l) (hs : l.select ≠ .request) : l.request = none := by
  cases hr : l.request with
  | none => rfl
  | some r => exact absurd (h r hr).1 hs

theorem sends_iff : l.sends = true ↔ l.select = .read ∨ (l.select = .request ∧ l.request = none) := by
  unfold LinkRec.sends; split <;> simp [*]

/-! ### What each byte makes of the record -/

theorem beginSelect_right (b : Byte) (h : linkRight (s.link lk)) : linkRight ((beginSelect lk b s).link lk) := by
  obtain ⟨request, reply⟩ := linkRight_iff.1 h
  unfold beginSelect
  dsimp only
  split
  · exact h
  next hs =>
    have idle : (s.link lk).select = .none := by simpa using hs
    split
    · rw [setLink_link_same]
      have none_held : (s.link lk).request = none := request_eq_none request (by simp [idle])
      exact ⟨requestRight_of_none none_held, reply⟩
    · rw [setLink_link_same]
      refine ⟨fun r hr => ?_, reply⟩
      cases hr
      exact ⟨rfl, rfl⟩

theorem receiveByte_right {r : ReqBuf} (b : Byte) (hr : (s.link lk).request = some r)
    (h : linkRight (s.link lk)) : linkRight ((receiveByte lk r b s).link lk) := by
  obtain ⟨request, reply⟩ := linkRight_iff.1 h
  obtain ⟨select, args⟩ := request r hr
  unfold receiveByte
  split
  · exact h
  next hc =>
    rw [setLink_link_same]
    refine ⟨fun q hq => ?_, reply⟩
    cases hq
    refine ⟨select, ?_⟩
    unfold ReqBuf.complete? at hc
    unfold ReqBuf.join
    cases hl : r.len with
    | none =>
      simp only [hl] at hc args ⊢
      split at hc
      · simp at hc
      next hb =>
        simp only [args, List.length_nil]
        have : b.toNat ≠ 0 := fun h0 => hb (.inl (BitVec.eq_of_toNat_eq h0))
        omega
    | some n =>
      simp only [hl] at hc args ⊢
      split at hc
      · simp at hc
      · rw [List.length_append, List.length_singleton]
        omega

/-- The next byte of a reply held, and whether it is the last, by the bytes sent (R175). -/
theorem next?_eq_some_iff {p : RepBuf} {last : Bool} : p.next? = some (b, last) ↔
    p.reply.frame[p.sent]? = some b ∧ decide (p.sent + 1 = p.reply.frame.length) = last := by
  simp [RepBuf.next?]

theorem sent_lt_of_next? {p : RepBuf} (h : p.next? = some (b, false)) : p.sent + 1 < p.reply.frame.length := by
  obtain ⟨hb, hlast⟩ := next?_eq_some_iff.1 h
  obtain ⟨hlt, -⟩ := List.getElem?_eq_some_iff.1 hb
  have : p.sent + 1 ≠ p.reply.frame.length := by simpa using hlast
  omega

theorem sendByte_right (hs : (s.link lk).request = none) (h : linkRight (s.link lk)) :
    linkRight ((sendByte lk s).link lk) := by
  obtain ⟨request, reply⟩ := linkRight_iff.1 h
  unfold sendByte
  dsimp only
  split
  · rw [setLink_link_same]; exact ⟨requestRight_of_none hs, reply⟩
  · rw [setLink_link_same]; exact ⟨requestRight_of_none hs, reply⟩
  · split
    next p b hp =>
      rw [setLink_link_same]
      refine ⟨requestRight_of_none hs, .inr ⟨rfl, Nat.succ_pos _, ?_⟩⟩
      obtain ⟨q, -, hq⟩ := Option.bind_eq_some_iff.1 hp
      obtain ⟨x, hx, hpx⟩ := Option.map_eq_some_iff.1 hq
      cases hpx
      exact sent_lt_of_next? hx
    · exact h

theorem clockByte_right (b : Byte) (h : linkRight (s.link lk)) : linkRight ((clockByte lk b s).link lk) := by
  obtain ⟨request, -⟩ := linkRight_iff.1 h
  unfold clockByte
  split
  · exact h
  next hs => exact sendByte_right (request_eq_none request (by simp [hs])) h
  · split
    next r hr => exact receiveByte_right b hr h
    next hr => exact sendByte_right hr h

theorem readReply_right (h : linkRight (s.link lk)) : linkRight ((readReply lk s).link lk) := by
  obtain ⟨request, -⟩ := linkRight_iff.1 h
  unfold readReply
  dsimp only
  split
  · split
    · rw [setLink_link_same]; exact ⟨request, rfl⟩
    · exact h
  · exact h

theorem endSelect_right (part : Bool) (h : linkRight (s.link lk)) :
    linkRight ((endSelect lk part s).link lk) := by
  obtain ⟨-, reply⟩ := linkRight_iff.1 h
  unfold endSelect
  dsimp only
  split
  · exact h
  · split
    · rw [setLink_link_same]; exact ⟨requestRight_of_none rfl, rfl⟩
    · rw [setLink_link_same]; exact ⟨requestRight_of_none rfl, reply⟩

/-- A reply just placed, in a link whose request has been taken (R173, R174). -/
theorem placeReply_right (p : Reply) (h : (s.link lk).request = none) :
    linkRight ((placeReply lk p s).link lk) := by
  rw [placeReply_link]
  exact ⟨requestRight_of_none h, .inl ⟨rfl, rfl⟩⟩

/-! ### Every command, as the stations see it -/

/-- A command moves a byte of its own link; or its link's request is answered; or neither link is touched. -/
inductive Effect (i : Instr) (s : State) : State → Prop where
  | bytes (dt : Nat) (lk : Link) (r : LinkRec) (hi : i.link? = some lk)
      (hr : linkRight (s.link lk) → linkRight r) : Effect i s ((elapse dt s).setLink lk r)
  | answered (lk : Link) (p : Reply) {t : State} (hi : i.link? = some lk)
      (h : KeptBy i (station (takeRequest lk s)) (station t)) : Effect i s (placeReply lk p t)
  | event {t : State} (h : KeptBy i (station s) (station t)) : Effect i s t

theorem Effect.same (i : Instr) (s : State) : Effect i s s := .event ((Station.Rises.refl _).keptBy i)

theorem effect_of_event (h : (station s).Rises (station t)) : Effect i s t := .event (h.keptBy i)

theorem effect_of_bytes {dt : Nat} {f : State → State} (hi : i.link? = some lk)
    (hf : ∀ u, WritesLink lk u (f u)) (hr : ∀ u, linkRight (u.link lk) → linkRight ((f u).link lk)) :
    Effect i s (f (elapse dt s)) := by
  have right := hr (elapse dt s)
  obtain ⟨r, h⟩ := hf (elapse dt s)
  rw [h, setLink_link_same] at right
  rw [h]
  exact .bytes dt lk r hi right

/-- A request does nothing, or is taken, checked, perhaps served by its block, and answered (R173, R174). -/
theorem effect_of_request {c : Code} {serve : Serve} (hi : i.link? = some lk)
    (hs : ∀ args u, KeptBy i (station u) (station (serve args u).2)) (h : request c lk b serve s = .next t) :
    Effect i s t := by
  unfold request at h
  split at h
  next f _ =>
    split at h
    · obtain rfl := Host.Outcome.next.inj h
      unfold answer
      dsimp only
      split
      · exact .answered lk _ hi ((Station.Rises.refl _).keptBy i)
      · exact .answered lk _ hi (hs _ _)
    · obtain rfl := Host.Outcome.next.inj h
      exact .same i s
  · obtain rfl := Host.Outcome.next.inj h
    exact .same i s

/-- The requests of the blocks, which leave the stations to the cause events. -/
theorem effect_of_served {c : Code} {serve : Serve} (hi : i.link? = some lk)
    (hs : ∀ args u, (station u).Rises (station (serve args u).2)) (h : request c lk b serve s = .next t) :
    Effect i s t := effect_of_request hi (fun args u => (hs args u).keptBy i) h

theorem effect_of_unknownRequest (h : exec (.unknownRequest lk b) s = .next t) :
    Effect (.unknownRequest lk b) s t := by
  change execUnknownRequest lk b s = .next t at h
  unfold execUnknownRequest at h
  (repeat' split at h) <;> obtain rfl := Host.Outcome.next.inj h
  · exact .answered lk _ rfl ((Station.Rises.refl _).keptBy _)
  · exact .same _ s
  · exact .same _ s

theorem exec_effect (hp : ∀ v w x y z, i ≠ .powerOnReset v w x y z) (h : exec i s = .next t) : Effect i s t := by
  cases i with
  | powerOnReset v w x y z => exact absurd rfl (hp v w x y z)
  | selectStart dt lk b =>
    obtain rfl := Host.Outcome.next.inj h
    exact effect_of_bytes rfl (beginSelect_writesLink lk b) fun _ => beginSelect_right b
  | selectRelease dt lk part =>
    obtain rfl := Host.Outcome.next.inj h
    exact effect_of_bytes rfl (endSelect_writesLink lk part) fun _ => endSelect_right part
  | replyRead dt lk =>
    obtain rfl := Host.Outcome.next.inj h
    exact effect_of_bytes rfl (readReply_writesLink lk) fun _ => readReply_right
  | byteClock dt lk b =>
    obtain rfl := Host.Outcome.next.inj h
    exact effect_of_bytes rfl (clockByte_writesLink lk b) fun _ => clockByte_right b
  | unknownRequest lk b => exact effect_of_unknownRequest h
  | setAttn lk b => exact effect_of_request rfl (serveSetAttn_keptBy lk b) h
  | readAttn lk b => exact effect_of_request rfl (fun _ => readAttention_keptBy lk b) h
  | setModes lk b => exact effect_of_request rfl (serveSetModes_keptBy lk b) h
  | machineReset lk b => exact effect_of_request rfl (fun _ => machineReset_keptBy lk b) h
  | openJob lk b => exact effect_of_served rfl (serveOpenJob_rises lk) h
  | addLeg lk b => exact effect_of_served rfl (serveAddLeg_rises lk) h
  | commitJob lk b => exact effect_of_served rfl (serveCommitJob_rises lk) h
  | cancelJob lk b => exact effect_of_served rfl (serveCancelJob_rises lk) h
  | clearJob lk b => exact effect_of_served rfl (serveClearJob_rises lk) h
  | setPriority lk b => exact effect_of_served rfl serveSetPriority_rises h
  | mount lk b => exact effect_of_served rfl serveMount_rises h
  | unmount lk b => exact effect_of_served rfl serveUnmount_rises h
  | skipLeg lk b => exact effect_of_served rfl serveSkipLeg_rises h
  | readJob lk b => exact effect_of_served rfl serveReadJob_rises h
  | readLeg lk b => exact effect_of_served rfl serveReadLeg_rises h
  | writeRoute lk b => exact effect_of_served rfl serveWriteRoute_rises h
  | eraseRoute lk b => exact effect_of_served rfl serveEraseRoute_rises h
  | readRoute lk b => exact effect_of_served rfl serveReadRoute_rises h
  | talk lk b => exact effect_of_served rfl serveTalk_rises h
  | endTalk lk b => exact effect_of_served rfl serveEndTalk_rises h
  | drumRun lk b => exact effect_of_served rfl serveDrumRun_rises h
  | drumStop lk b => exact effect_of_served rfl serveDrumStop_rises h
  | holdQueue lk b => exact effect_of_served rfl (fun _ _ => holdQueue_rises .operator (.refl _)) h
  | releaseQueue lk b => exact effect_of_served rfl (fun _ _ => releaseHold_rises (.refl _)) h
  | collectSlip lk b => exact effect_of_served rfl serveCollectSlip_rises h
  | reprintSlip lk b => exact effect_of_served rfl serveReprintSlip_rises h
  | setCollection lk b => exact effect_of_served rfl serveSetCollection_rises h
  | writeSetting lk b => exact effect_of_served rfl serveWriteSetting_rises h
  | readSetting lk b => exact effect_of_served rfl serveReadSetting_rises h
  | writeCurve lk b => exact effect_of_served rfl serveWriteCurve_rises h
  | setClock lk b => exact effect_of_served rfl serveSetClock_rises h
  | readQueue lk b | readLine lk b | readDrum lk b | readSlipState lk b | readCurve lk b | readClock lk b
  | identify lk b => exact effect_of_served rfl (fun _ _ => .refl _) h
  | index dt sample drumFirst | encoderPulse dt sample | loopSenseChange dt present | coverClose dt =>
    -- What the command does is one operation, whatever the state.
    obtain rfl := Host.Outcome.next.inj h
    refine effect_of_event ?_
    rw [← elapse_station s dt]
    simp
  | positionStart dt sample | spanEnd dt | indexTimeout dt | spinupLimitExpiry dt | brakingStillness dt
  | idleStop dt | coverOpen dt | headStep dt home | homingFailure dt | scanStepEnd dt home | phaseUpdate dt
  | markStepEnd dt | toneOnEnd dt | toneOffEnd dt | breakEnd dt | makeEnd dt | interdigitEnd dt | pauseEnd dt
  | flashEnd dt | seizeWindowEnd dt loop | readyEvent dt freq held | answerTimeoutExpiry dt
  | prepareLimitExpiry dt | bridgeLimitExpiry dt | stopTimeExpiry dt | symbolDetected dt rowHz colHz held gap
  | answerbackWindowExpiry dt | answerbackDeadline dt | loopLost dt | guardTimeExpiry dt | clockSecond dt
  | printCharacter dt paperOut busy | paperOutClears dt | busyTimeout dt | busyLowInFault dt
  | lampFrame dt paperOut =>
    -- An event that is due is a shared operation; one that is not brings at most a pin's level (log 3, 23).
    obtain rfl := Host.Outcome.next.inj h
    refine effect_of_event ?_
    rw [← elapse_station s dt]
    generalize elapse dt s = u
    dsimp only
    (repeat' split) <;> simp

/-! ### The links apart, the attention, and every step -/

theorem KeptBy.link_eq (h : KeptBy i (station s) (station t)) (lk : Link) : t.link lk = s.link lk :=
  congrFun h.link lk

/-- Settles O6, by the link that `exec_effect` names. -/
theorem linksLeaveEachOtherAlone : Obligations.LinksLeaveEachOtherAlone := by
  intro c s t lk h hp hl
  have other {m : Link} (hi : c.link? = some m) : lk ≠ m := fun e => hl (e ▸ hi)
  cases exec_effect hp h with
  | bytes dt m r hi _ => rw [setLink_link, if_neg (other hi), elapse_link]
  | answered m p hi k =>
    rw [placeReply_link_of_ne (other hi), k.link_eq, takeRequest_link_of_ne (other hi)]
  | event k => exact k.link_eq lk

/-- What a command keeps of the attention and the modes, by link, and with the record of each link left out. -/
def AttentionKept (i : Instr) (s t : State) : Prop :=
  (∀ lk : Link, (∀ b, i ≠ .setAttn lk b) →
    (t.attn lk).enables = (s.attn lk).enables ∧ (t.attn lk).masks = (s.attn lk).masks ∧
      (t.attn lk).globalMask = (s.attn lk).globalMask) ∧
  (∀ (lk : Link) (n : Nat), (∀ b, i ≠ .readAttn lk b) → (∀ m b, i ≠ .machineReset m b) →
    (s.attn lk).latches.getLsbD n = true → (t.attn lk).latches.getLsbD n = true) ∧
  ((∀ lk b, i ≠ .setModes lk b) →
    t.modes.localMode = s.modes.localMode ∧ t.modes.attended = s.modes.attended)

theorem KeptBy.attention (h : KeptBy i (station s) (station t)) : AttentionKept i s t := by
  refine ⟨fun lk hi => ?_, h.latches, h.modes⟩
  have cfg := h.settings lk hi
  simp only [attnCfg, Prod.mk.injEq] at cfg
  exact cfg

/-- Settles O7: a link's record is no part of the attention. -/
theorem attentionAndModesKeptUntilSetOrRead : Obligations.AttentionAndModesKeptUntilSetOrRead := by
  intro c s t h hp
  change AttentionKept c s t
  cases exec_effect hp h with
  | bytes dt m r _ _ => simp [AttentionKept]
  | answered m p _ k => simpa [AttentionKept] using k.attention
  | event k => exact k.attention

theorem powerOnReset_link {v w x y z : Bool} (h : exec (.powerOnReset v w x y z) s = .next t) (lk : Link) :
    t.link lk = LinkRec.reset := by
  obtain rfl := Host.Outcome.next.inj h
  cases lk <;> rfl

theorem exec_linkRight (h : exec i s = .next t) (right : linkRight (s.link lk)) : linkRight (t.link lk) := by
  by_cases hp : ∃ v w x y z, i = .powerOnReset v w x y z
  · obtain ⟨v, w, x, y, z, rfl⟩ := hp
    rw [powerOnReset_link h]
    exact ⟨requestRight_of_none rfl, rfl⟩
  · cases exec_effect (fun v w x y z e => hp ⟨v, w, x, y, z, e⟩) h with
    | bytes dt m r _ hr =>
      rw [setLink_link, elapse_link]
      split
      next hm => subst hm; exact hr right
      next => exact right
    | answered m p _ k =>
      by_cases hm : lk = m
      · subst hm
        refine placeReply_right p ?_
        rw [k.link_eq, takeRequest_link]
      · rwa [placeReply_link_of_ne hm, k.link_eq, takeRequest_link_of_ne hm]
    | event k => rwa [k.link_eq]

/-- A step lets one µs pass, or runs the front command on the rest of the queue. -/
theorem step_linkRight (h : step s = .next t) (right : linkRight (s.link lk)) : linkRight (t.link lk) := by
  unfold step at h
  split at h
  · obtain rfl := Host.Outcome.next.inj h
    exact right
  next c rest _ => exact exec_linkRight h right

/-- Settles O15, for each link by `step_linkRight`. -/
theorem stepsKeepLinkRecords : Obligations.StepsKeepLinkRecords := fun _ _ ⟨desk, panel⟩ h =>
  ⟨step_linkRight (lk := .desk) h desk, step_linkRight (lk := .panel) h panel⟩

end Sys2Proof.StationLinks

/-! The requests of the code table and the link's checks (R174, R176, R177). -/

namespace Sys2Proof.StationLinks
open Machine Laws

variable {i : Instr} {c : Code} {s : State} {lk : Link} {b : Byte} {args : List Byte}

/-! ### The code table and its requests (R176) -/

/-- The requests a link can send with this last byte, in the order of the code table. -/
def requests (lk : Link) (b : Byte) : List Instr :=
  [.openJob lk b, .addLeg lk b, .commitJob lk b, .cancelJob lk b, .clearJob lk b, .setPriority lk b,
   .mount lk b, .unmount lk b, .skipLeg lk b, .readJob lk b, .readLeg lk b, .readQueue lk b, .writeRoute lk b,
   .eraseRoute lk b, .readRoute lk b, .talk lk b, .endTalk lk b, .readLine lk b, .drumRun lk b,
   .drumStop lk b, .readDrum lk b, .holdQueue lk b, .releaseQueue lk b, .setModes lk b, .collectSlip lk b,
   .reprintSlip lk b, .setCollection lk b, .readSlipState lk b, .writeSetting lk b, .readSetting lk b,
   .writeCurve lk b, .readCurve lk b, .setClock lk b, .readClock lk b, .readAttn lk b, .setAttn lk b,
   .identify lk b, .machineReset lk b]

/-- Each request with its row of the code table. -/
def requestRows (lk : Link) (b : Byte) : List (Instr × Code) := (requests lk b).zip codeTable

theorem requestRows_request? (lk : Link) (b : Byte) :
    (requestRows lk b).map (fun p => p.1.request?) = (requestRows lk b).map fun p => some (p.2, lk, b) := rfl

theorem requestRows_code (lk : Link) (b : Byte) : (requestRows lk b).map Prod.snd = codeTable := rfl

theorem request?_of_mem (h : (i, c) ∈ requestRows lk b) : i.request? = some (c, lk, b) :=
  List.map_inj_left.1 (requestRows_request? lk b) _ h

/-- Each request is found in its row, place by place. -/
theorem mem_requestRows (h : i.request? = some (c, lk, b)) : (i, c) ∈ requestRows lk b := by
  cases i <;> cases h <;> repeat constructor

theorem request?_eq_some_iff : i.request? = some (c, lk, b) ↔ (i, c) ∈ requestRows lk b :=
  ⟨mem_requestRows, request?_of_mem⟩

theorem mem_codeTable_iff : c ∈ codeTable ↔ ∃ i lk b, Instr.request? i = some (c, lk, b) := by
  constructor
  · intro h
    rw [← requestRows_code .desk 0] at h
    obtain ⟨⟨i, d⟩, hi, rfl⟩ := List.mem_map.1 h
    exact ⟨i, .desk, 0, request?_of_mem hi⟩
  · rintro ⟨i, lk, b, hi⟩
    rw [← requestRows_code lk b]
    exact List.mem_map.2 ⟨_, mem_requestRows hi, rfl⟩

/-! ### The checks (R174, R177) -/

/-- Each request of the code table is answered by the link's checks or its block (R173, R174). -/
theorem exec_of_request? (h : i.request? = some (c, lk, b)) :
    ∃ serve, ∀ s, exec i s = request c lk b serve s := by
  cases i <;> cases h <;> exact ⟨_, fun _ => rfl⟩

/-- The check that a request fails, first failure first. -/
theorem linkCheck_of_not_admitted {n : Nat} (h : ¬ Admitted c lk n s) :
    linkCheck c n lk (takeRequest lk s) = some
      (if n < c.lo ∨ c.hi < n then .badLength else if c.permits lk = false then .notPermitted
       else .localMode) := by
  unfold linkCheck
  rw [takeRequest_modes]
  by_cases hn : n < c.lo ∨ c.hi < n
  · simp [hn]
  · cases hp : c.permits lk with
    | false => simp [hn]
    | true =>
      have shut : lk = .desk ∧ s.modes.localMode = true ∧ c.shut = true := by
        by_contra hl
        exact h ⟨by omega, by omega, hp, hl⟩
      simp [hn, shut]

/-- Settles O17: the rows by `requestRows`, the refusals by `linkCheck_of_not_admitted`. -/
theorem linkChecksRefuseInOrder : Obligations.LinkChecksRefuseInOrder := by
  refine ⟨fun i c lk b => request?_eq_some_iff, fun c => mem_codeTable_iff, fun c => ⟨rfl, rfl⟩, ?_⟩
  intro i c lk b args s hi arrives refused
  obtain ⟨serve, hserve⟩ := exec_of_request? hi
  rw [hserve, request_of_arrives serve arrives]
  unfold answer
  dsimp only
  rw [linkCheck_of_not_admitted refused]

end Sys2Proof.StationLinks

/-! UNKNOWN_REQUEST, and the bytes of a select (R172 to R176). -/

namespace Sys2Proof.StationLinks
open Machine Laws

variable {s : State} {lk : Link} {b : Byte} {r : ReqBuf} {p : RepBuf}

/-! ### A frame the code table does not hold, or too long (R174) -/

theorem frame?_of_request (hs : (s.link lk).select = .request) (hr : (s.link lk).request = some r) :
    frame? lk b s = r.complete? b := by simp [frame?, hs, hr]

/-- A frame is complete at a length byte of 0 or above 64, or at its last argument byte (R173). -/
theorem complete?_of_len (hl : r.len = none) (hb : b = 0 ∨ 64 < b.toNat) :
    r.complete? b = some { cmd := r.cmd, n := b.toNat, args := [] } := by
  unfold ReqBuf.complete?; rw [hl]; exact if_pos hb

/-- Any other length byte waits for the arguments (R173). -/
theorem complete?_of_more (hl : r.len = none) (hb : b ≠ 0) (hle : b.toNat ≤ 64) : r.complete? b = none := by
  unfold ReqBuf.complete?
  rw [hl]
  exact if_neg (by rintro (h | h) <;> [exact hb h; omega])

theorem complete?_of_fewer {n : Byte} (hl : r.len = some n) (hn : r.args.length + 1 < n.toNat) :
    r.complete? b = none := by
  unfold ReqBuf.complete?
  rw [hl]
  exact if_neg (Nat.ne_of_lt hn)

theorem complete?_of_args {n : Byte} (hl : r.len = some n) (hn : r.args.length + 1 = n.toNat) :
    r.complete? b = some { cmd := r.cmd, n := n.toNat, args := r.args ++ [b] } := by
  simp [ReqBuf.complete?, hl, hn]

/-- A frame the link refuses unread is taken and answered with that result alone (R174 steps 1 and 2). -/
theorem exec_unknownRequest {f : Frame} {e : Result} (hf : frame? lk b s = some f)
    (he : unknownResult f = some e) : exec (.unknownRequest lk b) s =
      .next (placeReply lk { result := e, data := .empty } (takeRequest lk s)) := by
  change execUnknownRequest lk b s = _
  unfold execUnknownRequest
  simp only [hf, he]

theorem unknownResult_of_long {f : Frame} (h : 64 < f.n) : unknownResult f = some .badLength := if_pos h

theorem unknownResult_of_unknown {f : Frame} (h : f.n ≤ 64) (hc : knownCode f.cmd = false) :
    unknownResult f = some .unknownRequest := by simp [unknownResult, hc, Nat.not_lt.2 h]

theorem knownCode_eq_false (h : codeTable.all (fun c => decide (c.byte ≠ b)) = true) : knownCode b = false := by
  simpa [knownCode] using h

/-- A request taken and answered leaves one record of the link (R173, R174). -/
theorem placeReply_takeRequest (q : Reply) (lk : Link) (s : State) :
    placeReply lk q (takeRequest lk s) = s.setLink lk
      { select := (s.link lk).select
        request := none
        replyState := .ready
        reply := some { reply := q, sent := 0 }
        dout := 0xFF } := by
  unfold placeReply
  rw [takeRequest_link]
  exact setLink_setLink ..

/-- Settles O18: the frame by `complete?_of_len` or `complete?_of_args`, its result by `unknownResult`. -/
theorem unknownAndOverlongRequestsAreRefused : Obligations.UnknownAndOverlongRequestsAreRefused := by
  intro lk b r s hs hr
  have frame := frame?_of_request (b := b) hs hr
  refine ⟨fun hl hb => ?_, fun hc complete => ?_, fun q => ?_⟩
  · rw [complete?_of_len hl (.inr hb)] at frame
    exact exec_unknownRequest frame (unknownResult_of_long hb)
  · have unknown := knownCode_eq_false hc
    rcases complete with ⟨hl, rfl⟩ | ⟨n, hl, hn, hlast⟩
    · rw [complete?_of_len hl (.inl rfl)] at frame
      exact exec_unknownRequest frame (unknownResult_of_unknown (Nat.zero_le _) unknown)
    · rw [complete?_of_args hl hlast] at frame
      exact exec_unknownRequest frame (unknownResult_of_unknown hn unknown)
  · rw [placeReply_takeRequest, hs]

/-! ### The bytes of a select (R172, R173, R175) -/

theorem beginSelect_of_idle (b : Byte) (h : (s.link lk).select = .none) : beginSelect lk b s = s.setLink lk
    (if (s.link lk).replyState = .working ∨ b = 0xFF then { s.link lk with select := .read, dout := 0xFF }
     else { s.link lk with
       select := .request, request := some { cmd := b, len := none, args := [] }, dout := 0xFF }) := by
  unfold beginSelect
  dsimp only
  rw [if_neg (not_not_intro h)]
  split <;> rfl

/-- A select released, by whether its reply is part-way sent (R173, R175; assumption log 11). -/
theorem endSelect_of_busy (part : Bool) (h : (s.link lk).select ≠ .none) : endSelect lk part s = s.setLink lk
    (if (s.link lk).replyState = .sending ∨ (part = true ∧ ((s.link lk).select = .read ∨
        ((s.link lk).select = .request ∧ (s.link lk).request = none)) ∧ (s.link lk).replyState = .ready) then
      { s.link lk with select := .none, request := none, replyState := .empty, reply := none }
     else { s.link lk with select := .none, request := none }) := by
  unfold endSelect
  dsimp only
  rw [if_neg h]
  simp only [sends_iff]
  split <;> rfl

/-- The link sends: a READ select, or a REQUEST select whose request has been taken (assumption log 9). -/
theorem clockByte_of_sends (b : Byte) (h : (s.link lk).sends = true) : clockByte lk b s = sendByte lk s := by
  unfold clockByte
  rcases sends_iff.1 h with hs | ⟨hs, hr⟩
  · simp only [hs]
  · simp only [hs, hr]

theorem clockByte_of_request (b : Byte) (hs : (s.link lk).select = .request)
    (hr : (s.link lk).request = some r) : clockByte lk b s = receiveByte lk r b s := by
  unfold clockByte
  simp only [hs, hr]

/-- A byte that does not complete the frame joins the request buffer (R173). -/
theorem receiveByte_of_incomplete (h : r.complete? b = none) : receiveByte lk r b s =
    s.setLink lk { s.link lk with request := some (r.join b), dout := 0xFF } := by simp [receiveByte, h]

theorem sendByte_of_empty (h : (s.link lk).replyState = .empty) :
    sendByte lk s = s.setLink lk { s.link lk with dout := 0xFE } := by simp [sendByte, h]

theorem sendByte_of_working (h : (s.link lk).replyState = .working) :
    sendByte lk s = s.setLink lk { s.link lk with dout := 0xFF } := by simp [sendByte, h]

/-- A byte of a reply that is not its last (R175). -/
theorem sendByte_of_held (hs : (s.link lk).replyState = .ready ∨ (s.link lk).replyState = .sending)
    (hp : (s.link lk).reply = some p) (hb : p.next? = some (b, false)) :
    sendByte lk s = s.setLink lk
      { s.link lk with replyState := .sending, reply := some { p with sent := p.sent + 1 }, dout := b } := by
  rcases hs with hs | hs <;> simp [sendByte, hs, hp, hb]

/-- The last byte of a reply (R175). -/
theorem readReply_of_last (h : (s.link lk).sends = true)
    (hs : (s.link lk).replyState = .ready ∨ (s.link lk).replyState = .sending)
    (hp : (s.link lk).reply = some p) (hb : p.next? = some (b, true)) :
    readReply lk s = s.setLink lk { s.link lk with replyState := .empty, reply := none, dout := b } := by
  simp [readReply, h, hs, hp, hb]

/-- Settles O19: each byte by its command once its time has passed, a reply's bytes by `next?_eq_some_iff`. -/
theorem aSelectMovesItsBytesOneByOne : Obligations.ASelectMovesItsBytesOneByOne := by
  refine ⟨rfl, fun dt lk b s => ?_⟩
  have start : exec (.selectStart dt lk b) s = .next (beginSelect lk b (elapse dt s)) := rfl
  have release (part) : exec (.selectRelease dt lk part) s = .next (endSelect lk part (elapse dt s)) := rfl
  have clock : exec (.byteClock dt lk b) s = .next (clockByte lk b (elapse dt s)) := rfl
  have last : exec (.replyRead dt lk) s = .next (readReply lk (elapse dt s)) := rfl
  generalize elapse dt s = t at start release clock last
  dsimp only
  refine ⟨fun idle => ?_, fun r select request => ⟨fun hl hb hle => ?_, fun n hl hn => ?_⟩,
    fun sends reply => ?_, fun sends reply => ?_, fun p x sends reply held next => ⟨fun more => ?_, fun done => ?_⟩,
    fun part busy => ?_, fun e => ⟨rfl, fun bs => rfl⟩⟩
  · rw [start, beginSelect_of_idle b idle]
  · rw [clock, clockByte_of_request b select request, receiveByte_of_incomplete (complete?_of_more hl hb hle)]
    simp [ReqBuf.join, hl]
  · rw [clock, clockByte_of_request b select request, receiveByte_of_incomplete (complete?_of_fewer hl hn)]
    simp [ReqBuf.join, hl]
  · rw [clock, clockByte_of_sends b (sends_iff.2 sends), sendByte_of_empty reply]
  · rw [clock, clockByte_of_sends b (sends_iff.2 sends), sendByte_of_working reply]
  · have more' := next?_eq_some_iff.2 ⟨next, decide_eq_false (Nat.ne_of_lt more)⟩
    rw [clock, clockByte_of_sends b (sends_iff.2 sends), sendByte_of_held reply held more']
  · have done' := next?_eq_some_iff.2 ⟨next, decide_eq_true done⟩
    rw [last, readReply_of_last (sends_iff.2 sends) reply held done']
  · rw [release, endSelect_of_busy part busy]

end Sys2Proof.StationLinks

/-! Cause events, READ_ATTN, SET_ATTN and SET_MODES (R180 to R185). -/

namespace Sys2Proof.StationLinks
open Machine Laws

variable {s : State} {lk : Link} {b : Byte}

/-- Settles O20: each route of a cause event by computation. -/
theorem causeEventsLatchEnabledCauses : Obligations.CauseEventsLatchEnabledCauses := by
  refine ⟨fun s c desk panel => ?_, fun a c => ?_, rfl, fun s owner => ⟨rfl, rfl, rfl, rfl, rfl, rfl, rfl⟩⟩
  · cases desk <;> cases panel <;> rfl
  · unfold Attn.latch
    by_cases h : a.enables &&& c.bit = 0
    · rw [if_pos h, if_neg (not_not_intro h)]
    · rw [if_neg h, if_pos h]
      rfl

/-! ### READ_ATTN, SET_ATTN and SET_MODES (R182 to R185) -/

/-- A byte that carries a flag is 0 or 1. -/
theorem flagOf?_eq (b : Byte) : flagOf? b = if 1 < b.toNat then none else some (b == 1) := by
  unfold flagOf?
  by_cases h0 : b = 0
  · subst h0; rfl
  · by_cases h1 : b = 1
    · subst h1; rfl
    · have : b.toNat ≠ 0 := fun h => h0 (BitVec.eq_of_toNat_eq h)
      have : b.toNat ≠ 1 := fun h => h1 (BitVec.eq_of_toNat_eq h)
      rw [if_neg h0, if_neg h1, if_pos (by omega)]

theorem clearLegEnd_eq (s : State) : clearLegEnd s =
    if s.modes.legEnd = true then prompt { s with modes := { s.modes with legEnd := false } } else s := rfl

/-- READ_ATTN drops the link's latches and ATTN, and on the panel link the leg-end flag (R182, R185). -/
theorem readAttention_eq (lk : Link) (s : State) : readAttention lk s =
    let t := s.setAttn lk { s.attn lk with latches := 0, line := false }
    if lk = .panel ∧ s.modes.legEnd = true then prompt { t with modes := { s.modes with legEnd := false } }
    else t := by
  unfold readAttention
  rw [cleared_eq]
  cases lk with
  | desk => rfl
  | panel =>
    dsimp only
    rw [clearLegEnd_eq, setAttn_modes]
    simp only [true_and]

/-- The modes take their values; attended mode turned off clears a set leg-end flag (R184, R185). -/
theorem changeModes_eq (x y : Bool) (s : State) : changeModes x y s =
    if y = false ∧ s.modes.legEnd = true then
      prompt { s with modes := { localMode := x, attended := false, legEnd := false } }
    else { s with modes := { localMode := x, attended := y, legEnd := s.modes.legEnd } } := by
  unfold changeModes
  cases y with
  | true => rfl
  | false =>
    simp only [clearLegEnd_eq, true_and]
    rfl

theorem eq_zero_iff_of_flag {g : Byte} (h : ¬ 1 < g.toNat) : g = 0 ↔ g ≠ 1 := by
  constructor
  · rintro rfl; decide
  · intro h1
    have : g.toNat ≠ 1 := fun e => h1 (BitVec.eq_of_toNat_eq e)
    exact BitVec.eq_of_toNat_eq (by simp; omega)

/-- SET_ATTN checks its three bytes and writes all three settings, ATTN applied afresh (R181, R183). -/
theorem serveSetAttn_eq (lk : Link) (e m g : Byte) (s : State) : serveSetAttn lk [e, m, g] s =
    if 128 ≤ e.toNat ∨ 128 ≤ m.toNat ∨ 1 < g.toNat then refuse .badArgument s
    else accept (s.setAttn lk
      { latches := (s.attn lk).latches
        enables := e.setWidth 7
        masks := m.setWidth 7
        globalMask := g == 1
        line := decide (g = 0 ∧ (s.attn lk).latches &&& ~~~(m.setWidth 7) ≠ 0) }) := by
  unfold serveSetAttn
  dsimp only
  rw [flagOf?_eq]
  by_cases hg : 1 < g.toNat
  · rw [if_pos hg, if_pos (.inr (.inr hg))]
  · rw [if_neg hg]
    dsimp only
    by_cases hr : 127 < e.toNat ∨ 127 < m.toNat
    · rw [if_pos hr, if_pos (by omega)]
    · rw [if_neg hr, if_neg (by omega)]
      simp only [Attn.refresh, Attn.asserted, eq_zero_iff_of_flag hg, Bool.decide_and, decide_not,
        Bool.beq_eq_decide_eq]

/-- SET_MODES checks its two bytes and gives both modes their values (R184). -/
theorem serveSetModes_eq (x y : Byte) (s : State) : serveSetModes [x, y] s =
    if 1 < x.toNat ∨ 1 < y.toNat then refuse .badArgument s
    else accept (changeModes (x == 1) (y == 1) s) := by
  unfold serveSetModes
  by_cases hx : 1 < x.toNat
  · simp [flagOf?_eq, hx]
  · by_cases hy : 1 < y.toNat <;> simp [flagOf?_eq, hx, hy]

/-- Settles O21: each request through its block's part, and the parts by their equations. -/
theorem attentionReadAndWritten : Obligations.AttentionReadAndWritten := by
  refine ⟨fun lk b s h => ?_, fun lk b e m g s h => ?_, fun lk b x y s h => ?_⟩
  · change request codeReadAttn lk b _ s = _
    rw [request_of_taken _ h]
    dsimp only [acceptWith]
    rw [readAttention_eq, takeRequest_modes, takeRequest_attn, attnBytes, takeRequest_modes, takeRequest_attn]
    rfl
  · change request codeSetAttn lk b _ s = _
    rw [request_of_taken _ h, serveSetAttn_eq, takeRequest_attn]
    split <;> rfl
  · change request codeSetModes lk b _ s = _
    rw [request_of_taken _ h, serveSetModes_eq]
    split
    · rfl
    next good =>
      have off : (y == 1) = false ↔ y = 0 := by
        rw [eq_zero_iff_of_flag (fun hy => good (.inr hy)), beq_eq_false_iff_ne]
      dsimp only [accept]
      rw [changeModes_eq, takeRequest_modes]
      simp only [off]
      rfl

end Sys2Proof.StationLinks

/-! The lamp frame (R186). -/

namespace Sys2Proof.StationLinks
open Machine Laws PictureJobs

variable {s : State}

/-- What each of the sixteen lamps shows, bit 0 first, with PAPER_OUT as the frame reads it (R186). -/
def lampsLit (paperOut : Bool) (s : State) : List Prop :=
  [ s.line.hook = true, s.dialer.state ≠ .idle, s.modu.mode = .phasing ∨ s.modu.mode = .picture,
    s.modu.mode = .bridge, s.line.state = .talk, s.drum.state = .locked, s.drum.state = .fault,
    s.scan.lampLow = true ∨ s.mountQueue.hold = some .lampLow, paperOut = true, s.mountQueue.hold ≠ none,
    s.modes.localMode = true, s.modes.attended = true ∧ s.modes.legEnd = true, s.slips.owed ≠ [],
    ∃ j x, s.job? j = some x ∧ x.state = .mounted,
    s.mountQueue.entries ≠ [] ∧ ∀ j x, s.job? j = some x → x.state ≠ .mounted, s.slips.printer = .fault ]

/-- The model's conditions are these, lamp by lamp. -/
theorem lampConditions_lit (s : State) :
    List.Forall₂ (fun b c => b = true ↔ c) (lampConditions s) (lampsLit s.pins.paperOut s) := by
  have unmounted : s.mounted?.isNone = true ↔ ∀ j x, s.job? j = some x → x.state ≠ .mounted := by
    rw [Option.isNone_iff_eq_none, mounted?_eq_none_iff]
  have held : s.mountQueue.hold.isSome = true ↔ s.mountQueue.hold ≠ none := Option.isSome_iff_ne_none
  simp only [lampConditions, lampsLit, List.forall₂_cons, List.Forall₂.nil, mounted_isSome_iff, unmounted, held,
    decide_eq_true_eq, Bool.or_eq_true, Bool.and_eq_true, beq_iff_eq, Bool.not_eq_true', List.isEmpty_eq_false_iff,
    and_self]

theorem lampConditions_getD_iff {n : Nat} {c : Prop} (h : (lampsLit s.pins.paperOut s)[n]? = some c) :
    n < 16 ∧ ((lampConditions s).getD n false = true ↔ c) := by
  obtain ⟨hn, rfl⟩ := List.getElem?_eq_some_iff.1 h
  have lit := (List.forall₂_iff_get.1 (lampConditions_lit s)).2 n hn hn
  have hb : n < (lampConditions s).length := hn
  rw [List.getD_eq_getElem _ _ hb]
  exact ⟨hn, lit⟩

/-- A LAMP_FRAME before its 50 ms (R186; assumption log 3). -/
theorem exec_lampFrame_of_early {dt : Nat} {paperOut : Bool} (h : (elapse dt s).aux.lampTime < 50000) :
    exec (.lampFrame dt paperOut) s = .next (elapse dt s) :=
  congrArg Host.Outcome.next (if_neg (Nat.not_le.2 h))

/-- The state in which the conditions of a frame are taken: PAPER_OUT read, and so many µs past the 50 ms. -/
def frameBegun (paperOut : Bool) (past : Nat) (t : State) : State :=
  (t.setPins { t.pins with paperOut := paperOut }).setAux { t.aux with lampTime := past }

theorem exec_lampFrame_of_due {dt : Nat} {paperOut : Bool} (h : 50000 ≤ (elapse dt s).aux.lampTime) :
    exec (.lampFrame dt paperOut) s = .next (
      let u := frameBegun paperOut ((elapse dt s).aux.lampTime - 50000) (elapse dt s)
      u.setPins (u.pins.shiftLamps (lampBits u)).latchLamps) :=
  congrArg Host.Outcome.next (if_pos h)

/-- The bits go out from lamp 15 to lamp 0, as the latch then shows them (R186). -/
theorem lampBits_eq (p : Pins) (u : State) : lampBits u = (List.range 16).map fun i =>
    ((p.shiftLamps (lampBits u)).latchLamps).lampBoard.getLsbD (15 - i) := by
  refine List.ext_getElem rfl fun i hi _ => ?_
  have hlen : (lampConditions u).length = 16 := rfl
  have hi : i < 16 := hi
  rw [List.getElem_map, List.getElem_range, latchLamps_bit p u _ (by omega),
    List.getD_eq_getElem _ _ (by omega)]
  simp only [lampBits, List.getElem_reverse, hlen]

theorem lampsLit_frameBegun (paperOut : Bool) (past : Nat) (t : State) :
    lampsLit (frameBegun paperOut past t).pins.paperOut (frameBegun paperOut past t) = lampsLit paperOut t := rfl

/-- The frame of a state, as the latch puts it on the lamps. -/
def lampFrameOf (u : State) : BitVec 16 := ((u.pins.shiftLamps (lampBits u)).latchLamps).lampBoard

/-- A frame sent changes the lamps' pins and its time alone (R186). -/
theorem frameBegun_latched {paperOut : Bool} {past : Nat} {t u : State} (hu : u = frameBegun paperOut past t) :
    u.setPins (u.pins.shiftLamps (lampBits u)).latchLamps = { t with
      aux := { t.aux with lampTime := past }
      pins := { t.pins with
        paperOut := paperOut
        lampSent := (List.range 16).map fun i => (lampFrameOf u).getLsbD (15 - i)
        lampClocks := t.pins.lampClocks + 16
        lampLatches := t.pins.lampLatches + 1
        lampBoard := lampFrameOf u } } := by
  subst hu
  unfold lampFrameOf
  rw [← lampBits_eq]
  rfl

theorem lampFrameOf_bit {u : State} {n : Nat} {c : Prop} (h : (lampsLit u.pins.paperOut u)[n]? = some c) :
    (lampFrameOf u).getLsbD n = true ↔ c := by
  obtain ⟨hn, shown⟩ := lampConditions_getD_iff h
  unfold lampFrameOf
  rwa [latchLamps_bit u.pins u n hn]

/-- Settles O59: the frame by `frameBegun_latched`, its bits by `lampFrameOf_bit`. -/
theorem eachLampShowsItsConditionAsTheFrameBegins : Obligations.EachLampShowsItsConditionAsTheFrameBegins := by
  intro dt paperOut s
  refine ⟨exec_lampFrame_of_early, fun due => ?_⟩
  refine ⟨lampFrameOf (frameBegun paperOut ((elapse dt s).aux.lampTime - 50000) (elapse dt s)), ?_,
    fun n c hc => lampFrameOf_bit ?_⟩
  · exact (exec_lampFrame_of_due due).trans (congrArg Host.Outcome.next (frameBegun_latched rfl))
  · rw [lampsLit_frameBegun]
    exact hc

end Sys2Proof.StationLinks

/-! The settings store: its table, and what WRITE_SETTING checks, stores and answers (R188 to R191). -/

namespace Sys2Proof.SettingsStore
open Machine Laws PictureJobs

variable {s : State} {k : SettingKind} {n v w lo hi grain : Nat} {val : List Byte} {m x y : Byte}

/-! ### The table (R188) -/

theorem settingKind_eq_station_iff : settingKind? n = some .station ↔ n = 1 := by
  constructor
  · intro h
    unfold settingKind? at h
    split at h <;> cases h
    rfl
  · rintro rfl
    rfl

/-- The numbers of the table: neither STATION_CODE, DRUM_IDLE nor a choice. -/
theorem number_row_of_settingKind (h : settingKind? n = some (.number lo hi grain)) :
    2 ≤ n ∧ n ≤ 28 ∧ n ≠ 15 ∧ n ≠ 24 := by
  unfold settingKind? at h
  split at h <;> cases h <;> decide

theorem choice_row_of_settingKind (h : settingKind? n = some k) (hc : k = .makeBreak ∨ k = .source) :
    n = 24 ∨ n = 29 := by
  unfold settingKind? at h
  rcases hc with rfl | rfl <;> split at h <;> cases h <;> decide

/-- A number, or a code of 0 or 1, is what its setting holds once it is stored. -/
theorem number_store (g : Settings) (hk : settingKind? n = some k) (hs : k ≠ .station)
    (hw : choiceGood k w = true) : (g.store w n).number n = w := by
  have code (h : decide (w ≤ 1) = true) : w = 0 ∨ w = 1 :=
    Nat.le_one_iff_eq_zero_or_eq_one.1 (of_decide_eq_true h)
  unfold settingKind? at hk
  cases k with
  | station => exact absurd rfl hs
  | number lo hi grain | idle => split at hk <;> cases hk <;> rfl
  | makeBreak | source =>
    split at hk <;> cases hk
    obtain rfl | rfl := code hw <;> rfl

theorem wire_store (g : Settings) (hk : settingKind? n = some k) (hs : k ≠ .station)
    (hw : choiceGood k w = true) : (g.store w n).wire n = be2 w := by
  have h1 : n ≠ 1 := fun h => hs (Option.some.inj (hk.symm.trans (settingKind_eq_station_iff.2 h)))
  rw [Settings.wire, if_neg h1, number_store g hk hs hw]

/-- A choice is not brought anywhere (R189). -/
theorem choiceGood_bring (k : SettingKind) (v : Nat) : choiceGood k (k.bring v) = choiceGood k v := by
  cases k <;> rfl

theorem callField_iff : callField n = true ↔ n ∉ [14, 15, 28] := by
  simp [callField, and_assoc]

/-! ### The spacings (R190) -/

/-- What R190 asks of the store after a write of the setting `n`. -/
def Apart (n : Nat) (g : Settings) : Prop :=
  (n ∈ [2, 3] → g.blackHz + 300 ≤ g.whiteHz) ∧
    (n ∈ [4, 5] → g.bridgeHz + 100 ≤ g.stopHz ∨ g.stopHz + 100 ≤ g.bridgeHz)

theorem apart_of_notMem (h : n ∉ [2, 3, 4, 5]) (g : Settings) : Apart n g :=
  ⟨fun hn => absurd (List.mem_append_left [4, 5] hn) h, fun hn => absurd (List.mem_append_right [2, 3] hn) h⟩

theorem spacingKept_iff (n : Nat) (g : Settings) : spacingKept n g = true ↔ Apart n g := by
  simp only [spacingKept, Apart, List.mem_cons, List.not_mem_nil, or_false]
  split
  · rw [decide_eq_true_eq]
    omega
  · split
    · rw [Bool.or_eq_true, decide_eq_true_eq, decide_eq_true_eq]
      omega
    · simp [*]

/-! ### Steps 4 to 6 of R189 -/

theorem callFieldsBusy_takeRequest (lk : Link) (s : State) :
    callFieldsBusy (takeRequest lk s) = true ↔ s.legActive = true ∨ s.line.state = .talk := by
  simp [callFieldsBusy]

theorem storeNumber_of_busy (k : SettingKind) (v : Nat) (hc : n ∉ [14, 15, 28])
    (hb : callFieldsBusy s = true) : storeNumber k n v s = refuse .lineBusy s :=
  if_pos ⟨callField_iff.2 hc, hb⟩

/-- A field that is no call field, or a store that does not refuse them, goes past step 4. -/
theorem not_call_refused (hb : n ∈ [14, 15, 28] ∨ ¬ callFieldsBusy s = true) :
    ¬ (callField n = true ∧ callFieldsBusy s = true) := by
  rw [callField_iff]
  tauto

theorem storeNumber_of_close (hb : n ∈ [14, 15, 28] ∨ ¬ callFieldsBusy s = true)
    (ha : ¬ Apart n (s.settings.store (k.bring v) n)) : storeNumber k n v s = refuse .badArgument s := by
  have close := mt (spacingKept_iff n _).1 ha
  simp only [storeNumber, if_neg (not_call_refused hb), close, Bool.not_false, if_true]

/-- The value as stored is the answer, CLAMPED when it was brought into range or onto its step. -/
theorem storeNumber_of_apart (hk : settingKind? n = some k) (hs : k ≠ .station) (hv : choiceGood k v = true)
    (hb : n ∈ [14, 15, 28] ∨ ¬ callFieldsBusy s = true) (ha : Apart n (s.settings.store (k.bring v) n)) :
    storeNumber k n v s =
      ({ result := if k.bring v = v then .ok else .clamped, data := .bytes (be2 (k.bring v)) },
        idleCompared n (s.setSettings (s.settings.store (k.bring v) n))) := by
  have apart := (spacingKept_iff n _).2 ha
  have wire := wire_store s.settings hk hs ((choiceGood_bring k v).trans hv)
  simp only [storeNumber, if_neg (not_call_refused hb), apart, Bool.not_true, Bool.false_eq_true, if_false,
    storedReply, wire, decide_eq_true_eq, ne_eq, ite_not]

/-! ### WRITE_SETTING by the kind of its setting (R189) -/

theorem serveWriteSetting_of_none (h : settingKind? m.toNat = none) (val : List Byte) (s : State) :
    serveWriteSetting (m :: val) s = refuse .badArgument s := by
  simp only [serveWriteSetting, h]

theorem serveWriteSetting_of_station (h : m.toNat = 1) (val : List Byte) (s : State) :
    serveWriteSetting (m :: val) s = storeStation val s := by
  simp only [serveWriteSetting, settingKind_eq_station_iff.2 h]

theorem serveWriteSetting_of_length (hk : settingKind? m.toNat = some k) (hs : k ≠ .station)
    (hv : val.length ≠ 2) (s : State) : serveWriteSetting (m :: val) s = refuse .badArgument s := by
  have short : ∀ x y, val ≠ [x, y] := fun x y h => hv (by rw [h]; rfl)
  simp only [serveWriteSetting, hk]

theorem serveWriteSetting_of_kind (hk : settingKind? m.toNat = some k) (hs : k ≠ .station) (x y : Byte)
    (s : State) : serveWriteSetting [m, x, y] s =
      if choiceGood k (num2 x y) = true then storeNumber k m.toNat (num2 x y) s else refuse .badArgument s := by
  simp only [serveWriteSetting, hk]

/-! ### STATION_CODE (R188, R189) -/

theorem readAll_digitOf_eq_some_iff (bs : List Byte) (ds : List (Fin 10)) :
    readAll digitOf? bs = some ds ↔ digitsText ds = bs := readAll_eq_some_iff digitOf_eq_some_iff bs ds

theorem digitsText_length (ds : List (Fin 10)) : (digitsText ds).length = ds.length := List.length_map _

/-- A station code is 1 to 8 digits. -/
theorem storeStation_of_not_code (h : ¬ ∃ ds, 1 ≤ ds.length ∧ ds.length ≤ 8 ∧ digitsText ds = val)
    (s : State) : storeStation val s = refuse .badArgument s := by
  unfold storeStation
  cases hd : readAll digitOf? val with
  | none => rfl
  | some ds =>
    have text := (readAll_digitOf_eq_some_iff val ds).1 hd
    refine if_pos ?_
    by_contra hc
    obtain ⟨hne, hle⟩ := not_or.1 hc
    have : 0 < val.length := List.length_pos_iff.2 hne
    have : ds.length = val.length := text ▸ (digitsText_length ds).symm
    exact h ⟨ds, by omega, by omega, text⟩

theorem storeStation_of_code {ds : List (Fin 10)} (h1 : 1 ≤ ds.length) (h8 : ds.length ≤ 8) (s : State) :
    storeStation (digitsText ds) s = if callFieldsBusy s = true then refuse .lineBusy s
      else ({ result := .ok, data := .bytes (digitsText ds) },
        s.setSettings { s.settings with stationCode := ds }) := by
  have len := digitsText_length ds
  have good : ¬ (digitsText ds = [] ∨ 8 < (digitsText ds).length) := by
    rw [← List.length_eq_zero_iff]
    omega
  simp only [storeStation, (readAll_digitOf_eq_some_iff _ ds).2 rfl, if_neg good]
  rfl

end Sys2Proof.SettingsStore

/-! The table of settings, and WRITE_SETTING from its frame to its reply (R188 to R191). -/

namespace Sys2Proof.SettingsStore
open Machine Laws PictureJobs

variable {s : State} {lk : Link} {b m x y : Byte} {k : SettingKind}

theorem exec_writeSetting {args : List Byte} (h : Taken codeWriteSetting lk b args s) :
    exec (.writeSetting lk b) s = answered lk (serveWriteSetting args (takeRequest lk s)) :=
  request_of_taken serveWriteSetting h

/-- The number's bytes past the checks of its kind: steps 4 to 6 of R189 remain. -/
theorem exec_writeSetting_of_kind (h : Taken codeWriteSetting lk b [m, x, y] s)
    (hk : settingKind? m.toNat = some k) (hs : k ≠ .station) (hv : choiceGood k (num2 x y) = true) :
    exec (.writeSetting lk b) s = answered lk (storeNumber k m.toNat (num2 x y) (takeRequest lk s)) := by
  rw [exec_writeSetting h, serveWriteSetting_of_kind hk hs, if_pos hv]

theorem not_busy (lk : Link) (h : s.legActive = false ∧ s.line.state ≠ .talk) :
    ¬ callFieldsBusy (takeRequest lk s) = true := by
  obtain ⟨leg, talk⟩ := h
  rw [callFieldsBusy_takeRequest]
  simp [leg, talk]

/-- Only a write of DRUM_IDLE is compared with the idle time (R59). -/
theorem idleCompared_of_ne {n : Nat} (h : n ≠ 15) (s : State) : idleCompared n s = s :=
  if_neg fun hc => h hc.1

/-! ### The refusals, and STATION_CODE -/

theorem writeSetting_badForm {val : List Byte} (h : Taken codeWriteSetting lk b (m :: val) s)
    (hm : m.toNat = 0 ∨ 29 < m.toNat ∨ (m.toNat ≠ 1 ∧ val.length ≠ 2)) :
    exec (.writeSetting lk b) s = refused .badArgument lk s := by
  rw [exec_writeSetting h]
  cases hk : settingKind? m.toNat with
  | none => rw [serveWriteSetting_of_none hk, answered_refuse]
  | some k =>
    have known := (settingKind_isSome_iff m.toNat).1 (by rw [hk]; rfl)
    obtain ⟨hn, hlen⟩ : m.toNat ≠ 1 ∧ val.length ≠ 2 := by tauto
    have hs : k ≠ .station := fun h => hn (settingKind_eq_station_iff.1 (hk.trans (congrArg some h)))
    rw [serveWriteSetting_of_length hk hs hlen, answered_refuse]

theorem writeSetting_station {val : List Byte} (h : Taken codeWriteSetting lk b (m :: val) s) (hm : m = 1) :
    exec (.writeSetting lk b) s = answered lk (storeStation val (takeRequest lk s)) := by
  rw [exec_writeSetting h, serveWriteSetting_of_station (by rw [hm]; rfl)]

theorem writeSetting_stationCode {ds : List (Fin 10)}
    (h : Taken codeWriteSetting lk b (m :: digitsText ds) s) (hm : m = 1) (h1 : 1 ≤ ds.length)
    (h8 : ds.length ≤ 8) : exec (.writeSetting lk b) s = .next
      (if s.legActive ∨ s.line.state = .talk then
        placeReply lk { result := .lineBusy, data := .empty } (takeRequest lk s)
       else placeReply lk { result := .ok, data := .bytes (digitsText ds) }
        { takeRequest lk s with settings := { s.settings with stationCode := ds } }) := by
  rw [writeSetting_station h hm, storeStation_of_code h1 h8, takeRequest_settings]
  simp only [callFieldsBusy_takeRequest]
  split <;> rfl

/-! ### The numbers -/

section
variable {least most grain : Nat}

theorem writeSetting_number_busy (h : Taken codeWriteSetting lk b [m, x, y] s)
    (hk : settingKind? m.toNat = some (.number least most grain)) (hm : m.toNat ∉ [14, 28])
    (hb : s.legActive = true ∨ s.line.state = .talk) :
    exec (.writeSetting lk b) s = refused .lineBusy lk s := by
  obtain ⟨-, -, h15, -⟩ := number_row_of_settingKind hk
  have field : m.toNat ∉ [14, 15, 28] := by simp_all
  rw [exec_writeSetting_of_kind h hk (by simp) rfl,
    storeNumber_of_busy _ _ field ((callFieldsBusy_takeRequest lk s).2 hb), answered_refuse]

/-- A number that the call fields' check lets pass is stored where R190 allows it. -/
theorem writeSetting_number_free (h : Taken codeWriteSetting lk b [m, x, y] s)
    (hk : settingKind? m.toNat = some (.number least most grain))
    (hb : m.toNat ∈ [14, 28] ∨ (s.legActive = false ∧ s.line.state ≠ .talk)) {kept : Nat}
    (hkept : (SettingKind.number least most grain).bring (num2 x y) = kept) :
    (¬ Apart m.toNat (s.settings.store kept m.toNat) →
      exec (.writeSetting lk b) s = refused .badArgument lk s) ∧
    (Apart m.toNat (s.settings.store kept m.toNat) → exec (.writeSetting lk b) s = .next (placeReply lk
      { result := if kept = num2 x y then .ok else .clamped, data := .bytes (be2 kept) }
      { takeRequest lk s with settings := s.settings.store kept m.toNat })) := by
  subst hkept
  obtain ⟨-, -, h15, -⟩ := number_row_of_settingKind hk
  have free : m.toNat ∈ [14, 15, 28] ∨ ¬ callFieldsBusy (takeRequest lk s) = true :=
    hb.imp (by simp; tauto) (not_busy lk)
  have same := takeRequest_settings lk s
  rw [exec_writeSetting_of_kind h hk (by simp) rfl]
  refine ⟨fun ha => ?_, fun ha => ?_⟩
  · rw [storeNumber_of_close free (by rwa [same]), answered_refuse]
  · rw [storeNumber_of_apart hk (by simp) rfl free (by rwa [same]), idleCompared_of_ne h15, same]
    rfl

end

/-! ### DRUM_IDLE and the two choices -/

theorem writeSetting_drumIdle (h : Taken codeWriteSetting lk b [15, x, y] s) {kept : Nat}
    (hkept : SettingKind.idle.bring (num2 x y) = kept) {t : State}
    (ht : t = { takeRequest lk s with settings := { s.settings with drumIdle := kept } }) :
    exec (.writeSetting lk b) s = .next (placeReply lk
      { result := if kept = num2 x y then .ok else .clamped, data := .bytes (be2 kept) }
      (if idleStopDue t then drumBraking t else t)) := by
  subst hkept ht
  have hk : settingKind? (15 : Byte).toNat = some .idle := rfl
  rw [exec_writeSetting_of_kind h hk (by simp) rfl,
    storeNumber_of_apart hk (by simp) rfl (.inl (by decide)) (apart_of_notMem (by decide) _),
    takeRequest_settings]
  unfold idleCompared
  simp only [show (15 : Byte).toNat = 15 from rfl, true_and]
  rfl

theorem be2_num2_of_le (h : num2 x y ≤ 1) : be2 (num2 x y) = [0, y] := by
  rw [num2_eq] at h ⊢
  have hi : x.toNat = 0 := by omega
  have high : (256 * x.toNat + y.toNat) / 256 = 0 := by omega
  have low : 256 * x.toNat + y.toNat = y.toNat := by omega
  rw [be2, high, low, BitVec.ofNat_toNat, BitVec.setWidth_eq]
  rfl

/-- A choice is stored by its code, 0 or 1 (R188, R189). -/
theorem writeSetting_choice (h : Taken codeWriteSetting lk b [m, x, y] s)
    (hk : settingKind? m.toNat = some k) (hc : k = .makeBreak ∨ k = .source) :
    exec (.writeSetting lk b) s = .next
      (if 1 < num2 x y then placeReply lk { result := .badArgument, data := .empty } (takeRequest lk s)
       else if s.legActive ∨ s.line.state = .talk then
        placeReply lk { result := .lineBusy, data := .empty } (takeRequest lk s)
       else placeReply lk { result := .ok, data := .bytes [0, y] } { takeRequest lk s with
        settings := s.settings.store (num2 x y) m.toNat }) := by
  have hs : k ≠ .station := by rintro rfl; simp at hc
  have good : choiceGood k (num2 x y) = true ↔ ¬ 1 < num2 x y := by
    rw [Nat.not_lt]
    rcases hc with rfl | rfl <;> exact decide_eq_true_iff
  have brought : k.bring (num2 x y) = num2 x y := by rcases hc with rfl | rfl <;> rfl
  have hm : m.toNat = 24 ∨ m.toNat = 29 := choice_row_of_settingKind hk hc
  by_cases hv : 1 < num2 x y
  · rw [if_pos hv, exec_writeSetting h, serveWriteSetting_of_kind hk hs, if_neg fun hg => good.1 hg hv]
    rfl
  have answer := exec_writeSetting_of_kind h hk hs (good.2 hv)
  rw [if_neg hv, answer]
  by_cases hb : s.legActive = true ∨ s.line.state = .talk
  · have field : m.toNat ∉ [14, 15, 28] := by rcases hm with hm | hm <;> rw [hm] <;> decide
    rw [if_pos hb, storeNumber_of_busy _ _ field ((callFieldsBusy_takeRequest lk s).2 hb)]
    rfl
  · have free : m.toNat ∈ [14, 15, 28] ∨ ¬ callFieldsBusy (takeRequest lk s) = true :=
      .inr (mt (callFieldsBusy_takeRequest lk s).1 hb)
    have unspaced : m.toNat ∉ [2, 3, 4, 5] := by rcases hm with hm | hm <;> rw [hm] <;> decide
    rw [if_neg hb, storeNumber_of_apart hk hs (good.2 hv) free (apart_of_notMem unspaced _),
      idleCompared_of_ne (by omega), takeRequest_settings, brought, if_pos rfl,
      be2_num2_of_le (Nat.not_lt.1 hv)]
    rfl

/-- Settles O36: the table row by row, then WRITE_SETTING by the kind of its setting. -/
theorem settingsAreBroughtIntoRangeAndStored : Obligations.SettingsAreBroughtIntoRangeAndStored := by
  refine ⟨?table, fun _ _ _ _ => number_row_of_settingKind, ?others, ?station, ?numbers, ?idle, ?choices⟩
  case table =>
    intro n least most grain read write h
    iterate 25
      cases h with
      | head => exact ⟨rfl, fun _ _ => ⟨rfl, rfl⟩⟩
      | tail _ h => ?_
    cases h
  case others =>
    refine fun g => ⟨rfl, ?_, ?_⟩
    · cases h : g.makeBreak <;> simp [Settings.number, MakeBreak.code, h]
    · cases h : g.positionSource <;> simp [Settings.number, PosSource.code, h]
  case station =>
    refine fun lk b n val s h => ⟨writeSetting_badForm h, fun hn => ⟨fun hd => ?_, ?_⟩⟩
    · rw [writeSetting_station h hn, storeStation_of_not_code hd]
      rfl
    · rintro ds h1 h8 rfl
      exact writeSetting_stationCode h hn h1 h8
  case numbers =>
    intro lk b n hi lo s least most grain h hk v kept g far
    have hv : num2 hi lo = v := num2_eq hi lo
    have hkept : (SettingKind.number least most grain).bring (num2 hi lo) = kept := by rw [hv]; rfl
    refine ⟨fun hb => writeSetting_number_busy h hk hb.1 hb.2, fun hb => ?_⟩
    rw [← hv]
    exact writeSetting_number_free h hk hb hkept
  case idle =>
    intro lk b hi lo s h v kept t
    have hv : num2 hi lo = v := num2_eq hi lo
    rw [← hv]
    exact writeSetting_drumIdle h (by rw [hv]; rfl) rfl
  case choices =>
    intro lk b n hi lo s h hn v
    have hv : num2 hi lo = v := num2_eq hi lo
    rcases hn with rfl | rfl
    · rw [writeSetting_choice h rfl (.inl rfl), hv]
      rfl
    · rw [writeSetting_choice h rfl (.inr rfl), hv]
      rfl

end Sys2Proof.SettingsStore

/-! Every step keeps the settings, the tone curve and the station clock in their ranges (R188, R190, R193, R194). -/

namespace Sys2Proof.SettingsStore
open Machine Laws PictureJobs Directory Calls

variable {s t u : State} {lk : Link} {b : Byte} {k : SettingKind} {n v w lo hi grain : Nat} {g : Settings}

/-! ### A number brought into its range and onto its step (R188, R189) -/

/-- What the row of a setting asks of the number that it holds (R188). -/
def Fits : SettingKind → Nat → Prop
  | .number lo hi grain, v => within lo hi v ∧ grain ∣ v
  | .idle, v => v = 0 ∨ within 10 600 v
  | _, _ => True

theorem number_row_grain (h : settingKind? n = some (.number lo hi grain)) : lo ≤ hi ∧ grain ∣ lo := by
  unfold settingKind? at h
  split at h <;> cases h <;> decide

/-- The least value lies on a step itself, so rounding down does not leave the range. -/
theorem bring_fits (hk : settingKind? n = some k) (v : Nat) : Fits k (k.bring v) := by
  cases k with
  | number lo hi grain =>
    obtain ⟨range, onGrain⟩ := number_row_grain hk
    have least : lo ≤ max lo (min hi v) := le_max_left ..
    have most : max lo (min hi v) ≤ hi := max_le range (min_le_left ..)
    refine ⟨⟨?_, (Nat.div_mul_le_self ..).trans most⟩, Nat.dvd_mul_left ..⟩
    calc lo = lo / grain * grain := (Nat.div_mul_cancel onGrain).symm
      _ ≤ max lo (min hi v) / grain * grain := Nat.mul_le_mul_right _ (Nat.div_le_div_right least)
  | idle =>
    by_cases h : v = 0
    · exact .inl (if_pos h)
    · refine .inr ?_
      rw [SettingKind.bring, if_neg h]
      exact ⟨le_max_left .., max_le (by decide) (min_le_left ..)⟩
  | station | makeBreak | source => exact trivial

/-! ### A setting stored (R188, R190) -/

/-- The other settings stay, and the one stored holds what its row asks. -/
theorem store_ranges (hg : rangesRight g) (hk : settingKind? n = some k) (hw : Fits k w) :
    rangesRight (g.store w n) := by
  unfold settingKind? at hk
  unfold rangesRight at hg ⊢
  split at hk <;> cases hk <;> simp_all [Fits, Settings.store]

theorem store_pictureTones (g : Settings) (w : Nat) (h : n ∉ [2, 3]) :
    (g.store w n).blackHz = g.blackHz ∧ (g.store w n).whiteHz = g.whiteHz := by
  unfold Settings.store
  split <;> simp_all

theorem store_endTones (g : Settings) (w : Nat) (h : n ∉ [4, 5]) :
    (g.store w n).bridgeHz = g.bridgeHz ∧ (g.store w n).stopHz = g.stopHz := by
  unfold Settings.store
  split <;> simp_all

/-- The spacing that the write does not check is between two settings that it leaves (R190). -/
theorem store_spacing (hg : spacingRight g) (ha : Apart n (g.store w n)) : spacingRight (g.store w n) := by
  obtain ⟨picture, ends⟩ := hg
  obtain ⟨pictureChecked, endsChecked⟩ := ha
  constructor
  · by_cases h : n ∈ [2, 3]
    · exact pictureChecked h
    · obtain ⟨black, white⟩ := store_pictureTones g w h
      rwa [black, white]
  · by_cases h : n ∈ [4, 5]
    · exact endsChecked h
    · obtain ⟨bridge, stop⟩ := store_endTones g w h
      rwa [bridge, stop]

/-! ### WRITE_SETTING keeps the settings in their ranges (R189) -/

theorem storeStation_right (val : List Byte) (h : SettingsRight u) : SettingsRight (storeStation val u).2 := by
  by_cases hd : ∃ ds, 1 ≤ ds.length ∧ ds.length ≤ 8 ∧ digitsText ds = val
  · obtain ⟨ds, h1, h8, rfl⟩ := hd
    rw [storeStation_of_code h1 h8]
    split
    · exact h
    · obtain ⟨⟨-, numbers⟩, spacing⟩ := h
      exact ⟨⟨⟨h1, h8⟩, numbers⟩, spacing⟩
  · rwa [storeStation_of_not_code hd]

theorem idleCompared_settings (n : Nat) (s : State) : (idleCompared n s).settings = s.settings := by
  obtain ⟨d, h⟩ := idleCompared_writes n s
  rw [h]
  rfl

theorem storeNumber_right (hk : settingKind? n = some k) (hs : k ≠ .station) (hv : choiceGood k v = true)
    (h : SettingsRight u) : SettingsRight (storeNumber k n v u).2 := by
  by_cases hb : n ∈ [14, 15, 28] ∨ ¬ callFieldsBusy u = true
  · by_cases ha : Apart n (u.settings.store (k.bring v) n)
    · obtain ⟨ranges, spacing⟩ := h
      rw [storeNumber_of_apart hk hs hv hb ha]
      unfold SettingsRight
      rw [idleCompared_settings]
      exact ⟨store_ranges ranges hk (bring_fits hk v), store_spacing spacing ha⟩
    · rwa [storeNumber_of_close hb ha]
  · obtain ⟨field, busy⟩ := not_or.1 hb
    rwa [storeNumber_of_busy k v field (not_not.1 busy)]

theorem serveWriteSetting_right (args : List Byte) (h : SettingsRight u) :
    SettingsRight (serveWriteSetting args u).2 := by
  cases args with
  | nil => exact h
  | cons m val =>
    cases hk : settingKind? m.toNat with
    | none => rwa [serveWriteSetting_of_none hk]
    | some k =>
      by_cases hs : k = .station
      · have station : m.toNat = 1 := settingKind_eq_station_iff.1 (hk.trans (congrArg some hs))
        rw [serveWriteSetting_of_station station]
        exact storeStation_right val h
      by_cases hl : val.length = 2
      · obtain ⟨x, y, rfl⟩ := List.length_eq_two.1 hl
        rw [serveWriteSetting_of_kind hk hs]
        split
        next hv => exact storeNumber_right hk hs hv h
        next => exact h
      · rwa [serveWriteSetting_of_length hk hs hl]

/-! ### The store and the clock in their ranges -/

/-- The settings, the curve and the clock lie in their ranges (R188, R190, R193, R194). -/
def StoreRight (s : State) : Prop := SettingsRight s ∧ CurveRises s ∧ ClockRange s

/-- They stay in their ranges. -/
def StoreKept (s t : State) : Prop := StoreRight s → StoreRight t

/-- What those ranges speak of. -/
def storeAndClock (s : State) : Settings × Vector Nat 17 × Clock := (s.settings, s.curve, s.clock)

theorem storeKept_of_same (h : storeAndClock t = storeAndClock s) : StoreKept s t := by
  simp only [storeAndClock, Prod.mk.injEq] at h
  obtain ⟨settings, curve, clock⟩ := h
  unfold StoreKept StoreRight SettingsRight CurveRises ClockRange
  rw [settings, curve, clock]
  exact id

theorem StoreKept.refl (s : State) : StoreKept s s := id

theorem StoreKept.trans (h : StoreKept s t) (g : StoreKept t u) : StoreKept s u := g ∘ h

theorem storeAndClock_of_kept (h : Kept s t) : storeAndClock t = storeAndClock s :=
  congrArg (fun x : Still => (x.settings, x.curve, x.clock)) h.still

theorem storeKept_of_kept (h : Kept s t) : StoreKept s t := storeKept_of_same (storeAndClock_of_kept h)

theorem setLink_storeKept (lk : Link) (r : LinkRec) (s : State) : StoreKept s (s.setLink lk r) :=
  storeKept_of_same (by cases lk <;> rfl)

theorem setAttn_storeKept (lk : Link) (a : Attn) (s : State) : StoreKept s (s.setAttn lk a) :=
  storeKept_of_same (by cases lk <;> rfl)

theorem storeKept_of_writesLink (h : WritesLink lk s t) : StoreKept s t := by
  obtain ⟨r, rfl⟩ := h
  exact setLink_storeKept lk r s

/-- The settings and the curve stand, and the clock stays in its ranges. -/
theorem storeKept_of_stored (h : stored t = stored s) (hc : ClockRange s → ClockRange t) : StoreKept s t := by
  simp only [stored, Prod.mk.injEq] at h
  obtain ⟨-, settings, curve⟩ := h
  rintro ⟨settingsRight, rises, clock⟩
  refine ⟨?_, ?_, hc clock⟩
  · unfold SettingsRight
    rwa [settings]
  · unfold CurveRises
    rwa [curve]

/-- The day and the second stand while time passes; the cycle count returns to 0 at 32768 (R194). -/
theorem elapse_storeKept (dt : Nat) (s : State) : StoreKept s (elapse dt s) := by
  refine storeKept_of_stored (elapse_stored dt s) fun ⟨day, second, _⟩ => ?_
  unfold ClockRange
  rw [DrumDrive.elapse_clock]
  exact ⟨day, second, Nat.le_of_lt_succ (Nat.mod_lt _ (by decide))⟩

/-- Neither passing time nor a link's record takes anything out of its range. -/
theorem storeKept_of_ran (h : Ran StoreKept s t) : StoreKept s t := by
  cases h with
  | idle => exact .refl s
  | timed dt h => exact (elapse_storeKept dt s).trans h
  | served lk r h => exact (setLink_storeKept lk _ s).trans (h.trans (setLink_storeKept lk _ _))

theorem timed_storeKept {dt : Nat} {f : State → State} (hf : ∀ u, StoreKept u (f u))
    (h : timed dt f s = .next t) : StoreKept s t := storeKept_of_ran (ran_of_timed hf h)

theorem request_storeKept {c : Code} {serve : Serve} (hs : ∀ args u, StoreKept u (serve args u).2)
    (h : request c lk b serve s = .next t) : StoreKept s t := storeKept_of_ran (ran_of_request .refl hs h)

/-! ### The requests that write the settings, the curve or the clock -/

theorem serveWriteSetting_storeKept (args : List Byte) (u : State) :
    StoreKept u (serveWriteSetting args u).2 := by
  rintro ⟨settings, curve, clock⟩
  have right := serveWriteSetting_right args settings
  obtain ⟨x, d, written⟩ := serveWriteSetting_writes args u
  rw [written] at right ⊢
  exact ⟨right, curve, clock⟩

theorem toList_of_curveOf {ps : List Nat} {c : Vector Nat 17} (h : curveOf? ps = some c) : c.toList = ps := by
  unfold curveOf? at h
  split at h <;> cases h
  rfl

/-- The points come as bytes, and are stored only where none is below the one before it (R193). -/
theorem serveWriteCurve_storeKept (args : List Byte) (u : State) : StoreKept u (serveWriteCurve args u).2 := by
  unfold serveWriteCurve
  split
  · exact .refl u
  next c hc =>
    split
    · exact .refl u
    next hr =>
      split
      · exact .refl u
      · rintro ⟨settings, -, clock⟩
        have points : c.toList = args.map BitVec.toNat := toList_of_curveOf hc
        refine ⟨settings, ?_, clock⟩
        unfold CurveRises
        rw [accept_snd, State.setCurve_curve, points]
        refine ⟨(nonDecreasing_iff _).1 (by simpa using hr), fun p hp => ?_⟩
        obtain ⟨byte, -, rfl⟩ := List.mem_map.1 hp
        exact Nat.le_of_lt_succ byte.isLt

theorem setTime_storeKept {day second : Nat} (hd : day ≤ 65535) (hs : second ≤ 86399) (u : State) :
    StoreKept u (setTime day second u) := fun ⟨settings, curve, _⟩ =>
  ⟨settings, curve, hd, hs, Nat.zero_le _⟩

theorem compareRetries_storeKept (u : State) : StoreKept u (compareRetries u) :=
  storeKept_of_kept (compareRetries_kept (Kept.refl u))

theorem serveSetClock_storeKept (args : List Byte) (u : State) : StoreKept u (serveSetClock args u).2 := by
  unfold serveSetClock
  split
  next d1 d0 s2 s1 s0 =>
    split
    · exact .refl u
    next hs =>
      have day : num2 d1 d0 ≤ 65535 := by
        rw [num2_eq]
        omega
      exact (setTime_storeKept day (Nat.not_lt.1 hs) u).trans (compareRetries_storeKept _)
  · exact .refl u

theorem tick_range {c : Clock} (h : c.day ≤ 65535 ∧ c.second ≤ 86399 ∧ c.cycles ≤ 32767) :
    c.tick.day ≤ 65535 ∧ c.tick.second ≤ 86399 ∧ c.tick.cycles ≤ 32767 := by
  rw [tick_eq]
  dsimp only
  split <;> omega

/-- A second carries into the day at 86399, and the day wraps at 65535 (R194). -/
theorem clockTick_storeKept (u : State) : StoreKept u (clockTick u) := by
  have clock : (clockTick u).clock = u.clock.tick := by
    unfold clockTick
    split <;> rfl
  refine storeKept_of_stored (clockTick_stored u) fun range => ?_
  unfold ClockRange
  rw [clock]
  exact tick_range range

/-! ### The other commands beside the blocks -/

theorem clearLegEnd_storeKept (u : State) : StoreKept u (clearLegEnd u) :=
  storeKept_of_kept (clearLegEnd_kept (Kept.refl u))

theorem readAttention_storeKept (lk : Link) (u : State) : StoreKept u (readAttention lk u) := by
  cases lk with
  | desk => exact setAttn_storeKept .desk _ u
  | panel => exact (setAttn_storeKept .panel _ u).trans (clearLegEnd_storeKept _)

theorem serveSetAttn_storeKept (lk : Link) (args : List Byte) (u : State) :
    StoreKept u (serveSetAttn lk args u).2 := by
  unfold serveSetAttn
  split
  · split
    · exact .refl u
    · split
      · exact .refl u
      · exact setAttn_storeKept lk _ u
  · exact .refl u

theorem changeModes_storeKept (x y : Bool) (u : State) : StoreKept u (changeModes x y u) := by
  have written (m : Modes) : StoreKept u (u.setModes m) := storeKept_of_same rfl
  unfold changeModes
  split
  · exact written _
  · exact (written _).trans (clearLegEnd_storeKept _)

theorem serveSetModes_storeKept (args : List Byte) (u : State) : StoreKept u (serveSetModes args u).2 := by
  unfold serveSetModes
  split
  · split
    · exact changeModes_storeKept _ _ u
    · exact .refl u
  · exact .refl u

theorem serveWriteRoute_storeKept (args : List Byte) (u : State) : StoreKept u (serveWriteRoute args u).2 := by
  obtain ⟨x, hx⟩ := serveWriteRoute_writes args u
  rw [hx]
  exact storeKept_of_same rfl

theorem serveEraseRoute_storeKept (args : List Byte) (u : State) : StoreKept u (serveEraseRoute args u).2 := by
  obtain ⟨x, hx⟩ := serveEraseRoute_writes args u
  rw [hx]
  exact storeKept_of_same rfl

/-- Machine reset keeps all three (R188, R193, R194). -/
theorem machineReset_storeKept (u : State) : StoreKept u (machineReset u) := by
  refine storeKept_of_same ?_
  rw [machineReset_eq]
  cases h : u.line.state.hookClosed with
  | false => rw [lineReset_of_open h]; rfl
  | true => rw [lineReset_of_closed h]; rfl

theorem reset_storeRight : StoreRight State.reset := by
  obtain ⟨-, -, -, -, -, settings, curve, clock, -⟩ := DrumDrive.resetHasEveryInvariant
  exact ⟨settings, curve, clock⟩

/-- Power-on reset brings the defaults (R188, R193, R194). -/
theorem powerOnReset_storeKept {coverOpen home loop paperOut busy : Bool}
    (h : exec (.powerOnReset coverOpen home loop paperOut busy) s = .next t) : StoreKept s t := by
  obtain rfl := Host.Outcome.next.inj h
  exact fun _ => storeKept_of_same rfl reset_storeRight

/-! ### Every command and every step -/

theorem exec_storeKept {i : Instr} (h : exec i s = .next t) : StoreKept s t := by
  by_cases hi : writesStill i = false
  · exact storeKept_of_ran ((exec_ran_kept hi h).mono storeKept_of_kept)
  · cases i with
    | selectStart dt lk b =>
      exact timed_storeKept (fun u => storeKept_of_writesLink (beginSelect_writesLink lk b u)) h
    | selectRelease dt lk part =>
      exact timed_storeKept (fun u => storeKept_of_writesLink (endSelect_writesLink lk part u)) h
    | replyRead dt lk =>
      exact timed_storeKept (fun u => storeKept_of_writesLink (readReply_writesLink lk u)) h
    | byteClock dt lk b =>
      exact timed_storeKept (fun u => storeKept_of_writesLink (clockByte_writesLink lk b u)) h
    | writeRoute lk b => exact request_storeKept serveWriteRoute_storeKept h
    | eraseRoute lk b => exact request_storeKept serveEraseRoute_storeKept h
    | writeSetting lk b => exact request_storeKept serveWriteSetting_storeKept h
    | writeCurve lk b => exact request_storeKept serveWriteCurve_storeKept h
    | setClock lk b => exact request_storeKept serveSetClock_storeKept h
    | readAttn lk b => exact request_storeKept (fun _ u => readAttention_storeKept lk u) h
    | setAttn lk b => exact request_storeKept (serveSetAttn_storeKept lk) h
    | setModes lk b => exact request_storeKept serveSetModes_storeKept h
    | machineReset lk b => exact request_storeKept (fun _ u => machineReset_storeKept u) h
    | powerOnReset v w x y z => exact powerOnReset_storeKept h
    | clockSecond dt =>
      refine timed_storeKept (fun u => ?_) (show execClockSecond dt s = .next t from h)
      split
      · exact (clockTick_storeKept u).trans (compareRetries_storeKept _)
      · exact .refl u
    | _ => exact absurd rfl hi

/-- A step lets one µs pass, or runs the front command on the rest of the queue. -/
theorem step_storeKept (h : step s = .next t) : StoreKept s t := by
  unfold step at h
  split at h
  · obtain rfl := Host.Outcome.next.inj h
    exact elapse_storeKept 16 s
  next c rest _ =>
    have rest_kept : StoreKept s (s.setPending rest) := storeKept_of_same rfl
    exact rest_kept.trans (exec_storeKept h)

/-- Settles O11, by `step_storeKept`. -/
theorem stepsKeepTheStoreAndTheClockInRange : Obligations.StepsKeepTheStoreAndTheClockInRange :=
  fun _ _ right h => step_storeKept h right

end Sys2Proof.SettingsStore

/-! The commands that wait, and the one that a step runs (logs 25, 26, 27). -/

namespace Sys2Proof.WaitingCommands
open Machine Laws PictureJobs Directory Calls

variable {s t : State} {lk : Link} {b : Byte} {c : Code} {serve : Serve}

/-! ### The command that a step runs (log 26) -/

theorem step_of_front {i : Instr} {rest : List Instr} (h : s.pending = i :: rest) :
    step s = exec i (s.setPending rest) := by
  unfold step
  rw [h]

/-- Settles O1, by `step_of_front`. -/
theorem stepRunsTheFrontCommand : Obligations.StepRunsTheFrontCommand := fun _ _ _ h => step_of_front h

/-! ### Every command answers a next state (log 27) -/

/-- A byte that completes no frame of the request answers too: with the state as it is (log 10). -/
theorem request_answers (c : Code) (lk : Link) (b : Byte) (serve : Serve) (s : State) :
    ∃ t, request c lk b serve s = .next t := by
  unfold request
  split
  · split
    · exact ⟨_, rfl⟩
    · exact ⟨s, rfl⟩
  · exact ⟨s, rfl⟩

theorem unknownRequest_answers (lk : Link) (b : Byte) (s : State) :
    ∃ t, execUnknownRequest lk b s = .next t := by
  unfold execUnknownRequest
  split
  · split
    · exact ⟨_, rfl⟩
    · exact ⟨s, rfl⟩
  · exact ⟨s, rfl⟩

/-- Settles O3: a command lets its time pass and takes its event, or is a link's request, or is power-on
reset. -/
theorem everyCommandAnswersANextState : Obligations.EveryCommandAnswersANextState := by
  intro i s
  cases i with
  | powerOnReset coverOpen home loop paperOut busy =>
    exact ⟨_, powerOnReset_eq coverOpen home loop paperOut busy s⟩
  | unknownRequest lk b => exact unknownRequest_answers lk b s
  | openJob lk b | addLeg lk b | commitJob lk b | cancelJob lk b | clearJob lk b | setPriority lk b
  | mount lk b | unmount lk b | skipLeg lk b | readJob lk b | readLeg lk b | readQueue lk b
  | writeRoute lk b | eraseRoute lk b | readRoute lk b | talk lk b | endTalk lk b | readLine lk b
  | drumRun lk b | drumStop lk b | readDrum lk b | holdQueue lk b | releaseQueue lk b | setModes lk b
  | collectSlip lk b | reprintSlip lk b | setCollection lk b | readSlipState lk b | writeSetting lk b
  | readSetting lk b | writeCurve lk b | readCurve lk b | setClock lk b | readClock lk b | readAttn lk b
  | setAttn lk b | identify lk b | machineReset lk b => exact request_answers _ lk b _ s
  | _ =>
    -- A timed command answers with its event taken once its time has passed (log 2).
    exact ⟨_, rfl⟩

/-! ### What a command's surroundings and the shared operations do to the commands that wait (log 26) -/

theorem pending_of_kept (h : Kept s t) : t.pending = s.pending := congrArg Still.pending h.still

theorem setLink_pending (lk : Link) (r : LinkRec) (s : State) : (s.setLink lk r).pending = s.pending := by
  cases lk <;> rfl

theorem setAttn_pending (lk : Link) (a : Attn) (s : State) : (s.setAttn lk a).pending = s.pending := by
  cases lk <;> rfl

theorem pending_of_writesLink (h : WritesLink lk s t) : t.pending = s.pending := by
  obtain ⟨r, rfl⟩ := h
  exact setLink_pending lk r s

theorem elapse_pending (dt : Nat) (s : State) : (elapse dt s).pending = s.pending := by
  rw [DrumDrive.elapse_frame]

theorem timed_pending {dt : Nat} {f : State → State} (hf : ∀ u, (f u).pending = u.pending)
    (h : timed dt f s = .next t) : t.pending = s.pending :=
  timed_keeps State.pending (elapse_pending dt s) hf h

theorem timed_pending_of_writesLink {dt : Nat} {f : State → State} (hf : ∀ u, WritesLink lk u (f u))
    (h : timed dt f s = .next t) : t.pending = s.pending :=
  timed_pending (fun u => pending_of_writesLink (hf u)) h

theorem request_pending (hs : ∀ args u, (serve args u).2.pending = u.pending)
    (h : request c lk b serve s = .next t) : t.pending = s.pending :=
  request_keeps State.pending setLink_pending hs h

/-- Neither passing time nor a link's record holds a waiting command. -/
theorem pending_of_ran (h : Ran Kept s t) : t.pending = s.pending := by
  cases h with
  | idle => rfl
  | timed dt h => exact (pending_of_kept h).trans (elapse_pending dt s)
  | served lk r h => rw [placeReply_pending, pending_of_kept h, takeRequest_pending]

/-! ### The directory, the store and the clock (R27, R188, R193 to R195) -/

theorem serveWriteRoute_pending (args : List Byte) (u : State) :
    (serveWriteRoute args u).2.pending = u.pending := by
  obtain ⟨x, hx⟩ := serveWriteRoute_writes args u
  rw [hx, State.setRoutes_pending]

theorem serveEraseRoute_pending (args : List Byte) (u : State) :
    (serveEraseRoute args u).2.pending = u.pending := by
  obtain ⟨x, hx⟩ := serveEraseRoute_writes args u
  rw [hx, State.setRoutes_pending]

theorem serveWriteSetting_pending (args : List Byte) (u : State) :
    (serveWriteSetting args u).2.pending = u.pending := by
  obtain ⟨x, d, hx⟩ := serveWriteSetting_writes args u
  rw [hx, State.setDrum_pending, State.setSettings_pending]

theorem serveWriteCurve_pending (args : List Byte) (u : State) :
    (serveWriteCurve args u).2.pending = u.pending := by
  obtain ⟨x, hx⟩ := serveWriteCurve_writes args u
  rw [hx, State.setCurve_pending]

theorem compareRetries_pending (u : State) : (compareRetries u).pending = u.pending :=
  pending_of_kept (compareRetries_kept (Kept.refl u))

theorem serveSetClock_pending (args : List Byte) (u : State) :
    (serveSetClock args u).2.pending = u.pending := by
  unfold serveSetClock
  split
  · split
    · rfl
    · exact compareRetries_pending _
  · rfl

theorem clockTick_pending (u : State) : (clockTick u).pending = u.pending := by
  unfold clockTick
  split <;> rfl

theorem clockSecond_pending {dt : Nat} (h : execClockSecond dt s = .next t) : t.pending = s.pending := by
  refine timed_pending (fun u => ?_) h
  split
  · rw [compareRetries_pending, clockTick_pending]
  · rfl

/-! ### Attention and modes (R182 to R185) -/

theorem clearLegEnd_pending (u : State) : (clearLegEnd u).pending = u.pending :=
  pending_of_kept (clearLegEnd_kept (Kept.refl u))

theorem readAttention_pending (lk : Link) (u : State) : (readAttention lk u).pending = u.pending := by
  cases lk with
  | desk => exact setAttn_pending .desk _ u
  | panel => exact (clearLegEnd_pending _).trans (setAttn_pending .panel _ u)

theorem serveSetAttn_pending (lk : Link) (args : List Byte) (u : State) :
    (serveSetAttn lk args u).2.pending = u.pending := by
  unfold serveSetAttn
  split
  · split
    · rfl
    · split
      · rfl
      · exact setAttn_pending lk _ u
  · rfl

theorem changeModes_pending (x y : Bool) (u : State) : (changeModes x y u).pending = u.pending := by
  unfold changeModes
  split
  · rfl
  · exact clearLegEnd_pending _

theorem serveSetModes_pending (args : List Byte) (u : State) :
    (serveSetModes args u).2.pending = u.pending := by
  unfold serveSetModes
  split
  · split
    · exact changeModes_pending _ _ u
    · rfl
  · rfl

/-! ### The resets (R26, R151, R179) -/

theorem machineReset_pending (u : State) : (machineReset u).pending = u.pending := by
  rw [machineReset_eq]
  cases h : u.line.state.hookClosed with
  | false => rw [lineReset_of_open h]
  | true => rw [lineReset_of_closed h]

/-- Power-on reset keeps the commands that wait (log 25). -/
theorem powerOnReset_pending {coverOpen home loop paperOut busy : Bool}
    (h : exec (.powerOnReset coverOpen home loop paperOut busy) s = .next t) : t.pending = s.pending := by
  rw [powerOnReset_eq] at h
  obtain rfl := Host.Outcome.next.inj h
  rfl

/-! ### Every command -/

/-- Settles O4: the commands of the blocks by what their operations keep, each other command by what it
writes. -/
theorem commandsKeepTheWaitingCommands : Obligations.CommandsKeepTheWaitingCommands := by
  intro i s t h
  by_cases hi : writesStill i = false
  · exact pending_of_ran (exec_ran_kept hi h)
  · cases i with
    | selectStart dt lk b => exact timed_pending_of_writesLink (beginSelect_writesLink lk b) h
    | selectRelease dt lk part => exact timed_pending_of_writesLink (endSelect_writesLink lk part) h
    | replyRead dt lk => exact timed_pending_of_writesLink (readReply_writesLink lk) h
    | byteClock dt lk b => exact timed_pending_of_writesLink (clockByte_writesLink lk b) h
    | writeRoute lk b => exact request_pending serveWriteRoute_pending h
    | eraseRoute lk b => exact request_pending serveEraseRoute_pending h
    | writeSetting lk b => exact request_pending serveWriteSetting_pending h
    | writeCurve lk b => exact request_pending serveWriteCurve_pending h
    | setClock lk b => exact request_pending serveSetClock_pending h
    | clockSecond dt => exact clockSecond_pending h
    | readAttn lk b => exact request_pending (fun _ u => readAttention_pending lk u) h
    | setAttn lk b => exact request_pending (serveSetAttn_pending lk) h
    | setModes lk b => exact request_pending serveSetModes_pending h
    | machineReset lk b => exact request_pending (fun _ u => machineReset_pending u) h
    | powerOnReset coverOpen home loop paperOut busy => exact powerOnReset_pending h
    | _ => exact absurd rfl hi

end Sys2Proof.WaitingCommands
